-- ==== Sys2Proof/Word.lean ====
section
/-! DEFINITION. The word types of the Portum (R5, R6): bytes, 64-bit registers, 128-bit capabilities. -/

namespace Sys2Proof

/-- One byte. -/
abbrev Byte := BitVec 8

/-- A 64-bit register, control-space or core (R7). -/
abbrev Word := BitVec 64

/-- A string of bytes, lowest address first (R6). -/
abbrev Bytes := List Byte

end Sys2Proof
end

