-- ==== Sys2Proof/Machine/Bits.lean ====
section
/-! DEFINITION. Bit fields, byte order, signed values and the two cyclic redundancy checks. -/

namespace Sys2Proof.Machine

/-- Bits `lo + n - 1` to `lo` of a number. -/
def bitsOf (x lo n : Nat) : Nat := (x >>> lo) % 2 ^ n

/-- Bit `i` of a number. -/
def bitOf (x i : Nat) : Bool := x.testBit i

/-- The number with bit `i` set. -/
def setBitOf (x i : Nat) : Nat := x ||| (1 <<< i)

/-- The number with bit `i` cleared. -/
def clearBitOf (x i : Nat) : Nat := if x.testBit i then x - 2 ^ i else x

/-- A Bool as a bit. -/
def b2n (b : Bool) : Nat := if b then 1 else 0

/-- A number's `n` bytes, least significant first (R5). -/
def leBytes : Nat → Nat → Bytes
  | 0, _ => []
  | n + 1, x => BitVec.ofNat 8 x :: leBytes n (x / 256)

/-- A number from its bytes, least significant first (R5). -/
def leNat : Bytes → Nat
  | [] => 0
  | b :: l => b.toNat + 256 * leNat l

/-- A number's `n` bytes, most significant first, for fields of published standards (R6). -/
def beBytes (n x : Nat) : Bytes := (leBytes n x).reverse

/-- Bytes `off` to `off + n - 1` of a string, as a number. -/
def fieldAt (b : Bytes) (off n : Nat) : Nat := leNat ((b.drop off).take n)

/-- Bytes `off` to `off + n - 1` of a string. -/
def sliceAt (b : Bytes) (off n : Nat) : Bytes := (b.drop off).take n

/-- A string of `n` zero bytes. -/
def zeros (n : Nat) : Bytes := List.replicate n 0

/-- The string cut or filled with zeros to `n` bytes. -/
def fitTo (n : Nat) (b : Bytes) : Bytes := b.take n ++ zeros (n - b.length)

/-- A `w`-bit pattern read as a two's-complement integer. -/
def toSigned (w x : Nat) : Int := if x % 2 ^ w < 2 ^ (w - 1) then (x % 2 ^ w : Nat) else (x % 2 ^ w : Nat) - (2 ^ w : Nat)

/-- The `w`-bit two's-complement pattern of an integer. -/
def ofSigned (w : Nat) (i : Int) : Nat := (i % (2 ^ w : Nat)).toNat

/-- An integer clipped to a range. -/
def clipInt (lo hi i : Int) : Int := if i < lo then lo else if hi < i then hi else i

/-- A counter of `w` bits raised by `n`, saturating at all ones. -/
def satAdd (w x n : Nat) : Nat := min (x + n) (2 ^ w - 1)

/-- One bit of a reflected CRC step. -/
def crcShift (poly c : Nat) : Nat := if c % 2 = 1 then (c / 2) ^^^ poly else c / 2

/-- One byte of a reflected CRC. -/
def crcByte (poly c : Nat) (b : Byte) : Nat :=
  let s := crcShift poly
  s (s (s (s (s (s (s (s (c ^^^ b.toNat))))))))

/-- CRC-32C (Castagnoli) of a string: reflected polynomial 0x82F63B78, all ones in and out. -/
def crc32c (b : Bytes) : Nat := (b.foldl (crcByte 0x82F63B78) 0xFFFFFFFF) ^^^ 0xFFFFFFFF

/-- Dividing and rounding up. -/
def divUp (a b : Nat) : Nat := (a + b - 1) / b

end Sys2Proof.Machine
end

