-- ==== Sys2Proof/Syntax.lean ====
section
/-! DEFINITION. The commands of the block: one constructor of `Instr` for each row of
spec/opcode_table.json, with the operands the row's rules give it. -/

namespace Sys2Proof

/-- A Jalver core: 0 to 127, or 128 for the Steward (R222 COREID). -/
abbrev CoreId := Fin 129

/-- A general register g0 to g31 (R199). -/
abbrev GReg := Fin 32

/-- A capability register c0 to c15 (R199). -/
abbrev CReg := Fin 16

/-- A predicate p0 to p7 (R199). -/
abbrev PReg := Fin 8

/-- A vector register v0 to v7 (R220). -/
abbrev VReg := Fin 8

/-- A guard: the predicate PG and the sense SN of an instruction word (R207). -/
structure Guard where
  pg : PReg
  sn : Bool
  deriving DecidableEq, Repr

/-- Who presents a control-space access: a core, at the level it has in the state, or the master
with this ID of R320. -/
inductive Master where
  | core (k : CoreId)
  | dev (id : Fin 64)
  deriving DecidableEq, Repr

/-- A server instance of the dictionary (R341). -/
inductive Inst where
  | canA
  | canB
  | mailbox
  | plp (peer : Nat)
  deriving DecidableEq, Repr

/-- A repeat pair's words: the prefix word's own PG and SN, and the word behind it (R209, R248). -/
structure RepWords where
  p : Guard
  word : BitVec 32
  deriving DecidableEq, Repr

/-- The Tag Header of R60. -/
structure Hdr where
  ver : BitVec 4
  kind : BitVec 4
  flags : BitVec 8
  lseq : BitVec 16
  lack : BitVec 16
  sack : BitVec 16
  session : BitVec 16
  epoch : BitVec 16
  reqid : BitVec 32
  cls : BitVec 8
  deadline : BitVec 4
  retry : BitVec 4
  meter : BitVec 8
  code : BitVec 8
  replyq : BitVec 16
  paylen : BitVec 16
  handle : BitVec 64
  deriving DecidableEq, Repr

/-- A PLP frame: the Tag Header and the payload that follows it (R60). -/
structure Frame where
  hdr : Hdr
  payload : Bytes
  deriving DecidableEq, Repr

/-- Where a PLP frame came from (R66, R362). -/
structure Source where
  addr : BitVec 128
  udp : BitVec 16
  mac : BitVec 48
  deriving DecidableEq, Repr

/-- What a received Ethernet frame carries (R361). -/
inductive EthContent where
  | arp (target : BitVec 32)
  | solicit (target : BitVec 128)
  | echo (v6 : Bool) (toPort : Bool)
  | udp (dport : BitVec 16) (src : Source) (toPort v6 : Bool) (sumBad sumZero : Bool) (len : Nat) (f : Frame)
  | oddIp
  | pause
  | unknown
  deriving DecidableEq, Repr

/-- The destination address of a received Ethernet frame (R361). -/
inductive EthDst where
  | mac (a : BitVec 48)
  | broadcast
  | solicitedNode (a : BitVec 128)
  | ptp
  deriving DecidableEq, Repr

/-- An Ethernet frame at a Lane Port: its FCS, length, destination, VLAN tag and content (R361). -/
structure EthFrame where
  fcsOk : Bool
  len : Nat
  dst : EthDst
  vid : Option (BitVec 12)
  content : EthContent
  deriving DecidableEq, Repr

/-- A management message (R344). -/
structure Mgmt where
  op : Byte
  flags : Byte
  index : BitVec 16
  sub : Byte
  rsvZero : Bool
  tag : BitVec 32
  ofs : Nat
  len : Nat
  data : Bytes
  deriving DecidableEq, Repr

/-- A CAN frame by the service its identifier selects (R373, R357). -/
inductive CanFrame where
  | extended
  | nmt (command : Byte) (node : Byte)
  | sdoRead (index : BitVec 16) (sub : Byte)
  | sdoWrite (index : BitVec 16) (sub : Byte) (data : Bytes)
  | other
  deriving DecidableEq, Repr

/-- A drive as the Archive Port finds it at binding (R120, R121, R369). -/
structure Drive where
  suitable : Bool
  lbas : Bool
  nsze : Nat
  label : Bytes
  deriving DecidableEq, Repr

/-- A Steward record for queue 1,009 (R100, R106): configuration change, Watch delta or lifecycle. -/
inductive DevRec where
  | config (index : BitVec 16) (sub : Byte) (role : Byte) (efftick : Nat) (rolesess : BitVec 64)
      (auth : BitVec 512) (len : BitVec 16) (value : Bytes)
  | watchDelta (seq entries : BitVec 32) (switchTick : Nat) (digest : BitVec 512) (rolesess : BitVec 64)
  | lifecycle (src dst : Byte) (rolesess : BitVec 64) (auth devkey : BitVec 512)
  deriving DecidableEq, Repr

/-- The OP functions of R213. -/
inductive OpF where
  | add | sub | addw | subw | and | or | xor | andn | sll | srl | sra | ror | min | max | minu | maxu
  deriving DecidableEq, Repr

/-- The LOGI functions of R213. -/
inductive LogiF where
  | andi | ori | xori
  deriving DecidableEq, Repr

/-- The SHI functions of R213. -/
inductive ShiF where
  | slli | srli | srai | rori
  deriving DecidableEq, Repr

/-- The MD functions of R213. -/
inductive MdF where
  | mul | mulh | mulhu | div | divu | rem | remu
  deriving DecidableEq, Repr

/-- The EXT functions of R213. -/
inductive ExtF where
  | sextb | sexth | sextw | zextb | zexth | zextw | clz | ctz | popc | bswap
  deriving DecidableEq, Repr

/-- The comparisons of R213, coded 0 to 7. -/
inductive Cond where
  | eq | ne | lt | ge | ltu | geu | tstz | tstnz
  deriving DecidableEq, Repr

/-- The PLOG operations of R213. -/
inductive PlogF where
  | pand | por | pxor | pandn | pnot | pmov | pclr
  deriving DecidableEq, Repr

/-- An access size: 0 byte, 1 halfword, 2 word, 3 doubleword (R214). -/
abbrev Size := Fin 4

/-- The CAP functions of R215 that may follow REP, with CINCOFFI's aside. -/
inductive CapF where
  | cmov | cincoff | csetoff | candrights | cclrtag | csetlo | csethi
  | cgetlo | cgethi | cgettag | cgetoff | cgetlen | cgetrights
  deriving DecidableEq, Repr

/-- A word of a major that R249 admits after REP. -/
inductive Scalar where
  | op (f : OpF) (gd ga gb : GReg)
  | addi (gd ga : GReg) (imm : BitVec 12)
  | logi (f : LogiF) (gd ga : GReg) (imm : BitVec 10)
  | shi (f : ShiF) (gd ga : GReg) (sh : BitVec 6)
  | movh (gd : GReg) (imm : BitVec 16)
  | md (f : MdF) (gd ga gb : GReg)
  | ext (f : ExtF) (gd ga : GReg)
  | cmp (c : Cond) (pt pf : PReg) (ga gb : GReg)
  | cmpi (c : Cond) (pt pf : PReg) (ga : GReg) (imm : BitVec 8)
  | plog (f : PlogF) (pd pa pb : PReg)
  | pbundle (g : GReg) (dir : Bool)
  | ld (gd : GReg) (cs : CReg) (sz : Size) (imm : BitVec 11)
  | ldu (gd : GReg) (cs : CReg) (sz : Size) (imm : BitVec 11)
  | st (gs : GReg) (cs : CReg) (sz : Size) (imm : BitVec 11)
  | ldx (g : GReg) (cs : CReg) (gi : GReg) (sz : Size) (scale : BitVec 2) (u store : Bool)
  | cld (cd cs : CReg) (imm : BitVec 10)
  | cincoffi (cd cs : CReg) (imm : BitVec 14)
  | cap (f : CapF) (cd cs : CReg) (g : GReg)
  deriving DecidableEq, Repr

/-- The word after a REP prefix: a word R249 admits, with its guard, or any other word. -/
inductive RepWord where
  | admitted (p : Guard) (w : Scalar)
  | other
  deriving DecidableEq, Repr

/-- An element width: 8, 16, 32 or 64 bits (R218). -/
abbrev EW := Fin 4

/-- The VVV and VVS functions of R218. -/
inductive VecF where
  | add | sub | mul | mulh | and | or | xor | min | max | minu | maxu | sll | srl | sra | sadd | ssub | absd
  deriving DecidableEq, Repr

/-- The second operand of a VVV or VVS instruction: a vector register or a scalar (R218). -/
inductive VSrc where
  | vec (vb : VReg)
  | scal (gb : GReg)
  deriving DecidableEq, Repr

/-- An NMT-slave port: CAN-A or CAN-B (R357). -/
abbrev CanPort := Fin 2

/-- A sensor loop SL0 to SL3 (R375). -/
abbrev Loop := Fin 4

/-- A port, in the order of the meters of R58: 0-7 LP0-LP7, 8 Host Port, 9 Archive Port, 10 CAN-A,
11 CAN-B, 12-15 SL0-SL3. -/
abbrev Port := Fin 16

/-- What an uncorrectable DRAM error hits (R83, R144, R430). -/
inductive DramHit where
  | buffer (b : Nat)
  | sessionState
  | replyLog
  | tagWord (word : Nat)
  | watch (bucket : Nat) (shadow : Bool)
  | registry (index : Nat)
  | data (addr : Nat)
  deriving DecidableEq, Repr

/-- An error a Darner patrol meets (R430): none, one it corrects, or one it cannot. -/
inductive PatrolHit where
  | clean
  | corrected
  | uncorrectable (addr : Nat)
  deriving DecidableEq, Repr

/-- The commands of the block, one constructor per row of the table. -/
inductive Instr where
  /-- REGISTER_WRITE (R7). -/
  | registerWrite (m : Master) (addr : Nat) (v : Word)
  /-- TICK_BOUNDARY (R32). -/
  | tickBoundary (tai : BitVec 64)
  /-- TU_PEND_ARM (R33). -/
  | tuPendArm (m : Master) (v : Word)
  /-- TU_REFOFS_WRITE (R38). -/
  | tuRefofsWrite (m : Master) (v : Word)
  /-- TICKIN_EDGE (R40). -/
  | tickinEdge (early : Bool) (dist : Nat)
  /-- REFERENCE_LOST (R40). -/
  | referenceLost
  /-- TICK_MARK_WRITE (R31). -/
  | tickMarkWrite
  /-- CYCLE_METER_EXHAUST (R47). -/
  | cycleMeterExhaust (isClass : Bool) (i : Nat)
  /-- TASK_DESCHEDULE (R47). -/
  | taskDeschedule (isClass : Bool) (i : Nat)
  /-- LANE_FRAME_RECEIVE (R361). -/
  | laneFrameReceive (p : Fin 8) (f : EthFrame)
  /-- PTP_EVENT_MESSAGE (R364). -/
  | ptpEventMessage (p : Fin 8) (sent : Bool) (mtype : BitVec 4) (seq : BitVec 16) (offset : Option (BitVec 32))
  /-- LINK_FRAME_RECEIVE (R68). -/
  | linkFrameReceive (p : Fin 8)
  /-- REQUEST_FRAME (R74). -/
  | requestFrame
  /-- SESSION_OPEN (R71). -/
  | sessionOpen
  /-- SESSION_CLOSE (R72). -/
  | sessionClose
  /-- LINK_ACK_TIMER (R67). -/
  | linkAckTimer (peer : Nat)
  /-- LINK_RETRANSMIT (R67). -/
  | linkRetransmit (peer : Nat) (lseq : BitVec 16)
  /-- LINK_GIVE_UP (R67). -/
  | linkGiveUp (peer : Nat) (lseq : BitVec 16)
  /-- HELD_FRAME_TRANSMIT (R464). -/
  | heldFrameTransmit (peer : Nat)
  /-- TASK_QUEUE_DISPATCH (R74). -/
  | taskQueueDispatch (cls : Fin 64)
  /-- DEADLINE_DISCARD (R79). -/
  | deadlineDiscard (session : Nat) (d : Fin 16)
  /-- ABANDON_TIMEOUT (R82). -/
  | abandonTimeout (session : Nat)
  /-- HAMPER_REBUILD (R88). -/
  | hamperRebuild (m : Master)
  /-- REBUILD_COMPLETE (R89). -/
  | rebuildComplete (us : BitVec 32)
  /-- SETLIM (R65). -/
  | setlim (buf : Nat)
  /-- RECYCLE (R65). -/
  | recycle (buf : Nat)
  /-- HANDOVER_TAKE (R103). -/
  | handoverTake
  /-- DEVICE_RECORD_SUBMIT (R106). -/
  | deviceRecordSubmit (r : DevRec)
  /-- WRITE_VERIFY_DONE (R109). -/
  | writeVerifyDone (ok : Bool)
  /-- ARCHIVE_SEGMENT_ISSUE (R122). -/
  | archiveSegmentIssue (atBoundary : Bool)
  /-- SEGMENT_COMPLETE (R123). -/
  | segmentComplete (first : Nat) (ok : Bool)
  /-- SEGMENT_TIMEOUT (R124). -/
  | segmentTimeout (first : Nat)
  /-- ARCHIVE_RETRY_TIMER (R124). -/
  | archiveRetryTimer
  /-- ARCHIVE_MARK_WRITE (R123). -/
  | archiveMarkWrite
  /-- DRIVE_BIND (R121). -/
  | driveBind (d : Option Drive)
  /-- ARCHIVE_LINK_UP (R121). -/
  | archiveLinkUp
  /-- ARCHIVE_LINK_DOWN (R371). -/
  | archiveLinkDown
  /-- BIND_LINK_TIMEOUT (R121). -/
  | bindLinkTimeout
  /-- LEDGER_RECOVERY (R127). -/
  | ledgerRecovery (m : Master)
  /-- POWER_FAIL_WARNING (R428). -/
  | powerFailWarning (rail : BitVec 3)
  /-- POWER_FAIL_BOR_TIMER (R427). -/
  | powerFailBorTimer
  /-- WATCH_LOOKUP_TAKE (R134). -/
  | watchLookupTake
  /-- WATCH_LOOKUP_COMPLETE (R135). -/
  | watchLookupComplete
  /-- WATCH_BUCKET_REPAIR (R144). -/
  | watchBucketRepair (bucket : Nat)
  /-- WATCH_LIST_WRITE (R138). -/
  | watchListWrite (i : Inst) (tag : BitVec 32) (list : Bytes)
  /-- WT_PEND_ARM (R140). -/
  | wtPendArm (m : Master)
  /-- WATCH_RESTORE_REQUEST (R142). -/
  | watchRestoreRequest (m : Master)
  /-- ED_VERIFY (R146). -/
  | edVerify (e : Fin 8)
  /-- ED_SIGN (R146). -/
  | edSign (e : Fin 8)
  /-- MLDSA_VERIFY (R146). -/
  | mldsaVerify (e : Fin 8)
  /-- MLDSA_SIGN (R145). -/
  | mldsaSign (e : Fin 8)
  /-- VERIFY2 (R153). -/
  | verify2 (e : Fin 8)
  /-- SHA_512 (R148). -/
  | sha512 (e : Fin 8)
  /-- SHA3_256 (R148). -/
  | sha3 (e : Fin 8)
  /-- SHAKE256 (R148). -/
  | shake256 (e : Fin 8)
  /-- HMAC_SHA_512 (R148). -/
  | hmacSha512 (e : Fin 8)
  /-- GCM_ENC (R148). -/
  | gcmEnc (e : Fin 8)
  /-- GCM_DEC (R148). -/
  | gcmDec (e : Fin 8)
  /-- KEM_ENCAPS (R152). -/
  | kemEncaps (e : Fin 8)
  /-- KEM_DECAPS (R152). -/
  | kemDecaps (e : Fin 8)
  /-- KEYGEN (R152). -/
  | keygen (e : Fin 8)
  /-- KEYIMPORT (R152). -/
  | keyimport (e : Fin 8)
  /-- KEYDESTROY (R151). -/
  | keydestroy (e : Fin 8)
  /-- PUBEXPORT (R148). -/
  | pubexport (e : Fin 8)
  /-- SEAL_JOB_COMPLETE (R149). -/
  | sealJobComplete (e : Fin 8)
  /-- SEAL_ENGINE_FAULT (R155). -/
  | sealEngineFault (e : Fin 8) (selfCheck : Bool)
  /-- ENTROPY_FAIL (R155). -/
  | entropyFail
  /-- ENTROPY_RECOVER (R155). -/
  | entropyRecover
  /-- SE_FAULT_CLEAR (R155). -/
  | seFaultClear (m : Master) (e : Fin 8)
  /-- REGISTRY_FILL_COMPLETE (R168). -/
  | registryFillComplete (k : CoreId) (index : BitVec 22) (ecc : Bool)
  /-- ALLOC (R198). -/
  | alloc (m : Master) (b : CoreId)
  /-- REVOKE (R183). -/
  | revoke (m : Master) (b : CoreId) (index : BitVec 22)
  /-- FREE (R183). -/
  | free (m : Master) (b : CoreId) (index : BitVec 22)
  /-- MODIFY (R183). -/
  | modify (m : Master) (b : CoreId) (index : BitVec 22) (mask : BitVec 16)
  /-- REGISTRY_READ (R198). -/
  | registryRead (m : Master) (b : CoreId) (index : BitVec 22)
  /-- WALKER_EPOCH (R184). -/
  | walkerEpoch
  /-- WALKER_QUIET (R184). -/
  | walkerQuiet
  /-- SWEEP_START (R191). -/
  | sweepStart (m : Master)
  /-- SWEEP_COMPLETE (R191). -/
  | sweepComplete (ms : BitVec 20)
  /-- REGISTRY_PATROL (R193). -/
  | registryPatrol (index : BitVec 22)
  /-- REGISTRY_INIT (R195). -/
  | registryInit (m : Master)
  /-- ADD (R227). -/
  | add (k : CoreId) (p : Guard) (gd ga gb : GReg)
  /-- SUB (R227). -/
  | sub (k : CoreId) (p : Guard) (gd ga gb : GReg)
  /-- ADDW (R227). -/
  | addw (k : CoreId) (p : Guard) (gd ga gb : GReg)
  /-- SUBW (R227). -/
  | subw (k : CoreId) (p : Guard) (gd ga gb : GReg)
  /-- AND (R227). -/
  | and (k : CoreId) (p : Guard) (gd ga gb : GReg)
  /-- OR (R227). -/
  | or (k : CoreId) (p : Guard) (gd ga gb : GReg)
  /-- XOR (R227). -/
  | xor (k : CoreId) (p : Guard) (gd ga gb : GReg)
  /-- ANDN (R227). -/
  | andn (k : CoreId) (p : Guard) (gd ga gb : GReg)
  /-- SLL (R227). -/
  | sll (k : CoreId) (p : Guard) (gd ga gb : GReg)
  /-- SRL (R227). -/
  | srl (k : CoreId) (p : Guard) (gd ga gb : GReg)
  /-- SRA (R227). -/
  | sra (k : CoreId) (p : Guard) (gd ga gb : GReg)
  /-- ROR (R227). -/
  | ror (k : CoreId) (p : Guard) (gd ga gb : GReg)
  /-- MIN (R227). -/
  | min (k : CoreId) (p : Guard) (gd ga gb : GReg)
  /-- MAX (R227). -/
  | max (k : CoreId) (p : Guard) (gd ga gb : GReg)
  /-- MINU (R227). -/
  | minu (k : CoreId) (p : Guard) (gd ga gb : GReg)
  /-- MAXU (R227). -/
  | maxu (k : CoreId) (p : Guard) (gd ga gb : GReg)
  /-- ADDI (R227). -/
  | addi (k : CoreId) (p : Guard) (gd ga : GReg) (imm : BitVec 12)
  /-- ANDI (R227). -/
  | andi (k : CoreId) (p : Guard) (gd ga : GReg) (imm : BitVec 10)
  /-- ORI (R227). -/
  | ori (k : CoreId) (p : Guard) (gd ga : GReg) (imm : BitVec 10)
  /-- XORI (R227). -/
  | xori (k : CoreId) (p : Guard) (gd ga : GReg) (imm : BitVec 10)
  /-- SLLI (R227). -/
  | slli (k : CoreId) (p : Guard) (gd ga : GReg) (sh : BitVec 6)
  /-- SRLI (R227). -/
  | srli (k : CoreId) (p : Guard) (gd ga : GReg) (sh : BitVec 6)
  /-- SRAI (R227). -/
  | srai (k : CoreId) (p : Guard) (gd ga : GReg) (sh : BitVec 6)
  /-- RORI (R227). -/
  | rori (k : CoreId) (p : Guard) (gd ga : GReg) (sh : BitVec 6)
  /-- MOVH (R227). -/
  | movh (k : CoreId) (p : Guard) (gd : GReg) (imm : BitVec 16)
  /-- MUL (R229). -/
  | mul (k : CoreId) (p : Guard) (gd ga gb : GReg)
  /-- MULH (R227). -/
  | mulh (k : CoreId) (p : Guard) (gd ga gb : GReg)
  /-- MULHU (R227). -/
  | mulhu (k : CoreId) (p : Guard) (gd ga gb : GReg)
  /-- DIV (R228). -/
  | div (k : CoreId) (p : Guard) (gd ga gb : GReg)
  /-- DIVU (R228). -/
  | divu (k : CoreId) (p : Guard) (gd ga gb : GReg)
  /-- REM (R228). -/
  | rem (k : CoreId) (p : Guard) (gd ga gb : GReg)
  /-- REMU (R228). -/
  | remu (k : CoreId) (p : Guard) (gd ga gb : GReg)
  /-- SEXTB (R227). -/
  | sextb (k : CoreId) (p : Guard) (gd ga : GReg)
  /-- SEXTH (R227). -/
  | sexth (k : CoreId) (p : Guard) (gd ga : GReg)
  /-- SEXTW (R227). -/
  | sextw (k : CoreId) (p : Guard) (gd ga : GReg)
  /-- ZEXTB (R227). -/
  | zextb (k : CoreId) (p : Guard) (gd ga : GReg)
  /-- ZEXTH (R227). -/
  | zexth (k : CoreId) (p : Guard) (gd ga : GReg)
  /-- ZEXTW (R227). -/
  | zextw (k : CoreId) (p : Guard) (gd ga : GReg)
  /-- CLZ (R227). -/
  | clz (k : CoreId) (p : Guard) (gd ga : GReg)
  /-- CTZ (R227). -/
  | ctz (k : CoreId) (p : Guard) (gd ga : GReg)
  /-- POPC (R227). -/
  | popc (k : CoreId) (p : Guard) (gd ga : GReg)
  /-- BSWAP (R227). -/
  | bswap (k : CoreId) (p : Guard) (gd ga : GReg)
  /-- CMP (R230). -/
  | cmp (k : CoreId) (p : Guard) (c : Cond) (pt pf : PReg) (ga gb : GReg)
  /-- CMPI (R230). -/
  | cmpi (k : CoreId) (p : Guard) (c : Cond) (pt pf : PReg) (ga : GReg) (imm : BitVec 8)
  /-- PAND (R213). -/
  | pand (k : CoreId) (p : Guard) (pd pa pb : PReg)
  /-- POR (R213). -/
  | por (k : CoreId) (p : Guard) (pd pa pb : PReg)
  /-- PXOR (R213). -/
  | pxor (k : CoreId) (p : Guard) (pd pa pb : PReg)
  /-- PANDN (R213). -/
  | pandn (k : CoreId) (p : Guard) (pd pa pb : PReg)
  /-- PNOT (R213). -/
  | pnot (k : CoreId) (p : Guard) (pd pa : PReg)
  /-- PMOV (R213). -/
  | pmov (k : CoreId) (p : Guard) (pd pa : PReg)
  /-- PCLR (R213). -/
  | pclr (k : CoreId) (p : Guard) (pd : PReg)
  /-- PBUNDLE (R213). -/
  | pbundle (k : CoreId) (p : Guard) (g : GReg) (dir : Bool)
  /-- LD (R231). -/
  | ld (k : CoreId) (p : Guard) (gd : GReg) (cs : CReg) (sz : Size) (imm : BitVec 11)
  /-- LDU (R231). -/
  | ldu (k : CoreId) (p : Guard) (gd : GReg) (cs : CReg) (sz : Size) (imm : BitVec 11)
  /-- ST (R231). -/
  | st (k : CoreId) (p : Guard) (gs : GReg) (cs : CReg) (sz : Size) (imm : BitVec 11)
  /-- LDX (R231). -/
  | ldx (k : CoreId) (p : Guard) (g : GReg) (cs : CReg) (gi : GReg) (sz : Size) (scale : BitVec 2) (u store : Bool)
  /-- CLD (R235). -/
  | cld (k : CoreId) (p : Guard) (cd cs : CReg) (imm : BitVec 10)
  /-- CST (R235). -/
  | cst (k : CoreId) (p : Guard) (cv cs : CReg) (imm : BitVec 10)
  /-- LOAD_COMPLETE (R295). -/
  | loadComplete (k : CoreId)
  /-- STORE_DRAIN (R307). -/
  | storeDrain (k : CoreId) (ecc : Bool)
  /-- LONG_OP_COMPLETE (R302). -/
  | longOpComplete (k : CoreId)
  /-- ARITH_TRAP_TAKE (R288). -/
  | arithTrapTake (k : CoreId)
  /-- CINCOFFI (R236). -/
  | cincoffi (k : CoreId) (p : Guard) (cd cs : CReg) (imm : BitVec 14)
  /-- CMOV (R236). -/
  | cmov (k : CoreId) (p : Guard) (cd cs : CReg)
  /-- CINCOFF (R236). -/
  | cincoff (k : CoreId) (p : Guard) (cd cs : CReg) (g : GReg)
  /-- CSETOFF (R236). -/
  | csetoff (k : CoreId) (p : Guard) (cd cs : CReg) (g : GReg)
  /-- CANDRIGHTS (R236). -/
  | candrights (k : CoreId) (p : Guard) (cd cs : CReg) (g : GReg)
  /-- CCLRTAG (R236). -/
  | cclrtag (k : CoreId) (p : Guard) (cd cs : CReg)
  /-- CSETLO (R236). -/
  | csetlo (k : CoreId) (p : Guard) (cd cs : CReg) (g : GReg)
  /-- CSETHI (R236). -/
  | csethi (k : CoreId) (p : Guard) (cd cs : CReg) (g : GReg)
  /-- CGETLO (R236). -/
  | cgetlo (k : CoreId) (p : Guard) (g : GReg) (cs : CReg)
  /-- CGETHI (R236). -/
  | cgethi (k : CoreId) (p : Guard) (g : GReg) (cs : CReg)
  /-- CGETTAG (R236). -/
  | cgettag (k : CoreId) (p : Guard) (g : GReg) (cs : CReg)
  /-- CGETOFF (R236). -/
  | cgetoff (k : CoreId) (p : Guard) (g : GReg) (cs : CReg)
  /-- CGETLEN (R236). -/
  | cgetlen (k : CoreId) (p : Guard) (g : GReg) (cs : CReg)
  /-- CGETRIGHTS (R236). -/
  | cgetrights (k : CoreId) (p : Guard) (g : GReg) (cs : CReg)
  /-- SEAL (R181). -/
  | sealCap (k : CoreId) (p : Guard) (cd cs ca : CReg)
  /-- UNSEAL (R181). -/
  | unsealCap (k : CoreId) (p : Guard) (cd cs ca : CReg)
  /-- CMINT (R178). -/
  | cmint (k : CoreId) (p : Guard) (cd cs : CReg)
  /-- DERIVE (R179). -/
  | deriveCap (k : CoreId) (p : Guard) (cd cs : CReg) (ga gr : GReg)
  /-- RELEASE (R180). -/
  | release (k : CoreId) (p : Guard) (cs : CReg)
  /-- ENQ (R239). -/
  | enq (k : CoreId) (p : Guard) (cq cm : CReg) (gd : GReg)
  /-- DEQ (R240). -/
  | deq (k : CoreId) (p : Guard) (cq cm : CReg) (gd : GReg)
  /-- BR (R242). -/
  | br (k : CoreId) (p : Guard) (imm : BitVec 22)
  /-- CALL (R242). -/
  | call (k : CoreId) (p : Guard) (imm : BitVec 22)
  /-- CJMP (R243). -/
  | cjmp (k : CoreId) (p : Guard) (cs : CReg) (link : Bool)
  /-- RET (R244). -/
  | ret (k : CoreId) (p : Guard)
  /-- INVOKE (R182). -/
  | invoke (k : CoreId) (p : Guard) (cc cd : CReg)
  /-- LOOP (R245). -/
  | loop (k : CoreId) (p : Guard) (imm : BitVec 20)
  /-- SETLC (R245). -/
  | setlc (k : CoreId) (p : Guard) (ga : GReg)
  /-- SETLCI (R245). -/
  | setlci (k : CoreId) (p : Guard) (imm : BitVec 20)
  /-- GETLC (R245). -/
  | getlc (k : CoreId) (p : Guard) (gd : GReg)
  /-- REPU (R248). -/
  | repu (k : CoreId) (w : RepWords)
  /-- REPI (R248). -/
  | repi (k : CoreId) (w : RepWords) (due : Option Nat)
  /-- MOVB (R252). -/
  | movb (k : CoreId) (p : Guard) (sz : Size) (due : Option Nat)
  /-- CMPB (R252). -/
  | cmpb (k : CoreId) (p : Guard) (sz : Size) (due : Option Nat)
  /-- FILLB (R252). -/
  | fillb (k : CoreId) (p : Guard) (sz : Size) (due : Option Nat)
  /-- SCANB (R252). -/
  | scanb (k : CoreId) (p : Guard) (sz : Size) (due : Option Nat)
  /-- SCALL (R282). -/
  | scall (k : CoreId) (p : Guard) (n : Fin 8)
  /-- SRET (R284). -/
  | sret (k : CoreId) (p : Guard)
  /-- ERET (R283). -/
  | eret (k : CoreId) (p : Guard)
  /-- NIB (R289). -/
  | nib (k : CoreId) (p : Guard) (budget : BitVec 11)
  /-- NIB_EXPIRE (R289). -/
  | nibExpire (k : CoreId)
  /-- WAIT (R246). -/
  | wait (k : CoreId) (p : Guard)
  /-- BREAK (R247). -/
  | breakpoint (k : CoreId) (p : Guard) (code : BitVec 16)
  /-- MFC (R222). -/
  | mfc (k : CoreId) (p : Guard) (gd : GReg) (n : BitVec 6)
  /-- MTC (R222). -/
  | mtc (k : CoreId) (p : Guard) (gs : GReg) (n : BitVec 6)
  /-- CSYNC (R314). -/
  | csync (k : CoreId) (p : Guard)
  /-- FENCE (R309). -/
  | fence (k : CoreId) (p : Guard)
  /-- CMFC (R236). -/
  | cmfc (k : CoreId) (p : Guard) (cd : CReg)
  /-- CMTC (R224). -/
  | cmtc (k : CoreId) (p : Guard) (cs : CReg)
  /-- SETVL (R258). -/
  | setvl (k : CoreId) (p : Guard) (gd ga : GReg) (ew : EW)
  /-- VLD (R261). -/
  | vld (k : CoreId) (p : Guard) (v : VReg) (cs : CReg) (ew : EW) (imm : BitVec 12)
  /-- VST (R261). -/
  | vst (k : CoreId) (p : Guard) (v : VReg) (cs : CReg) (ew : EW) (imm : BitVec 12)
  /-- VADD (R259). -/
  | vadd (k : CoreId) (p : Guard) (vd va : VReg) (b : VSrc) (ew : EW)
  /-- VSUB (R259). -/
  | vsub (k : CoreId) (p : Guard) (vd va : VReg) (b : VSrc) (ew : EW)
  /-- VMUL (R259). -/
  | vmul (k : CoreId) (p : Guard) (vd va : VReg) (b : VSrc) (ew : EW)
  /-- VMULH (R259). -/
  | vmulh (k : CoreId) (p : Guard) (vd va : VReg) (b : VSrc) (ew : EW)
  /-- VAND (R259). -/
  | vand (k : CoreId) (p : Guard) (vd va : VReg) (b : VSrc) (ew : EW)
  /-- VOR (R259). -/
  | vor (k : CoreId) (p : Guard) (vd va : VReg) (b : VSrc) (ew : EW)
  /-- VXOR (R259). -/
  | vxor (k : CoreId) (p : Guard) (vd va : VReg) (b : VSrc) (ew : EW)
  /-- VMIN (R259). -/
  | vmin (k : CoreId) (p : Guard) (vd va : VReg) (b : VSrc) (ew : EW)
  /-- VMAX (R259). -/
  | vmax (k : CoreId) (p : Guard) (vd va : VReg) (b : VSrc) (ew : EW)
  /-- VMINU (R259). -/
  | vminu (k : CoreId) (p : Guard) (vd va : VReg) (b : VSrc) (ew : EW)
  /-- VMAXU (R259). -/
  | vmaxu (k : CoreId) (p : Guard) (vd va : VReg) (b : VSrc) (ew : EW)
  /-- VSLL (R259). -/
  | vsll (k : CoreId) (p : Guard) (vd va : VReg) (b : VSrc) (ew : EW)
  /-- VSRL (R259). -/
  | vsrl (k : CoreId) (p : Guard) (vd va : VReg) (b : VSrc) (ew : EW)
  /-- VSRA (R259). -/
  | vsra (k : CoreId) (p : Guard) (vd va : VReg) (b : VSrc) (ew : EW)
  /-- VSADD (R259). -/
  | vsadd (k : CoreId) (p : Guard) (vd va : VReg) (b : VSrc) (ew : EW)
  /-- VSSUB (R259). -/
  | vssub (k : CoreId) (p : Guard) (vd va : VReg) (b : VSrc) (ew : EW)
  /-- VABSD (R259). -/
  | vabsd (k : CoreId) (p : Guard) (vd va : VReg) (b : VSrc) (ew : EW)
  /-- VBCAST (R260). -/
  | vbcast (k : CoreId) (p : Guard) (v : VReg) (g : GReg) (ew : EW)
  /-- VEXTI (R260). -/
  | vexti (k : CoreId) (p : Guard) (v : VReg) (g : GReg) (ew : EW) (idx : Fin 32)
  /-- VINSI (R260). -/
  | vinsi (k : CoreId) (p : Guard) (v : VReg) (g : GReg) (ew : EW) (idx : Fin 32)
  /-- VREDSUM (R260). -/
  | vredsum (k : CoreId) (p : Guard) (v : VReg) (g : GReg) (ew : EW)
  /-- VREDMIN (R260). -/
  | vredmin (k : CoreId) (p : Guard) (v : VReg) (g : GReg) (ew : EW)
  /-- VREDMAX (R260). -/
  | vredmax (k : CoreId) (p : Guard) (v : VReg) (g : GReg) (ew : EW)
  /-- VREDMINU (R260). -/
  | vredminu (k : CoreId) (p : Guard) (v : VReg) (g : GReg) (ew : EW)
  /-- VREDMAXU (R260). -/
  | vredmaxu (k : CoreId) (p : Guard) (v : VReg) (g : GReg) (ew : EW)
  /-- VPSD (R265). -/
  | vpsd (k : CoreId) (p : Guard) (vd va vb : VReg) (gs : GReg) (ew : EW)
  /-- VPACC (R266). -/
  | vpacc (k : CoreId) (p : Guard) (vd va vb : VReg) (gs : GReg) (ew : EW)
  /-- VSWIN (R267). -/
  | vswin (k : CoreId) (p : Guard) (vd va vb : VReg) (gs : GReg) (ew : EW)
  /-- VECTOR_WAKE_COMPLETE (R221). -/
  | vectorWakeComplete (k : CoreId)
  /-- VECTOR_IDLE_OFF (R221). -/
  | vectorIdleOff (k : CoreId)
  /-- VPWR_OFF (R221). -/
  | vpwrOff (k : CoreId)
  /-- CREATE (R270). -/
  | create (m : Master) (t : Nat) (v : Word)
  /-- STOP (R272). -/
  | stop (m : Master) (t : Nat)
  /-- DESTROY (R272). -/
  | destroy (m : Master) (t : Nat)
  /-- DOORBELL (R287). -/
  | doorbell (m : Master) (t : Nat)
  /-- STEWARD_REQUEST (R287). -/
  | stewardRequest (m : Master) (k : CoreId)
  /-- TASK_SWITCH (R269). -/
  | taskSwitch (k : CoreId)
  /-- INTERRUPT_ENTRY (R281). -/
  | interruptEntry (k : CoreId)
  /-- FG_HOLD (R329). -/
  | fgHold (m : Master) (commit : Bool) (nrange : BitVec 5)
  /-- FG_COMMIT (R329). -/
  | fgCommit (m : Master)
  /-- FG_ABORT (R330). -/
  | fgAbort (m : Master)
  /-- FG_DRAINED (R329). -/
  | fgDrained
  /-- FG_EPOCH (R329). -/
  | fgEpoch
  /-- FG_QUIET (R329). -/
  | fgQuiet
  /-- DICT_READ (R347). -/
  | dictRead (i : Inst) (q : Mgmt)
  /-- DICT_WRITE (R347). -/
  | dictWrite (i : Inst) (q : Mgmt)
  /-- DOMAIN_IDLE_TIMEOUT (R345). -/
  | domainIdleTimeout (i : Inst)
  /-- STORE_PARAMETERS (R340). -/
  | storeParameters (i : Inst) (tag : BitVec 32) (sub : Byte) (v : BitVec 32)
  /-- RESTORE_DEFAULTS (R340). -/
  | restoreDefaults (i : Inst) (tag : BitVec 32) (sub : Byte) (v : BitVec 32)
  /-- CHANGE_REQUEST (R348). -/
  | changeRequest (i : Inst) (tag : BitVec 32) (req : Bytes)
  /-- CHANGE_ARM (R348). -/
  | changeArm (index : BitVec 16) (sub : Byte)
  /-- FG_APPLY (R354). -/
  | fgApply (i : Inst) (tag : BitVec 32) (v : Byte)
  /-- KEY_CMD_KEYGEN (R351). -/
  | keyCmdKeygen (i : Inst) (tag : BitVec 32) (v : Word)
  /-- KEY_CMD_KEYIMPORT (R351). -/
  | keyCmdKeyimport (i : Inst) (tag : BitVec 32) (v : Word)
  /-- KEY_CMD_KEYDESTROY (R351). -/
  | keyCmdKeydestroy (i : Inst) (tag : BitVec 32) (v : Word)
  /-- HEARTBEAT (R357). -/
  | heartbeat
  /-- TPDO_EVENT (R357). -/
  | tpdoEvent (c : CanPort) (n : Fin 4)
  /-- NMT_STOP (R357). -/
  | nmtStop (c : CanPort)
  /-- NMT_RESET_COMMUNICATION (R357). -/
  | nmtResetCommunication (c : CanPort)
  /-- NMT_RESET_NODE (R357). -/
  | nmtResetNode (c : CanPort)
  /-- MAILBOX_DELIVER (R367). -/
  | mailboxDeliver (len : BitVec 13) (q : Mgmt)
  /-- MAILBOX_COPY (R367). -/
  | mailboxCopy
  /-- MAILBOX_SEND (R367). -/
  | mailboxSend
  /-- MAILBOX_DDB_CLEAR (R367). -/
  | mailboxDdbClear
  /-- HOST_LINK_DOWN (R366). -/
  | hostLinkDown (flr : Bool)
  /-- HOST_INBOUND_REQUEST (R366). -/
  | hostInboundRequest (write : Bool) (bar : Fin 6) (ofs : Nat) (len : Nat)
  /-- ARCHIVE_INBOUND_REQUEST (R371). -/
  | archiveInboundRequest (write : Bool) (addr : Nat) (len : Nat)
  /-- SMART_LOG_TIMER (R370). -/
  | smartLogTimer (warn : Byte)
  /-- CAN_FRAME_RECEIVE (R373). -/
  | canFrameReceive (c : CanPort) (f : CanFrame)
  /-- BUS_OFF_RECOVERY (R373). -/
  | busOffRecovery (c : CanPort)
  /-- LOOP_POLL (R377). -/
  | loopPoll (n : Loop)
  /-- LOOP_FRAME_RECEIVE (R377). -/
  | loopFrameReceive (n : Loop) (f : Bytes) (gap : Bool)
  /-- LOOP_ANSWER_TIMEOUT (R377). -/
  | loopAnswerTimeout (n : Loop)
  /-- SL_TRIG (R379). -/
  | slTrig (m : Master) (n : Loop) (v : Word)
  /-- LIMITER_TRIP (R387). -/
  | limiterTrip (g : Fin 7)
  /-- GPIO_EDGE (R382). -/
  | gpioEdge (i : Fin 16) (level : Bool)
  /-- GP_SET (R382). -/
  | gpSet (m : Master) (v : Word)
  /-- GP_CLR (R382). -/
  | gpClr (m : Master) (v : Word)
  /-- PORT_RESET (R359). -/
  | portReset (p : Port) (unsent : Nat)
  /-- BOOT (R392). -/
  | boot
  /-- BANK_UPDATE (R397). -/
  | bankUpdate (i : Inst) (tag : BitVec 32) (content : Bytes)
  /-- BANK_ACTIVATE (R397). -/
  | bankActivate
  /-- BANK_SWITCH_SDR (R397). -/
  | bankSwitchSdr
  /-- BOOT_CONFIRM (R398). -/
  | bootConfirm (m : Master)
  /-- TRIAL_TIMEOUT (R420). -/
  | trialTimeout
  /-- ROLE_CHALLENGE (R402). -/
  | roleChallenge (i : Inst) (tag : BitVec 32)
  /-- ROLE_RESPONSE (R402). -/
  | roleResponse (i : Inst) (tag : BitVec 32) (resp : Bytes) (old : Bool)
  /-- ROLE_END (R403). -/
  | roleEnd (i : Inst) (tag : BitVec 32)
  /-- ROLE_SESSION_TIMEOUT (R403). -/
  | roleSessionTimeout (i : Inst)
  /-- ATTEST_NONCE (R404). -/
  | attestNonce (i : Inst) (tag : BitVec 32) (nonce : Bytes)
  /-- ATTEST_QUOTE (R404). -/
  | attestQuote (i : Inst) (tag : BitVec 32)
  /-- LIFECYCLE_TRANSITION (R407). -/
  | lifecycleTransition (i : Inst) (tag : BitVec 32) (req : Bytes) (vbatOk : Bool)
  /-- EVIDENCE_KEY_ROTATION (R405). -/
  | evidenceKeyRotation
  /-- RETIREMENT_RINSE (R408). -/
  | retirementRinse
  /-- DEBUG_UNLOCK (R409). -/
  | debugUnlock (i : Inst) (tag : BitVec 32) (token : Bytes)
  /-- DEBUG_UNLOCK_END (R409). -/
  | debugUnlockEnd
  /-- TAMPER_DETECT (R411). -/
  | tamperDetect (source : Fin 8) (mainPower : Bool)
  /-- RINSE_START (R412). -/
  | rinseStart (m : Master)
  /-- RINSE_COMPLETE (R411). -/
  | rinseComplete
  /-- BOR (R415). -/
  | bor (rails : BitVec 3)
  /-- TZR (R415). -/
  | tzr
  /-- WDR (R415). -/
  | wdr
  /-- SDR (R415). -/
  | sdr (m : Master) (key : BitVec 32)
  /-- TLR (R415). -/
  | tlr (m : Master) (tiles : BitVec 16)
  /-- CRR (R415). -/
  | crr (m : Master) (v : Word)
  /-- LOCKSTEP_MISMATCH (R417). -/
  | lockstepMismatch
  /-- WATCHDOG_KICK (R419). -/
  | watchdogKick (m : Master) (key : BitVec 32)
  /-- WATCHDOG_EXPIRE (R420). -/
  | watchdogExpire
  /-- STANDBY_REQUEST (R422). -/
  | standbyRequest (m : Master)
  /-- STANDBY_WAKE (R423). -/
  | standbyWake
  /-- WAKE_TIMER_EXPIRE (R423). -/
  | wakeTimerExpire
  /-- TILE_DOZE (R421). -/
  | tileDoze (t : Fin 16)
  /-- TILE_SLEEP (R421). -/
  | tileSleep (t : Fin 16)
  /-- TILE_WAKE (R421). -/
  | tileWake (t : Fin 16)
  /-- DRAM_UNCORRECTABLE_ERROR (R83). -/
  | dramUncorrectableError (h : DramHit)
  /-- DRAM_PATROL (R430). -/
  | dramPatrol (h : PatrolHit)
  /-- LEDGER_PATROL (R430). -/
  | ledgerPatrol (h : PatrolHit) (slot : Nat)
  /-- FW_PATROL (R430). -/
  | fwPatrol (h : PatrolHit)
  /-- BIST_START (R431). -/
  | bistStart (m : Master) (target : Fin 8)
  /-- BIST_COMPLETE (R431). -/
  | bistComplete (fails : BitVec 32)
  /-- LINK_PATTERN_START (R433). -/
  | linkPatternStart (m : Master) (l : Fin 20) (v : Word)
  /-- PATTERN_INJECT (R434). -/
  | patternInject (m : Master) (l : Fin 20)
  /-- BYPASS (R435). -/
  | bypass
  /-- IDCODE (R435). -/
  | idcode
  /-- SAMPLE_PRELOAD (R435). -/
  | samplePreload (pins : Nat)
  /-- EXTEST (R436). -/
  | extest (drive : Nat)
  /-- CLAMP (R436). -/
  | clamp
  /-- HIGHZ (R436). -/
  | highz
  /-- DBGACC (R435). -/
  | dbgacc (write : Bool) (addr : Nat) (v : Word)
  /-- JTAG_TAP_RESET (R436). -/
  | jtagTapReset
  /-- TS_HALT_CORE (R436). -/
  | tsHaltCore (m : Master) (k : CoreId)
  /-- TS_STEP (R436). -/
  | tsStep (m : Master) (k : CoreId)
  /-- TS_RESUME (R436). -/
  | tsResume (m : Master) (k : CoreId)
  /-- POWER_ON_RESET (R415). -/
  | powerOnReset
  /-- LANE_PORT_FAULT (R83). -/
  | lanePortFault (p : Fin 8) (linkLost : Bool) (unsent : Nat)
  /-- HOST_LINK_UP (R366). -/
  | hostLinkUp (gen : Fin 4) (width : Fin 3)
  /-- CHECKER_SYNC_CHANGE (R434). -/
  | checkerSyncChange (l : Fin 20) (sync : Bool) (bits errs : Word)
  /-- VEX_SUPPLY_CHANGE (R385). -/
  | vexSupplyChange (present : Bool)
  /-- STANDBY_ENTRY_TIMEOUT (R422). -/
  | standbyEntryTimeout (drainWait : Bool)
  /-- TICKOUT_PULSE_END (R41). -/
  | tickoutPulseEnd
  deriving DecidableEq, Repr

end Sys2Proof
end

