-- ==== Sys2Proof/Decode.lean ====
section
/-! DEFINITION. What a 32-bit instruction word says to a core (R207, R209-R219), and the command a word spells by the
table's bits: the table gives no row any bits (every row's field list is empty), so no word spells a command. -/

namespace Sys2Proof

open Sys2Proof.Machine (bitsOf)

/-- The command a word of `nbits` bits spells by the table's bits: none, since no row has bits. -/
def decodeTableWord (_nbits _w : Nat) : Option Instr := none

/-! ## Fields (R207, R213) -/

/-- A field of a word: `n` bits from `lo`. -/
def fieldOf (w : BitVec 32) (lo n : Nat) : Nat := bitsOf w.toNat lo n

/-- A g field. -/
def gField (w : BitVec 32) (lo : Nat) : GReg := Fin.ofNat 32 (fieldOf w lo 5)
/-- A c field. -/
def cField (w : BitVec 32) (lo : Nat) : CReg := Fin.ofNat 16 (fieldOf w lo 4)
/-- A p field. -/
def pField (w : BitVec 32) (lo : Nat) : PReg := Fin.ofNat 8 (fieldOf w lo 3)
/-- A v field. -/
def vField (w : BitVec 32) (lo : Nat) : VReg := Fin.ofNat 8 (fieldOf w lo 3)
/-- An EW or SIZE field. -/
def ewField (w : BitVec 32) (lo : Nat) : EW := Fin.ofNat 4 (fieldOf w lo 2)

/-- PG and SN (R207). -/
def guardField (w : BitVec 32) : Guard := ⟨pField w 29, fieldOf w 28 1 = 1⟩

/-- MAJOR (R207). -/
def majorOf (w : BitVec 32) : Nat := fieldOf w 22 6

/-- `x`, unless a reserved field of the word is not zero (R210): the fields are given by `lo` and `n`. -/
def ifZero {α : Type} (w : BitVec 32) (l : List (Nat × Nat)) (x : Option α) : Option α :=
  if l.all fun f => fieldOf w f.1 f.2 = 0 then x else none

/-! ## Functions by code (R213, R215, R218) -/

/-- OP FUNC 0x00 to 0x0F. -/
def opCodes : List OpF :=
  [.add, .sub, .addw, .subw, .and, .or, .xor, .andn, .sll, .srl, .sra, .ror, .min, .max, .minu, .maxu]
/-- LOGI OPC. -/
def logiCodes : List LogiF := [.andi, .ori, .xori]
/-- SHI OPC. -/
def shiCodes : List ShiF := [.slli, .srli, .srai, .rori]
/-- MD FUNC. -/
def mdCodes : List MdF := [.mul, .mulh, .mulhu, .div, .divu, .rem, .remu]
/-- EXT FUNC. -/
def extCodes : List ExtF := [.sextb, .sexth, .sextw, .zextb, .zexth, .zextw, .clz, .ctz, .popc, .bswap]
/-- COND. -/
def condCodes : List Cond := [.eq, .ne, .lt, .ge, .ltu, .geu, .tstz, .tstnz]
/-- VVV and VVS FUNC. -/
def vecCodes : List VecF :=
  [.add, .sub, .mul, .mulh, .and, .or, .xor, .min, .max, .minu, .maxu, .sll, .srl, .sra, .sadd, .ssub, .absd]

/-- CAP FUNC; 0x08 to 0x0D need a cd field of 0 (R215). -/
def capCode (w : BitVec 32) : Option CapF :=
  match fieldOf w 0 5 with
  | 0x00 => some .cmov
  | 0x01 => some .cincoff
  | 0x02 => some .csetoff
  | 0x03 => some .candrights
  | 0x04 => some .cclrtag
  | 0x05 => some .csetlo
  | 0x06 => some .csethi
  | 0x08 => ifZero w [(18, 4)] (some .cgetlo)
  | 0x09 => ifZero w [(18, 4)] (some .cgethi)
  | 0x0A => ifZero w [(18, 4)] (some .cgettag)
  | 0x0B => ifZero w [(18, 4)] (some .cgetoff)
  | 0x0C => ifZero w [(18, 4)] (some .cgetlen)
  | 0x0D => ifZero w [(18, 4)] (some .cgetrights)
  | _ => none

/-- A PLOG word (R213). -/
def decodePlog (w : BitVec 32) : Option Scalar :=
  let f (x : PlogF) : Option Scalar := some (.plog x (pField w 19) (pField w 16) (pField w 13))
  match fieldOf w 10 3 with
  | 0 => ifZero w [(0, 10)] (f .pand)
  | 1 => ifZero w [(0, 10)] (f .por)
  | 2 => ifZero w [(0, 10)] (f .pxor)
  | 3 => ifZero w [(0, 10)] (f .pandn)
  | 4 => ifZero w [(0, 10), (13, 3)] (f .pnot)
  | 5 => ifZero w [(0, 10), (13, 3)] (f .pmov)
  | 6 => ifZero w [(0, 10), (13, 6)] (f .pclr)
  | _ => ifZero w [(0, 4), (13, 9)] (some (.pbundle (gField w 5) (fieldOf w 4 1 = 1)))

/-! ## Words -/

/-- A word of a major that may follow REP (R213 to R215, R249); none where it breaks R210. -/
def decodeScalar (w : BitVec 32) : Option Scalar :=
  match majorOf w with
  | 0x01 => opCodes[fieldOf w 0 7]?.map fun f => .op f (gField w 17) (gField w 12) (gField w 7)
  | 0x02 => some (.addi (gField w 17) (gField w 12) (w.extractLsb' 0 12))
  | 0x03 => logiCodes[fieldOf w 10 2]?.map fun f => .logi f (gField w 17) (gField w 12) (w.extractLsb' 0 10)
  | 0x04 => ifZero w [(8, 4)]
      (shiCodes[fieldOf w 6 2]?.map fun f => .shi f (gField w 17) (gField w 12) (w.extractLsb' 0 6))
  | 0x05 => ifZero w [(16, 1)] (some (.movh (gField w 17) (w.extractLsb' 0 16)))
  | 0x06 => mdCodes[fieldOf w 0 7]?.map fun f => .md f (gField w 17) (gField w 12) (gField w 7)
  | 0x07 => ifZero w [(7, 5)] (extCodes[fieldOf w 0 7]?.map fun f => .ext f (gField w 17) (gField w 12))
  | 0x08 => ifZero w [(0, 2)]
      (condCodes[fieldOf w 2 4]?.map fun f => .cmp f (pField w 19) (pField w 16) (gField w 11) (gField w 6))
  | 0x09 => condCodes[fieldOf w 8 3]?.map fun f => .cmpi f (pField w 19) (pField w 16) (gField w 11) (w.extractLsb' 0 8)
  | 0x0A => decodePlog w
  | 0x10 => some (.ld (gField w 17) (cField w 13) (ewField w 11) (w.extractLsb' 0 11))
  | 0x11 => some (.ldu (gField w 17) (cField w 13) (ewField w 11) (w.extractLsb' 0 11))
  | 0x12 => some (.st (gField w 17) (cField w 13) (ewField w 11) (w.extractLsb' 0 11))
  | 0x13 => ifZero w [(0, 2)]
      (some (.ldx (gField w 17) (cField w 13) (gField w 8) (ewField w 6) (w.extractLsb' 4 2) (fieldOf w 3 1 = 1) (fieldOf w 2 1 = 1)))
  | 0x14 => ifZero w [(10, 4)] (some (.cld (cField w 18) (cField w 14) (w.extractLsb' 0 10)))
  | 0x18 => some (.cincoffi (cField w 18) (cField w 14) (w.extractLsb' 0 14))
  | 0x19 => ifZero w [(5, 4)] ((capCode w).map fun f => .cap f (cField w 18) (cField w 14) (gField w 9))
  | _ => none

/-- The word after a REP prefix (R249). -/
def repWord (w : BitVec 32) : RepWord :=
  match decodeScalar w with
  | some x => .admitted (guardField w) x
  | none => .other

/-- The command of an OP word. -/
def opInstr (k : CoreId) (p : Guard) (gd ga gb : GReg) : OpF → Instr
  | .add => .add k p gd ga gb
  | .sub => .sub k p gd ga gb
  | .addw => .addw k p gd ga gb
  | .subw => .subw k p gd ga gb
  | .and => .and k p gd ga gb
  | .or => .or k p gd ga gb
  | .xor => .xor k p gd ga gb
  | .andn => .andn k p gd ga gb
  | .sll => .sll k p gd ga gb
  | .srl => .srl k p gd ga gb
  | .sra => .sra k p gd ga gb
  | .ror => .ror k p gd ga gb
  | .min => .min k p gd ga gb
  | .max => .max k p gd ga gb
  | .minu => .minu k p gd ga gb
  | .maxu => .maxu k p gd ga gb

/-- The command of an EXT word. -/
def extInstr (k : CoreId) (p : Guard) (gd ga : GReg) : ExtF → Instr
  | .sextb => .sextb k p gd ga
  | .sexth => .sexth k p gd ga
  | .sextw => .sextw k p gd ga
  | .zextb => .zextb k p gd ga
  | .zexth => .zexth k p gd ga
  | .zextw => .zextw k p gd ga
  | .clz => .clz k p gd ga
  | .ctz => .ctz k p gd ga
  | .popc => .popc k p gd ga
  | .bswap => .bswap k p gd ga

/-- The command of a CAP word. -/
def capInstr (k : CoreId) (p : Guard) (cd cs : CReg) (g : GReg) : CapF → Instr
  | .cmov => .cmov k p cd cs
  | .cincoff => .cincoff k p cd cs g
  | .csetoff => .csetoff k p cd cs g
  | .candrights => .candrights k p cd cs g
  | .cclrtag => .cclrtag k p cd cs
  | .csetlo => .csetlo k p cd cs g
  | .csethi => .csethi k p cd cs g
  | .cgetlo => .cgetlo k p g cs
  | .cgethi => .cgethi k p g cs
  | .cgettag => .cgettag k p g cs
  | .cgetoff => .cgetoff k p g cs
  | .cgetlen => .cgetlen k p g cs
  | .cgetrights => .cgetrights k p g cs

/-- The command of a word of one of these majors. -/
def scalarInstr (k : CoreId) (p : Guard) : Scalar → Instr
  | .op f gd ga gb => opInstr k p gd ga gb f
  | .addi gd ga imm => .addi k p gd ga imm
  | .logi .andi gd ga imm => .andi k p gd ga imm
  | .logi .ori gd ga imm => .ori k p gd ga imm
  | .logi .xori gd ga imm => .xori k p gd ga imm
  | .shi .slli gd ga sh => .slli k p gd ga sh
  | .shi .srli gd ga sh => .srli k p gd ga sh
  | .shi .srai gd ga sh => .srai k p gd ga sh
  | .shi .rori gd ga sh => .rori k p gd ga sh
  | .movh gd imm => .movh k p gd imm
  | .md .mul gd ga gb => .mul k p gd ga gb
  | .md .mulh gd ga gb => .mulh k p gd ga gb
  | .md .mulhu gd ga gb => .mulhu k p gd ga gb
  | .md .div gd ga gb => .div k p gd ga gb
  | .md .divu gd ga gb => .divu k p gd ga gb
  | .md .rem gd ga gb => .rem k p gd ga gb
  | .md .remu gd ga gb => .remu k p gd ga gb
  | .ext f gd ga => extInstr k p gd ga f
  | .cmp c pt pf ga gb => .cmp k p c pt pf ga gb
  | .cmpi c pt pf ga imm => .cmpi k p c pt pf ga imm
  | .plog .pand pd pa pb => .pand k p pd pa pb
  | .plog .por pd pa pb => .por k p pd pa pb
  | .plog .pxor pd pa pb => .pxor k p pd pa pb
  | .plog .pandn pd pa pb => .pandn k p pd pa pb
  | .plog .pnot pd pa _ => .pnot k p pd pa
  | .plog .pmov pd pa _ => .pmov k p pd pa
  | .plog .pclr pd _ _ => .pclr k p pd
  | .pbundle g dir => .pbundle k p g dir
  | .ld gd cs sz imm => .ld k p gd cs sz imm
  | .ldu gd cs sz imm => .ldu k p gd cs sz imm
  | .st gs cs sz imm => .st k p gs cs sz imm
  | .ldx g cs gi sz scale u store => .ldx k p g cs gi sz scale u store
  | .cld cd cs imm => .cld k p cd cs imm
  | .cincoffi cd cs imm => .cincoffi k p cd cs imm
  | .cap f cd cs g => capInstr k p cd cs g f

/-- The command of a VVV or VVS word. -/
def vecInstr (k : CoreId) (p : Guard) (vd va : VReg) (b : VSrc) (ew : EW) : VecF → Instr
  | .add => .vadd k p vd va b ew
  | .sub => .vsub k p vd va b ew
  | .mul => .vmul k p vd va b ew
  | .mulh => .vmulh k p vd va b ew
  | .and => .vand k p vd va b ew
  | .or => .vor k p vd va b ew
  | .xor => .vxor k p vd va b ew
  | .min => .vmin k p vd va b ew
  | .max => .vmax k p vd va b ew
  | .minu => .vminu k p vd va b ew
  | .maxu => .vmaxu k p vd va b ew
  | .sll => .vsll k p vd va b ew
  | .srl => .vsrl k p vd va b ew
  | .sra => .vsra k p vd va b ew
  | .sadd => .vsadd k p vd va b ew
  | .ssub => .vssub k p vd va b ew
  | .absd => .vabsd k p vd va b ew

/-- A CAUTH or SEAL or QOP word (R215). -/
def decodeAuth (k : CoreId) (p : Guard) (w : BitVec 32) : Option Instr :=
  let cd := cField w 18
  let cs := cField w 14
  match majorOf w, fieldOf w 0 1, fieldOf w 2 2 with
  | 0x1A, 0, _ => ifZero w [(1, 9)] (some (.sealCap k p cd cs (cField w 10)))
  | 0x1A, _, _ => ifZero w [(1, 9)] (some (.unsealCap k p cd cs (cField w 10)))
  | 0x1B, _, 0 => ifZero w [(0, 2), (4, 10)] (some (.cmint k p cd cs))
  | 0x1B, _, 1 => ifZero w [(0, 2)] (some (.deriveCap k p cd cs (gField w 9) (gField w 4)))
  | 0x1B, _, 2 => ifZero w [(0, 2), (4, 10), (18, 4)] (some (.release k p cs))
  | 0x1C, 0, _ => ifZero w [(1, 8)] (some (.enq k p cd cs (gField w 9)))
  | 0x1C, _, _ => ifZero w [(1, 8)] (some (.deq k p cd cs (gField w 9)))
  | _, _, _ => none

/-- A control transfer, LOOP or block-repeat word (R216). -/
def decodeTransfer (k : CoreId) (p : Guard) (w : BitVec 32) (due : Option Nat) : Option Instr :=
  match majorOf w with
  | 0x20 => some (.br k p (w.extractLsb' 0 22))
  | 0x21 => some (.call k p (w.extractLsb' 0 22))
  | 0x22 => ifZero w [(0, 17)] (some (.cjmp k p (cField w 18) (fieldOf w 17 1 = 1)))
  | 0x23 =>
    match fieldOf w 0 2 with
    | 0 => ifZero w [(2, 20)] (some (.ret k p))
    | 1 => ifZero w [(2, 12)] (some (.invoke k p (cField w 18) (cField w 14)))
    | _ => none
  | 0x24 =>
    match fieldOf w 20 2 with
    | 0 => some (.loop k p (w.extractLsb' 0 20))
    | 1 => ifZero w [(0, 15)] (some (.setlc k p (gField w 15)))
    | 2 => some (.setlci k p (w.extractLsb' 0 20))
    | _ => ifZero w [(0, 15)] (some (.getlc k p (gField w 15)))
  | 0x2A =>
    match fieldOf w 19 3 with
    | 0 => ifZero w [(0, 17)] (some (.movb k p (ewField w 17) due))
    | 1 => ifZero w [(0, 17)] (some (.cmpb k p (ewField w 17) due))
    | 2 => ifZero w [(0, 17)] (some (.fillb k p (ewField w 17) due))
    | 3 => ifZero w [(0, 17)] (some (.scanb k p (ewField w 17) due))
    | _ => none
  | _ => none

/-- A SYS or CTL word (R217). -/
def decodeSystem (k : CoreId) (p : Guard) (w : BitVec 32) : Option Instr :=
  match majorOf w, fieldOf w 18 4 with
  | 0x2C, 0 => ifZero w [(3, 15)] (some (.scall k p (Fin.ofNat 8 (fieldOf w 0 3))))
  | 0x2C, 1 => ifZero w [(0, 18)] (some (.sret k p))
  | 0x2C, 2 => ifZero w [(0, 18)] (some (.eret k p))
  | 0x2C, 3 => ifZero w [(11, 7)] (some (.nib k p (w.extractLsb' 0 11)))
  | 0x2C, 4 => ifZero w [(0, 18)] (some (.wait k p))
  | 0x2C, 5 => ifZero w [(16, 2)] (some (.breakpoint k p (w.extractLsb' 0 16)))
  | 0x2D, 0 => ifZero w [(6, 7)] (some (.mfc k p (gField w 13) (w.extractLsb' 0 6)))
  | 0x2D, 1 => ifZero w [(6, 7)] (some (.mtc k p (gField w 13) (w.extractLsb' 0 6)))
  | 0x2D, 2 => ifZero w [(0, 18)] (some (.csync k p))
  | 0x2D, 3 => ifZero w [(0, 18)] (some (.fence k p))
  | 0x2D, 4 => ifZero w [(0, 14)] (some (.cmfc k p (cField w 14)))
  | 0x2D, 5 => ifZero w [(0, 14)] (some (.cmtc k p (cField w 14)))
  | _, _ => none

/-- A VMOV word (R218); an IDX that is not below 256 / EW is the command's own to refuse. -/
def decodeVmov (k : CoreId) (p : Guard) (w : BitVec 32) : Option Instr :=
  let v := vField w 19
  let g := gField w 14
  let ew := ewField w 12
  let idx : Fin 32 := Fin.ofNat 32 (fieldOf w 0 5)
  match fieldOf w 8 4 with
  | 0 => ifZero w [(0, 8)] (some (.vbcast k p v g ew))
  | 1 => ifZero w [(5, 3)] (some (.vexti k p v g ew idx))
  | 2 => ifZero w [(5, 3)] (some (.vinsi k p v g ew idx))
  | 3 => ifZero w [(0, 8)] (some (.vredsum k p v g ew))
  | 4 => ifZero w [(0, 8)] (some (.vredmin k p v g ew))
  | 5 => ifZero w [(0, 8)] (some (.vredmax k p v g ew))
  | 6 => ifZero w [(0, 8)] (some (.vredminu k p v g ew))
  | 7 => ifZero w [(0, 8)] (some (.vredmaxu k p v g ew))
  | _ => none

/-- A vector word (R218). -/
def decodeVector (k : CoreId) (p : Guard) (w : BitVec 32) : Option Instr :=
  let vd := vField w 19
  let va := vField w 16
  match majorOf w with
  | 0x30 =>
    if fieldOf w 12 1 = 0 then some (.vld k p vd (cField w 15) (ewField w 13) (w.extractLsb' 0 12))
    else some (.vst k p vd (cField w 15) (ewField w 13) (w.extractLsb' 0 12))
  | 0x31 => ifZero w [(0, 6)] (vecCodes[fieldOf w 6 5]?.map (vecInstr k p vd va (.vec (vField w 13)) (ewField w 11)))
  | 0x32 => ifZero w [(0, 4)] (vecCodes[fieldOf w 4 5]?.map (vecInstr k p vd va (.scal (gField w 11)) (ewField w 9)))
  | 0x33 => decodeVmov k p w
  | 0x34 =>
    match fieldOf w 4 2 with
    | 0 => ifZero w [(0, 4)] (some (.vpsd k p vd va (vField w 13) (gField w 8) (ewField w 6)))
    | 1 => ifZero w [(0, 4)] (some (.vpacc k p vd va (vField w 13) (gField w 8) (ewField w 6)))
    | 2 => ifZero w [(0, 4)] (some (.vswin k p vd va (vField w 13) (gField w 8) (ewField w 6)))
    | _ => none
  | 0x35 => ifZero w [(0, 10)] (some (.setvl k p (gField w 17) (gField w 12) (ewField w 10)))
  | _ => none

/-- What core `k` is to execute where it fetches the word `w`, with the word `next` behind it for a REP prefix: an
instruction, or none, which raises Illegal Instruction (R210, R211). What R210 asks of level, class, vector state and
guard is the instruction's own. `due` is when an event is due in a REPI pair or a block-repeat instruction (log entry
13). -/
def decodeWord (k : CoreId) (w next : BitVec 32) (due : Option Nat) : Option Instr :=
  let p := guardField w
  match decodeScalar w with
  | some x => some (scalarInstr k p x)
  | none =>
    match majorOf w with
    | 0x15 => ifZero w [(10, 4)] (some (.cst k p (cField w 18) (cField w 14) (w.extractLsb' 0 10)))
    | 0x28 => ifZero w [(0, 21)] (some (if fieldOf w 21 1 = 0 then .repu k ⟨p, next⟩ else .repi k ⟨p, next⟩ due))
    | _ =>
      ((decodeAuth k p w).or (decodeTransfer k p w due)).or ((decodeSystem k p w).or (decodeVector k p w))

end Sys2Proof
end

