-- ==== Sys2Proof/Machine/Maps.lean ====
section
/-! DEFINITION. Finite maps as plain data: association lists in which each key stands once, newest
first. A key that is absent reads as a default that the reader names. -/

namespace Sys2Proof.Machine

/-- A finite map: key and value pairs, each key once. -/
structure AMap (K V : Type) where
  entries : List (K × V)
  deriving DecidableEq, Repr

/-- The map with no entry. -/
def emptyMap {K V : Type} : AMap K V := ⟨[]⟩

/-- The value of the first pair with key `k` in a list of pairs. -/
def lookupIn {K V : Type} [DecidableEq K] (k : K) : List (K × V) → Option V
  | [] => none
  | (a, v) :: l => if a = k then some v else lookupIn k l

/-- The pairs of a list whose key is not `k`. -/
def eraseIn {K V : Type} [DecidableEq K] (k : K) : List (K × V) → List (K × V)
  | [] => []
  | (a, v) :: l => if a = k then eraseIn k l else (a, v) :: eraseIn k l

/-- The value at a key, if there is one. -/
def AMap.find {K V : Type} [DecidableEq K] (m : AMap K V) (k : K) : Option V := lookupIn k m.entries

/-- The value at a key, or the default. -/
def AMap.get {K V : Type} [DecidableEq K] (m : AMap K V) (d : V) (k : K) : V := (m.find k).getD d

/-- The map with `v` at `k`. -/
def AMap.set {K V : Type} [DecidableEq K] (m : AMap K V) (k : K) (v : V) : AMap K V :=
  ⟨(k, v) :: eraseIn k m.entries⟩

/-- The map with no entry at `k`. -/
def AMap.erase {K V : Type} [DecidableEq K] (m : AMap K V) (k : K) : AMap K V := ⟨eraseIn k m.entries⟩

/-- The keys that have an entry. -/
def AMap.keys {K V : Type} (m : AMap K V) : List K := m.entries.map Prod.fst

/-- The entries whose key passes a test. -/
def AMap.keep {K V : Type} (m : AMap K V) (p : K → Bool) : AMap K V := ⟨m.entries.filter fun e => p e.1⟩

/-- The map with every value changed by `f`. -/
def AMap.mapVal {K V W : Type} (m : AMap K V) (f : V → W) : AMap K W := ⟨m.entries.map fun e => (e.1, f e.2)⟩

/-- The list with `f` applied to its element number `i`. -/
def updateAt {A : Type} (f : A → A) : Nat → List A → List A
  | _, [] => []
  | 0, a :: l => f a :: l
  | n + 1, a :: l => a :: updateAt f n l

/-- The list with its first element that passes `p` taken out, and that element. -/
def takeFirst {A : Type} (p : A → Bool) : List A → Option (A × List A)
  | [] => none
  | a :: l => if p a then some (a, l) else (takeFirst p l).map fun r => (r.1, a :: r.2)

/-- The list with each element once. -/
def onceEach {A : Type} [DecidableEq A] : List A → List A
  | [] => []
  | a :: l => if l.contains a then onceEach l else a :: onceEach l

/-- Numbers `lo`, `lo + 1`, … (`n` of them). -/
def numsFrom (lo : Nat) : Nat → List Nat
  | 0 => []
  | n + 1 => lo :: numsFrom (lo + 1) n

end Sys2Proof.Machine
end

