-- ==== Sys2Proof/Machine/Regs.lean ====
section
/-! DEFINITION. The control-space registers and their fields, as the register summary and field tables
of spec/ give them (R56, R57, R90, R130, R156, R157, R196, R293, R333, R359-R382, R414, R437-R439):
the bits, the access code of R7, the reset value of R11 and the Persists column of R12. A field that
the Reset column marks NV has reset value 0 until its load (R11). -/

namespace Sys2Proof.Machine

/-- The access codes of R7; reserved bits belong to no field (R8). -/
inductive Acc where
  | ro | rw | wo | w1c | w1s
  deriving DecidableEq, Repr

/-- The reset kinds of R12, `none` for state no reset clears. -/
inductive ResetKind where
  | por | bor | tzr | wdr | sdr | tlr | crr | port | none
  deriving DecidableEq, Repr

/-- The control-space registers. P_CFG stands once for each kind of port (R365, R368, R372, R374, R380). -/
inductive Reg where
  | TU_TICK | TU_PHASE | TU_CTRL | TU_PEND | TU_PENDAT | TU_REFOFS | TU_STAT | TU_CORR
  | TU_OFFS | AM_CTRL | TASK_ALLOW | TASK_USE | TASK_OVR | CLASS_CFG | CLASS_USE | CLASS_OVR
  | ENG_ALLOW | ENG_USE | ENG_OVR | HM_CTRL | HM_STAT | HM_CFG | HM_LOGBASE | HM_BUFBASE
  | HM_RBINFO | HM_SESSSEL | HM_SESSVIEW | HM_SESSQ | HM_CNTREP | HM_CNTNACK | HM_CNTDROP | HM_CNTLINK
  | HM_CNTDISC | HM_BUFIDX | PR_CTRL | PR_STAT | PR_NEXTLSN | PR_ARCHLSN | PR_OCC | PR_LASTBLK
  | PR_LASTSIG | PR_ACFG | PR_ABIND | PR_SPARE | PR_CNTREC | PR_CNTERR | PR_CNTARC | WT_CTRL
  | WT_STAT | WT_SHADOW | WT_SEQ | WT_PEND | WT_PENDAT | WT_COUNT | WT_SALTLO | WT_SALTHI
  | WT_CNTLK | WT_CNTRES | WT_STASH | SE_CTRL | SE_STAT | SE_CUR | SE_CNTJOB | SE_CNTERR
  | RW_CTRL | RW_STAT | RW_CFG | RW_FREE | RW_EPOCH | RW_SWEEP | RW_CNTFILL | RW_CNTCMD
  | RW_CMD | RW_ARG0 | RW_ARG1 | RW_ARG2 | RW_RESULT | TC_CTRL | TC_ENTRY | TC_PEND
  | TC_STOPINFO | TC_CORE | TC_CSINFO | FG_CTRL | FG_STAT | FG_UPD | FG_EPOCH | FG_LOG
  | FG_CNT | FG_PCRANGE | FG_PCSEL | FG_PCVIEW | FG_RALLOW | FG_WALLOW | FG_BASE | FG_LIMIT
  | FG_LRALLOW | FG_LWALLOW | FG_LBASE | FG_LLIMIT | P_CTRL | P_STAT | LP_CFG | HP_CFG
  | CN_CFG | SL_CFG | AP_CFG | LP_MAC | LP_IP4 | LP_IP6LO | LP_IP6HI | LP_CNTRX
  | LP_CNTTX | LP_TSRX | LP_TSTX | LP_TSID | HP_CNT | AP_CNT | CN_CNT | SL_TRIG
  | SL_CNT | GP_DIR | GP_OUT | GP_IN | GP_SET | GP_CLR | GP_EDGE | TT_LCS
  | TT_BOOT | TT_ARB | TT_TSTAT | TT_TARM | TT_DBG | TT_RINSE | PW_STATE | PW_REQ
  | PW_RSTAT | PW_RLOG | PW_SDR | PW_TLR | PW_CRR | PW_WDCFG | PW_WDKICK | PW_WDSTAT
  | PW_TILECFG | PW_WAKE | PW_WAKETMR | PW_PFCFG | DN_CFG | DN_STAT | DN_LASTUE | DN_CNTDRAM
  | DN_CNTLED | DN_CNTFW | DN_CNTTAG | TS_BIST | TS_BISTRES | TS_HALT | TS_CTRL | TS_STAT
  | TS_BITS | TS_ERRS
  deriving DecidableEq, Repr

/-- The fields of the control-space registers, each named register_field. -/
inductive Fld where
  | TU_TICK_TICK | TU_PHASE_PHASE | TU_CTRL_TOEN | TU_CTRL_PTPLANE | TU_CTRL_SRC
  | TU_CTRL_PERIOD | TU_PEND_PENDERR | TU_PEND_ARM | TU_PEND_NEWPERIOD | TU_PENDAT_ATTICK
  | TU_REFOFS_OFFSET | TU_STAT_RELOCK | TU_STAT_REFLOST | TU_STAT_TINMISS | TU_STAT_LOCK
  | TU_CORR_LENGTH | TU_CORR_CORR | TU_OFFS_OFFSET | AM_CTRL_ENABLE | TASK_ALLOW_CMETER
  | TASK_ALLOW_ALLOW | TASK_USE_REMAIN | TASK_OVR_EXCESS | TASK_OVR_OVRTICKS | CLASS_CFG_DSPALLOW
  | CLASS_CFG_KIND | CLASS_CFG_CYCALLOW | CLASS_USE_DSPREMAIN | CLASS_USE_CYCREMAIN | CLASS_OVR_EXCESS
  | CLASS_OVR_DSPOVR | CLASS_OVR_CYCOVR | ENG_ALLOW_ALLOW | ENG_USE_REMAIN | ENG_USE_HELD
  | ENG_OVR_OVRTICKS | ENG_OVR_DROPS | HM_CTRL_START | HM_CTRL_ENABLE | HM_STAT_OPENSESS
  | HM_STAT_FULL | HM_STAT_LOGERR | HM_STAT_READY | HM_CFG_ACKDLY | HM_CFG_ABANDMS
  | HM_LOGBASE_BASE | HM_BUFBASE_BASE | HM_RBINFO_RESTORED | HM_RBINFO_RBTIME | HM_SESSSEL_SESSION
  | HM_SESSVIEW_NEXT | HM_SESSVIEW_EPOCH | HM_SESSVIEW_PEER | HM_SESSVIEW_OPEN | HM_SESSQ_QUEUED
  | HM_SESSQ_DISPATCHED | HM_SESSQ_COMMITTING | HM_SESSQ_ABANDTMR | HM_SESSQ_LOGN | HM_CNTREP_ACKDUP
  | HM_CNTREP_NACKLATE | HM_CNTNACK_NACKFULL | HM_CNTNACK_NACKBUSY | HM_CNTNACK_NACKSEQ | HM_CNTNACK_NACKREJ
  | HM_CNTDROP_DUPDROP | HM_CNTDROP_HDRDROP | HM_CNTLINK_LRETX | HM_CNTLINK_LDUP | HM_CNTLINK_LGIVEUP
  | HM_CNTDISC_FAULTDISC | HM_CNTDISC_ABANDONS | HM_BUFIDX_FIRST | PR_CTRL_RECOVER | PR_CTRL_ARCHEN
  | PR_CTRL_ENABLE | PR_STAT_PFDONE | PR_STAT_SEALED | PR_STAT_LFAULT | PR_STAT_ASTALL
  | PR_STAT_RESERVE | PR_STAT_FULL | PR_STAT_READY | PR_NEXTLSN_NEXTLSN | PR_ARCHLSN_ARCHLSN
  | PR_OCC_PEAK | PR_OCC_OCC | PR_LASTBLK_LASTBLK | PR_LASTSIG_LASTSIG | PR_ACFG_LBAS
  | PR_ACFG_CAPSEG | PR_ABIND_BINDLSN | PR_SPARE_USED | PR_CNTREC_TASKREC | PR_CNTREC_DEVREC
  | PR_CNTERR_VRETRY | PR_CNTERR_REMAP | PR_CNTERR_REFUSED | PR_CNTERR_TORN | PR_CNTERR_RECBLK
  | PR_CNTARC_AWRITES | PR_CNTARC_AERR | PR_CNTARC_ATMO | WT_CTRL_ENABLE | WT_CTRL_LOADED
  | WT_STAT_ACTIVE | WT_STAT_ARMED | WT_STAT_PENDERR | WT_STAT_ECCERR | WT_STAT_STASHN
  | WT_SHADOW_BASE | WT_SEQ_TABLESEQ | WT_SEQ_NEXTSEQ | WT_PEND_ARM | WT_PEND_RESTORE
  | WT_PENDAT_ATTICK | WT_COUNT_COUNT | WT_COUNT_NEXTCNT | WT_SALTLO_SALT | WT_SALTHI_SALT
  | WT_CNTLK_LOOKUPS | WT_CNTRES_MISSES | WT_CNTRES_OUTSIDE | WT_CNTRES_ECCERRS | WT_STASH_DATA
  | SE_CTRL_ENABLE | SE_CTRL_OFFLINE | SE_STAT_READY | SE_STAT_BUSY | SE_STAT_FAULT
  | SE_STAT_ENTFAIL | SE_STAT_QLEN | SE_CUR_OP | SE_CUR_TASK | SE_CUR_STEWARD
  | SE_CUR_PRESS | SE_CUR_ELAPSED | SE_CNTJOB_JOBS | SE_CNTERR_NOTVER | SE_CNTERR_REFUSED
  | SE_CNTERR_FAULTS | SE_CNTERR_SELFCHK | RW_CTRL_INIT | RW_CTRL_ENABLE | RW_STAT_LOWFREE
  | RW_STAT_ECCERR | RW_STAT_SWEEPING | RW_STAT_READY | RW_CFG_PATROL | RW_CFG_SWEEPAT
  | RW_CFG_RESERVE | RW_FREE_FREE | RW_FREE_QUAR | RW_EPOCH_EPOCHS | RW_SWEEP_SWEEPS
  | RW_SWEEP_LASTMS | RW_SWEEP_START | RW_CNTFILL_WALKS | RW_CNTFILL_STALEFILL | RW_CNTFILL_RETRIED
  | RW_CNTCMD_COMMANDS | RW_CNTCMD_DENIED | RW_CNTCMD_ORPHANS | RW_CMD_OP | RW_CMD_INDEX
  | RW_CMD_MODMASK | RW_ARG0_BASE | RW_ARG1_LIMIT | RW_ARG1_XSEAL | RW_ARG1_MAXRIGHTS
  | RW_ARG2_OWNER | RW_ARG2_TYPE | RW_ARG2_COLOUR | RW_ARG2_PEGGED | RW_ARG2_LEDGERONLY
  | RW_RESULT_INDEX | RW_RESULT_GEN | RW_RESULT_STATUS | RW_RESULT_EPOCH | RW_RESULT_DONE
  | TC_CTRL_STOPWHY | TC_CTRL_RESULT | TC_CTRL_STATE | TC_CTRL_TICKIE | TC_CTRL_VEC
  | TC_CTRL_CLASS | TC_CTRL_DESTROY | TC_CTRL_STOP | TC_CTRL_CREATE | TC_ENTRY_INDEX
  | TC_ENTRY_GEN | TC_ENTRY_OFFSET | TC_PEND_START | TC_PEND_DOORBELL | TC_PEND_TICK
  | TC_STOPINFO_CODE | TC_STOPINFO_CHECK | TC_STOPINFO_UNDER | TC_STOPINFO_OFFSET | TC_CORE_SREQ
  | TC_CORE_CSTOP | TC_CORE_IDLE | TC_CORE_TASKS | TC_CORE_LASTSTOP | TC_CSINFO_CODE
  | TC_CSINFO_LEVEL | TC_CSINFO_TASK | TC_CSINFO_OFFSET | FG_CTRL_MODE | FG_CTRL_NEXTMODE
  | FG_STAT_HOLDING | FG_STAT_DRAINED | FG_STAT_QUIET | FG_STAT_OVLP | FG_STAT_CFGERR
  | FG_UPD_HOLD | FG_UPD_COMMIT | FG_UPD_ABORT | FG_UPD_NRANGE | FG_EPOCH_EPOCHS
  | FG_LOG_ADDR | FG_LOG_MASTER | FG_LOG_REASON | FG_LOG_WRITE | FG_LOG_FETCH
  | FG_LOG_SLOT | FG_LOG_VALID | FG_CNT_REFUSED | FG_CNT_OVERLAPS | FG_CNT_SOROZ
  | FG_PCRANGE_FIRST | FG_PCRANGE_COUNT | FG_PCRANGE_COLOUR | FG_PCSEL_PAGE | FG_PCVIEW_COLOUR
  | FG_RALLOW_ALLOW | FG_WALLOW_ALLOW | FG_BASE_EN | FG_BASE_BASE | FG_LIMIT_LIMIT
  | FG_LRALLOW_ALLOW | FG_LWALLOW_ALLOW | FG_LBASE_EN | FG_LBASE_BASE | FG_LLIMIT_LIMIT
  | P_CTRL_ENABLE | P_CTRL_PRESET | P_STAT_LINK | P_STAT_LIMIT | P_STAT_FAULT
  | P_STAT_RATE | LP_CFG_MAXFRM | LP_CFG_PHY | LP_CFG_FEC | LP_CFG_VLANEN
  | LP_CFG_VID | LP_CFG_IP4EN | LP_CFG_IP6EN | LP_CFG_UDPPORT | HP_CFG_MAXGEN
  | HP_CFG_MAXWIDTH | HP_CFG_ASPML1 | CN_CFG_NODEID | CN_CFG_ABR | CN_CFG_DBR
  | SL_CFG_BR | SL_CFG_TIMEBC | SL_CFG_RXQ | SL_CFG_RSPTMO | SL_CFG_POLLMAP
  | AP_CFG_MAXGEN | AP_CFG_MAXWIDTH | AP_CFG_ASPML1 | LP_MAC_MAC | LP_IP4_ADDR
  | LP_IP6LO_ADDR | LP_IP6HI_ADDR | LP_CNTRX_PLPFRAMES | LP_CNTRX_FCSERR | LP_CNTRX_DROPS
  | LP_CNTTX_FRAMES | LP_CNTTX_PAUSE | LP_CNTTX_OVERSIZE | LP_TSRX_TIME | LP_TSTX_TIME
  | LP_TSID_RXSEQ | LP_TSID_RXTYPE | LP_TSID_TXSEQ | LP_TSID_TXTYPE | HP_CNT_MSGIN
  | HP_CNT_BUSYWR | HP_CNT_BADREQ | HP_CNT_DROPS | AP_CNT_CMDS | AP_CNT_UR
  | AP_CNT_LINKDOWN | CN_CNT_RXFRAMES | CN_CNT_ERRFRAMES | CN_CNT_TEC | CN_CNT_BUSOFFS
  | SL_TRIG_ADDR | SL_TRIG_PAYLOAD | SL_CNT_DATAFRAMES | SL_CNT_NOANSWER | SL_CNT_CRCERR
  | SL_CNT_DROPS | GP_DIR_OUTEN | GP_OUT_OUT | GP_IN_IN | GP_SET_MASK
  | GP_CLR_MASK | GP_EDGE_EDGE | TT_LCS_STATE | TT_BOOT_ACTIVE | TT_BOOT_TRIAL
  | TT_BOOT_CONFIRM | TT_BOOT_TRIED | TT_BOOT_SOURCE | TT_ARB_FWCTR | TT_ARB_APPCTR
  | TT_TSTAT_SOURCE | TT_TSTAT_LATCH | TT_TARM_ARMED | TT_DBG_UNLOCKED | TT_DBG_SCOPE
  | TT_RINSE_START | TT_RINSE_DONE | PW_STATE_STATE | PW_STATE_DOZING | PW_STATE_ASLEEP
  | PW_REQ_STANDBY | PW_RSTAT_CAUSE | PW_RSTAT_RAIL | PW_RLOG_BORS | PW_RLOG_TZRS
  | PW_RLOG_WDRS | PW_RLOG_SDRS | PW_SDR_KEY | PW_TLR_TILES | PW_CRR_CORE
  | PW_CRR_GO | PW_WDCFG_PERIOD | PW_WDKICK_KEY | PW_WDSTAT_REMAIN | PW_TILECFG_DOZEEN
  | PW_TILECFG_SLEEPEN | PW_TILECFG_SLEEPUS | PW_WAKE_GPIO | PW_WAKE_CANA | PW_WAKE_CANB
  | PW_WAKE_TIMER | PW_WAKETMR_TICK | PW_PFCFG_PFPIN | PW_PFCFG_PFPOL | DN_CFG_DRAMH
  | DN_STAT_LEDGERUE | DN_STAT_FWUE | DN_STAT_PAUSED | DN_LASTUE_ADDR | DN_CNTDRAM_CE
  | DN_CNTDRAM_UE | DN_CNTLED_CE | DN_CNTLED_UE | DN_CNTFW_CE | DN_CNTFW_UE
  | DN_CNTTAG_TAGUE | DN_CNTTAG_DRAINUE | TS_BIST_TARGET | TS_BIST_START | TS_BISTRES_DONE
  | TS_BISTRES_PASS | TS_BISTRES_REFUSED | TS_BISTRES_FAILS | TS_HALT_CORE | TS_HALT_HALT
  | TS_HALT_STEP | TS_HALT_RESUME | TS_HALT_HALTED | TS_CTRL_PATTERN | TS_CTRL_LOOP
  | TS_CTRL_GEN | TS_CTRL_CHK | TS_CTRL_INJECT | TS_STAT_SYNC | TS_STAT_BADCFG
  | TS_STAT_SYNCLOSS | TS_BITS_BITS | TS_ERRS_ERRORS
  deriving DecidableEq, Repr

/-- A field's place in its register, its access code and its reset value. -/
structure FldSpec where
  hi : Nat
  lo : Nat
  acc : Acc
  reset : Nat
  deriving DecidableEq, Repr

/-- The field tables: bits, access, reset. -/
def Fld.spec : Fld → FldSpec
  | .TU_TICK_TICK => ⟨63, 0, .ro, 0⟩
  | .TU_PHASE_PHASE => ⟨19, 0, .ro, 0⟩
  | .TU_CTRL_TOEN => ⟨8, 8, .rw, 0⟩
  | .TU_CTRL_PTPLANE => ⟨6, 4, .rw, 0⟩
  | .TU_CTRL_SRC => ⟨3, 2, .rw, 0⟩
  | .TU_CTRL_PERIOD => ⟨1, 0, .ro, 0⟩
  | .TU_PEND_PENDERR => ⟨9, 9, .w1c, 0⟩
  | .TU_PEND_ARM => ⟨8, 8, .w1s, 0⟩
  | .TU_PEND_NEWPERIOD => ⟨1, 0, .rw, 0⟩
  | .TU_PENDAT_ATTICK => ⟨63, 0, .rw, 0⟩
  | .TU_REFOFS_OFFSET => ⟨31, 0, .wo, 0⟩
  | .TU_STAT_RELOCK => ⟨10, 10, .w1c, 0⟩
  | .TU_STAT_REFLOST => ⟨9, 9, .w1c, 0⟩
  | .TU_STAT_TINMISS => ⟨8, 8, .w1c, 0⟩
  | .TU_STAT_LOCK => ⟨1, 0, .ro, 0⟩
  | .TU_CORR_LENGTH => ⟨63, 32, .ro, 0⟩
  | .TU_CORR_CORR => ⟨31, 0, .ro, 0⟩
  | .TU_OFFS_OFFSET => ⟨31, 0, .ro, 0⟩
  | .AM_CTRL_ENABLE => ⟨0, 0, .rw, 0⟩
  | .TASK_ALLOW_CMETER => ⟨37, 32, .rw, 0⟩
  | .TASK_ALLOW_ALLOW => ⟨19, 0, .rw, 0⟩
  | .TASK_USE_REMAIN => ⟨19, 0, .ro, 0⟩
  | .TASK_OVR_EXCESS => ⟨63, 32, .rw, 0⟩
  | .TASK_OVR_OVRTICKS => ⟨31, 0, .rw, 0⟩
  | .CLASS_CFG_DSPALLOW => ⟨47, 32, .rw, 0⟩
  | .CLASS_CFG_KIND => ⟨27, 27, .rw, 0⟩
  | .CLASS_CFG_CYCALLOW => ⟨26, 0, .rw, 0⟩
  | .CLASS_USE_DSPREMAIN => ⟨47, 32, .ro, 0⟩
  | .CLASS_USE_CYCREMAIN => ⟨26, 0, .ro, 0⟩
  | .CLASS_OVR_EXCESS => ⟨63, 32, .rw, 0⟩
  | .CLASS_OVR_DSPOVR => ⟨31, 16, .rw, 0⟩
  | .CLASS_OVR_CYCOVR => ⟨15, 0, .rw, 0⟩
  | .ENG_ALLOW_ALLOW => ⟨31, 0, .rw, 0⟩
  | .ENG_USE_REMAIN => ⟨31, 0, .ro, 0⟩
  | .ENG_USE_HELD => ⟨63, 32, .ro, 0⟩
  | .ENG_OVR_OVRTICKS => ⟨31, 0, .rw, 0⟩
  | .ENG_OVR_DROPS => ⟨63, 32, .rw, 0⟩
  | .HM_CTRL_START => ⟨1, 1, .w1s, 0⟩
  | .HM_CTRL_ENABLE => ⟨0, 0, .rw, 0⟩
  | .HM_STAT_OPENSESS => ⟨48, 32, .ro, 0⟩
  | .HM_STAT_FULL => ⟨9, 9, .ro, 0⟩
  | .HM_STAT_LOGERR => ⟨8, 8, .w1c, 0⟩
  | .HM_STAT_READY => ⟨0, 0, .ro, 0⟩
  | .HM_CFG_ACKDLY => ⟨20, 16, .rw, 0⟩
  | .HM_CFG_ABANDMS => ⟨11, 0, .rw, 0⟩
  | .HM_LOGBASE_BASE => ⟨39, 26, .rw, 0⟩
  | .HM_BUFBASE_BASE => ⟨39, 29, .rw, 0⟩
  | .HM_RBINFO_RESTORED => ⟨48, 32, .ro, 0⟩
  | .HM_RBINFO_RBTIME => ⟨31, 0, .ro, 0⟩
  | .HM_SESSSEL_SESSION => ⟨15, 0, .rw, 0⟩
  | .HM_SESSVIEW_NEXT => ⟨31, 0, .ro, 0⟩
  | .HM_SESSVIEW_EPOCH => ⟨47, 32, .ro, 0⟩
  | .HM_SESSVIEW_PEER => ⟨57, 48, .ro, 0⟩
  | .HM_SESSVIEW_OPEN => ⟨58, 58, .ro, 0⟩
  | .HM_SESSQ_QUEUED => ⟨15, 0, .ro, 0⟩
  | .HM_SESSQ_DISPATCHED => ⟨16, 16, .ro, 0⟩
  | .HM_SESSQ_COMMITTING => ⟨17, 17, .ro, 0⟩
  | .HM_SESSQ_ABANDTMR => ⟨18, 18, .ro, 0⟩
  | .HM_SESSQ_LOGN => ⟨37, 32, .ro, 0⟩
  | .HM_CNTREP_ACKDUP => ⟨31, 0, .rw, 0⟩
  | .HM_CNTREP_NACKLATE => ⟨63, 32, .rw, 0⟩
  | .HM_CNTNACK_NACKFULL => ⟨15, 0, .rw, 0⟩
  | .HM_CNTNACK_NACKBUSY => ⟨31, 16, .rw, 0⟩
  | .HM_CNTNACK_NACKSEQ => ⟨47, 32, .rw, 0⟩
  | .HM_CNTNACK_NACKREJ => ⟨63, 48, .rw, 0⟩
  | .HM_CNTDROP_DUPDROP => ⟨31, 0, .rw, 0⟩
  | .HM_CNTDROP_HDRDROP => ⟨63, 32, .rw, 0⟩
  | .HM_CNTLINK_LRETX => ⟨31, 0, .rw, 0⟩
  | .HM_CNTLINK_LDUP => ⟨47, 32, .rw, 0⟩
  | .HM_CNTLINK_LGIVEUP => ⟨63, 48, .rw, 0⟩
  | .HM_CNTDISC_FAULTDISC => ⟨31, 0, .rw, 0⟩
  | .HM_CNTDISC_ABANDONS => ⟨63, 32, .rw, 0⟩
  | .HM_BUFIDX_FIRST => ⟨21, 0, .rw, 0⟩
  | .PR_CTRL_RECOVER => ⟨2, 2, .w1s, 0⟩
  | .PR_CTRL_ARCHEN => ⟨1, 1, .rw, 0⟩
  | .PR_CTRL_ENABLE => ⟨0, 0, .rw, 0⟩
  | .PR_STAT_PFDONE => ⟨6, 6, .w1c, 0⟩
  | .PR_STAT_SEALED => ⟨5, 5, .ro, 0⟩
  | .PR_STAT_LFAULT => ⟨4, 4, .ro, 0⟩
  | .PR_STAT_ASTALL => ⟨3, 3, .ro, 0⟩
  | .PR_STAT_RESERVE => ⟨2, 2, .ro, 0⟩
  | .PR_STAT_FULL => ⟨1, 1, .ro, 0⟩
  | .PR_STAT_READY => ⟨0, 0, .ro, 0⟩
  | .PR_NEXTLSN_NEXTLSN => ⟨63, 0, .ro, 0⟩
  | .PR_ARCHLSN_ARCHLSN => ⟨63, 0, .ro, 0⟩
  | .PR_OCC_PEAK => ⟨52, 32, .rw, 0⟩
  | .PR_OCC_OCC => ⟨20, 0, .ro, 0⟩
  | .PR_LASTBLK_LASTBLK => ⟨63, 0, .ro, 0⟩
  | .PR_LASTSIG_LASTSIG => ⟨63, 0, .ro, 0⟩
  | .PR_ACFG_LBAS => ⟨0, 0, .rw, 0⟩
  | .PR_ACFG_CAPSEG => ⟨39, 8, .rw, 0⟩
  | .PR_ABIND_BINDLSN => ⟨63, 0, .rw, 0⟩
  | .PR_SPARE_USED => ⟨13, 0, .ro, 0⟩
  | .PR_CNTREC_TASKREC => ⟨31, 0, .rw, 0⟩
  | .PR_CNTREC_DEVREC => ⟨63, 32, .rw, 0⟩
  | .PR_CNTERR_VRETRY => ⟨15, 0, .rw, 0⟩
  | .PR_CNTERR_REMAP => ⟨31, 16, .rw, 0⟩
  | .PR_CNTERR_REFUSED => ⟨47, 32, .rw, 0⟩
  | .PR_CNTERR_TORN => ⟨55, 48, .rw, 0⟩
  | .PR_CNTERR_RECBLK => ⟨63, 56, .rw, 0⟩
  | .PR_CNTARC_AWRITES => ⟨31, 0, .rw, 0⟩
  | .PR_CNTARC_AERR => ⟨47, 32, .rw, 0⟩
  | .PR_CNTARC_ATMO => ⟨63, 48, .rw, 0⟩
  | .WT_CTRL_ENABLE => ⟨0, 0, .rw, 0⟩
  | .WT_CTRL_LOADED => ⟨1, 1, .rw, 0⟩
  | .WT_STAT_ACTIVE => ⟨0, 0, .ro, 0⟩
  | .WT_STAT_ARMED => ⟨1, 1, .ro, 0⟩
  | .WT_STAT_PENDERR => ⟨2, 2, .w1c, 0⟩
  | .WT_STAT_ECCERR => ⟨3, 3, .w1c, 0⟩
  | .WT_STAT_STASHN => ⟨11, 8, .ro, 0⟩
  | .WT_SHADOW_BASE => ⟨39, 26, .rw, 0⟩
  | .WT_SEQ_TABLESEQ => ⟨31, 0, .ro, 0⟩
  | .WT_SEQ_NEXTSEQ => ⟨63, 32, .rw, 0⟩
  | .WT_PEND_ARM => ⟨0, 0, .w1s, 0⟩
  | .WT_PEND_RESTORE => ⟨1, 1, .w1s, 0⟩
  | .WT_PENDAT_ATTICK => ⟨63, 0, .rw, 0⟩
  | .WT_COUNT_COUNT => ⟨21, 0, .ro, 0⟩
  | .WT_COUNT_NEXTCNT => ⟨53, 32, .rw, 0⟩
  | .WT_SALTLO_SALT => ⟨63, 0, .wo, 0⟩
  | .WT_SALTHI_SALT => ⟨63, 0, .wo, 0⟩
  | .WT_CNTLK_LOOKUPS => ⟨63, 0, .rw, 0⟩
  | .WT_CNTRES_MISSES => ⟨31, 0, .rw, 0⟩
  | .WT_CNTRES_OUTSIDE => ⟨47, 32, .rw, 0⟩
  | .WT_CNTRES_ECCERRS => ⟨63, 48, .rw, 0⟩
  | .WT_STASH_DATA => ⟨63, 0, .rw, 0⟩
  | .SE_CTRL_ENABLE => ⟨0, 0, .rw, 0⟩
  | .SE_CTRL_OFFLINE => ⟨1, 1, .rw, 0⟩
  | .SE_STAT_READY => ⟨0, 0, .ro, 0⟩
  | .SE_STAT_BUSY => ⟨1, 1, .ro, 0⟩
  | .SE_STAT_FAULT => ⟨2, 2, .w1c, 0⟩
  | .SE_STAT_ENTFAIL => ⟨3, 3, .ro, 0⟩
  | .SE_STAT_QLEN => ⟨24, 16, .ro, 0⟩
  | .SE_CUR_OP => ⟨7, 0, .ro, 0⟩
  | .SE_CUR_TASK => ⟨20, 8, .ro, 0⟩
  | .SE_CUR_STEWARD => ⟨21, 21, .ro, 0⟩
  | .SE_CUR_PRESS => ⟨22, 22, .ro, 0⟩
  | .SE_CUR_ELAPSED => ⟨63, 32, .ro, 0⟩
  | .SE_CNTJOB_JOBS => ⟨63, 0, .rw, 0⟩
  | .SE_CNTERR_NOTVER => ⟨15, 0, .rw, 0⟩
  | .SE_CNTERR_REFUSED => ⟨31, 16, .rw, 0⟩
  | .SE_CNTERR_FAULTS => ⟨47, 32, .rw, 0⟩
  | .SE_CNTERR_SELFCHK => ⟨63, 48, .rw, 0⟩
  | .RW_CTRL_INIT => ⟨1, 1, .w1s, 0⟩
  | .RW_CTRL_ENABLE => ⟨0, 0, .rw, 0⟩
  | .RW_STAT_LOWFREE => ⟨3, 3, .ro, 0⟩
  | .RW_STAT_ECCERR => ⟨2, 2, .w1c, 0⟩
  | .RW_STAT_SWEEPING => ⟨1, 1, .ro, 0⟩
  | .RW_STAT_READY => ⟨0, 0, .ro, 0⟩
  | .RW_CFG_PATROL => ⟨59, 48, .rw, 0⟩
  | .RW_CFG_SWEEPAT => ⟨47, 32, .rw, 0⟩
  | .RW_CFG_RESERVE => ⟨21, 0, .rw, 0⟩
  | .RW_FREE_FREE => ⟨22, 0, .ro, 0⟩
  | .RW_FREE_QUAR => ⟨54, 32, .ro, 0⟩
  | .RW_EPOCH_EPOCHS => ⟨63, 0, .ro, 0⟩
  | .RW_SWEEP_SWEEPS => ⟨63, 32, .rw, 0⟩
  | .RW_SWEEP_LASTMS => ⟨31, 12, .ro, 0⟩
  | .RW_SWEEP_START => ⟨0, 0, .w1s, 0⟩
  | .RW_CNTFILL_WALKS => ⟨31, 0, .rw, 0⟩
  | .RW_CNTFILL_STALEFILL => ⟨47, 32, .rw, 0⟩
  | .RW_CNTFILL_RETRIED => ⟨63, 48, .rw, 0⟩
  | .RW_CNTCMD_COMMANDS => ⟨31, 0, .rw, 0⟩
  | .RW_CNTCMD_DENIED => ⟨47, 32, .rw, 0⟩
  | .RW_CNTCMD_ORPHANS => ⟨63, 48, .rw, 0⟩
  | .RW_CMD_OP => ⟨3, 0, .rw, 0⟩
  | .RW_CMD_INDEX => ⟨31, 10, .rw, 0⟩
  | .RW_CMD_MODMASK => ⟨47, 32, .rw, 0⟩
  | .RW_ARG0_BASE => ⟨39, 0, .rw, 0⟩
  | .RW_ARG1_LIMIT => ⟨31, 0, .rw, 0⟩
  | .RW_ARG1_XSEAL => ⟨47, 32, .rw, 0⟩
  | .RW_ARG1_MAXRIGHTS => ⟨63, 48, .rw, 0⟩
  | .RW_ARG2_OWNER => ⟨15, 0, .rw, 0⟩
  | .RW_ARG2_TYPE => ⟨23, 16, .rw, 0⟩
  | .RW_ARG2_COLOUR => ⟨27, 24, .rw, 0⟩
  | .RW_ARG2_PEGGED => ⟨32, 32, .rw, 0⟩
  | .RW_ARG2_LEDGERONLY => ⟨33, 33, .rw, 0⟩
  | .RW_RESULT_INDEX => ⟨21, 0, .ro, 0⟩
  | .RW_RESULT_GEN => ⟨37, 22, .ro, 0⟩
  | .RW_RESULT_STATUS => ⟨43, 40, .ro, 0⟩
  | .RW_RESULT_EPOCH => ⟨62, 62, .ro, 0⟩
  | .RW_RESULT_DONE => ⟨63, 63, .ro, 0⟩
  | .TC_CTRL_STOPWHY => ⟨19, 16, .ro, 0⟩
  | .TC_CTRL_RESULT => ⟨15, 12, .ro, 0⟩
  | .TC_CTRL_STATE => ⟨10, 8, .ro, 0⟩
  | .TC_CTRL_TICKIE => ⟨6, 6, .rw, 0⟩
  | .TC_CTRL_VEC => ⟨5, 5, .rw, 0⟩
  | .TC_CTRL_CLASS => ⟨4, 4, .rw, 0⟩
  | .TC_CTRL_DESTROY => ⟨2, 2, .w1s, 0⟩
  | .TC_CTRL_STOP => ⟨1, 1, .w1s, 0⟩
  | .TC_CTRL_CREATE => ⟨0, 0, .w1s, 0⟩
  | .TC_ENTRY_INDEX => ⟨61, 40, .rw, 0⟩
  | .TC_ENTRY_GEN => ⟨39, 24, .rw, 0⟩
  | .TC_ENTRY_OFFSET => ⟨23, 2, .rw, 0⟩
  | .TC_PEND_START => ⟨0, 0, .ro, 0⟩
  | .TC_PEND_DOORBELL => ⟨1, 1, .w1s, 0⟩
  | .TC_PEND_TICK => ⟨2, 2, .ro, 0⟩
  | .TC_STOPINFO_CODE => ⟨7, 0, .ro, 0⟩
  | .TC_STOPINFO_CHECK => ⟨11, 8, .ro, 0⟩
  | .TC_STOPINFO_UNDER => ⟨12, 12, .ro, 0⟩
  | .TC_STOPINFO_OFFSET => ⟨63, 32, .ro, 0⟩
  | .TC_CORE_SREQ => ⟨0, 0, .w1s, 0⟩
  | .TC_CORE_CSTOP => ⟨1, 1, .ro, 0⟩
  | .TC_CORE_IDLE => ⟨2, 2, .ro, 0⟩
  | .TC_CORE_TASKS => ⟨14, 8, .ro, 0⟩
  | .TC_CORE_LASTSTOP => ⟨45, 32, .ro, 0⟩
  | .TC_CSINFO_CODE => ⟨7, 0, .ro, 0⟩
  | .TC_CSINFO_LEVEL => ⟨9, 8, .ro, 0⟩
  | .TC_CSINFO_TASK => ⟨29, 16, .ro, 0⟩
  | .TC_CSINFO_OFFSET => ⟨63, 32, .ro, 0⟩
  | .FG_CTRL_MODE => ⟨0, 0, .ro, 0⟩
  | .FG_CTRL_NEXTMODE => ⟨8, 8, .rw, 0⟩
  | .FG_STAT_HOLDING => ⟨0, 0, .ro, 0⟩
  | .FG_STAT_DRAINED => ⟨1, 1, .ro, 0⟩
  | .FG_STAT_QUIET => ⟨2, 2, .ro, 1⟩
  | .FG_STAT_OVLP => ⟨3, 3, .ro, 0⟩
  | .FG_STAT_CFGERR => ⟨4, 4, .w1c, 0⟩
  | .FG_UPD_HOLD => ⟨0, 0, .w1s, 0⟩
  | .FG_UPD_COMMIT => ⟨1, 1, .w1s, 0⟩
  | .FG_UPD_ABORT => ⟨2, 2, .w1s, 0⟩
  | .FG_UPD_NRANGE => ⟨12, 8, .rw, 0⟩
  | .FG_EPOCH_EPOCHS => ⟨63, 0, .ro, 0⟩
  | .FG_LOG_ADDR => ⟨39, 0, .ro, 0⟩
  | .FG_LOG_MASTER => ⟨45, 40, .ro, 0⟩
  | .FG_LOG_REASON => ⟨50, 48, .ro, 0⟩
  | .FG_LOG_WRITE => ⟨51, 51, .ro, 0⟩
  | .FG_LOG_FETCH => ⟨52, 52, .ro, 0⟩
  | .FG_LOG_SLOT => ⟨62, 56, .ro, 0⟩
  | .FG_LOG_VALID => ⟨63, 63, .w1c, 0⟩
  | .FG_CNT_REFUSED => ⟨31, 0, .rw, 0⟩
  | .FG_CNT_OVERLAPS => ⟨47, 32, .rw, 0⟩
  | .FG_CNT_SOROZ => ⟨63, 48, .rw, 0⟩
  | .FG_PCRANGE_FIRST => ⟨20, 0, .rw, 0⟩
  | .FG_PCRANGE_COUNT => ⟨41, 21, .rw, 0⟩
  | .FG_PCRANGE_COLOUR => ⟨47, 44, .rw, 0⟩
  | .FG_PCSEL_PAGE => ⟨20, 0, .rw, 0⟩
  | .FG_PCVIEW_COLOUR => ⟨3, 0, .ro, 0⟩
  | .FG_RALLOW_ALLOW => ⟨63, 0, .rw, 0⟩
  | .FG_WALLOW_ALLOW => ⟨63, 0, .rw, 0⟩
  | .FG_BASE_EN => ⟨0, 0, .rw, 0⟩
  | .FG_BASE_BASE => ⟨39, 12, .rw, 0⟩
  | .FG_LIMIT_LIMIT => ⟨39, 12, .rw, 0⟩
  | .FG_LRALLOW_ALLOW => ⟨63, 0, .ro, 0⟩
  | .FG_LWALLOW_ALLOW => ⟨63, 0, .ro, 0⟩
  | .FG_LBASE_EN => ⟨0, 0, .ro, 0⟩
  | .FG_LBASE_BASE => ⟨39, 12, .ro, 0⟩
  | .FG_LLIMIT_LIMIT => ⟨39, 12, .ro, 0⟩
  | .P_CTRL_ENABLE => ⟨0, 0, .rw, 0⟩
  | .P_CTRL_PRESET => ⟨1, 1, .w1s, 0⟩
  | .P_STAT_LINK => ⟨0, 0, .ro, 0⟩
  | .P_STAT_LIMIT => ⟨1, 1, .w1c, 0⟩
  | .P_STAT_FAULT => ⟨2, 2, .ro, 0⟩
  | .P_STAT_RATE => ⟨11, 8, .ro, 0⟩
  | .LP_CFG_MAXFRM => ⟨13, 0, .rw, 0⟩
  | .LP_CFG_PHY => ⟨15, 14, .rw, 0⟩
  | .LP_CFG_FEC => ⟨16, 16, .rw, 0⟩
  | .LP_CFG_VLANEN => ⟨17, 17, .rw, 0⟩
  | .LP_CFG_VID => ⟨29, 18, .rw, 0⟩
  | .LP_CFG_IP4EN => ⟨32, 32, .rw, 0⟩
  | .LP_CFG_IP6EN => ⟨33, 33, .rw, 0⟩
  | .LP_CFG_UDPPORT => ⟨49, 34, .rw, 0⟩
  | .HP_CFG_MAXGEN => ⟨1, 0, .rw, 0⟩
  | .HP_CFG_MAXWIDTH => ⟨3, 2, .rw, 0⟩
  | .HP_CFG_ASPML1 => ⟨4, 4, .rw, 0⟩
  | .CN_CFG_NODEID => ⟨6, 0, .rw, 0⟩
  | .CN_CFG_ABR => ⟨10, 8, .rw, 0⟩
  | .CN_CFG_DBR => ⟨13, 11, .rw, 0⟩
  | .SL_CFG_BR => ⟨2, 0, .rw, 0⟩
  | .SL_CFG_TIMEBC => ⟨3, 3, .rw, 0⟩
  | .SL_CFG_RXQ => ⟨13, 4, .rw, 0⟩
  | .SL_CFG_RSPTMO => ⟨21, 14, .rw, 0⟩
  | .SL_CFG_POLLMAP => ⟨52, 22, .rw, 0⟩
  | .AP_CFG_MAXGEN => ⟨1, 0, .rw, 0⟩
  | .AP_CFG_MAXWIDTH => ⟨3, 2, .rw, 0⟩
  | .AP_CFG_ASPML1 => ⟨4, 4, .rw, 0⟩
  | .LP_MAC_MAC => ⟨47, 0, .rw, 0⟩
  | .LP_IP4_ADDR => ⟨31, 0, .rw, 0⟩
  | .LP_IP6LO_ADDR => ⟨63, 0, .rw, 0⟩
  | .LP_IP6HI_ADDR => ⟨63, 0, .rw, 0⟩
  | .LP_CNTRX_PLPFRAMES => ⟨31, 0, .rw, 0⟩
  | .LP_CNTRX_FCSERR => ⟨47, 32, .rw, 0⟩
  | .LP_CNTRX_DROPS => ⟨63, 48, .rw, 0⟩
  | .LP_CNTTX_FRAMES => ⟨31, 0, .rw, 0⟩
  | .LP_CNTTX_PAUSE => ⟨47, 32, .rw, 0⟩
  | .LP_CNTTX_OVERSIZE => ⟨63, 48, .rw, 0⟩
  | .LP_TSRX_TIME => ⟨63, 0, .ro, 0⟩
  | .LP_TSTX_TIME => ⟨63, 0, .ro, 0⟩
  | .LP_TSID_RXSEQ => ⟨15, 0, .ro, 0⟩
  | .LP_TSID_RXTYPE => ⟨19, 16, .ro, 0⟩
  | .LP_TSID_TXSEQ => ⟨47, 32, .ro, 0⟩
  | .LP_TSID_TXTYPE => ⟨51, 48, .ro, 0⟩
  | .HP_CNT_MSGIN => ⟨31, 0, .rw, 0⟩
  | .HP_CNT_BUSYWR => ⟨47, 32, .rw, 0⟩
  | .HP_CNT_BADREQ => ⟨55, 48, .rw, 0⟩
  | .HP_CNT_DROPS => ⟨63, 56, .rw, 0⟩
  | .AP_CNT_CMDS => ⟨31, 0, .rw, 0⟩
  | .AP_CNT_UR => ⟨47, 32, .rw, 0⟩
  | .AP_CNT_LINKDOWN => ⟨63, 48, .rw, 0⟩
  | .CN_CNT_RXFRAMES => ⟨31, 0, .rw, 0⟩
  | .CN_CNT_ERRFRAMES => ⟨47, 32, .rw, 0⟩
  | .CN_CNT_TEC => ⟨55, 48, .ro, 0⟩
  | .CN_CNT_BUSOFFS => ⟨63, 56, .rw, 0⟩
  | .SL_TRIG_ADDR => ⟨4, 0, .wo, 0⟩
  | .SL_TRIG_PAYLOAD => ⟨63, 8, .wo, 0⟩
  | .SL_CNT_DATAFRAMES => ⟨31, 0, .rw, 0⟩
  | .SL_CNT_NOANSWER => ⟨47, 32, .rw, 0⟩
  | .SL_CNT_CRCERR => ⟨55, 48, .rw, 0⟩
  | .SL_CNT_DROPS => ⟨63, 56, .rw, 0⟩
  | .GP_DIR_OUTEN => ⟨15, 0, .rw, 0⟩
  | .GP_OUT_OUT => ⟨15, 0, .rw, 0⟩
  | .GP_IN_IN => ⟨15, 0, .ro, 0⟩
  | .GP_SET_MASK => ⟨15, 0, .wo, 0⟩
  | .GP_CLR_MASK => ⟨15, 0, .wo, 0⟩
  | .GP_EDGE_EDGE => ⟨15, 0, .w1c, 0⟩
  | .TT_LCS_STATE => ⟨2, 0, .ro, 0⟩
  | .TT_BOOT_ACTIVE => ⟨0, 0, .rw, 0⟩
  | .TT_BOOT_TRIAL => ⟨1, 1, .rw, 0⟩
  | .TT_BOOT_CONFIRM => ⟨2, 2, .w1s, 0⟩
  | .TT_BOOT_TRIED => ⟨3, 3, .ro, 0⟩
  | .TT_BOOT_SOURCE => ⟨5, 4, .ro, 0⟩
  | .TT_ARB_FWCTR => ⟨5, 0, .ro, 0⟩
  | .TT_ARB_APPCTR => ⟨13, 8, .ro, 0⟩
  | .TT_TSTAT_SOURCE => ⟨7, 0, .ro, 0⟩
  | .TT_TSTAT_LATCH => ⟨8, 8, .ro, 0⟩
  | .TT_TARM_ARMED => ⟨7, 0, .ro, 0⟩
  | .TT_DBG_UNLOCKED => ⟨0, 0, .ro, 0⟩
  | .TT_DBG_SCOPE => ⟨2, 1, .ro, 0⟩
  | .TT_RINSE_START => ⟨0, 0, .w1s, 0⟩
  | .TT_RINSE_DONE => ⟨1, 1, .ro, 0⟩
  | .PW_STATE_STATE => ⟨2, 0, .ro, 0⟩
  | .PW_STATE_DOZING => ⟨31, 16, .ro, 0⟩
  | .PW_STATE_ASLEEP => ⟨47, 32, .ro, 0⟩
  | .PW_REQ_STANDBY => ⟨0, 0, .w1s, 0⟩
  | .PW_RSTAT_CAUSE => ⟨3, 0, .ro, 0⟩
  | .PW_RSTAT_RAIL => ⟨10, 4, .ro, 0⟩
  | .PW_RLOG_BORS => ⟨15, 0, .rw, 0⟩
  | .PW_RLOG_TZRS => ⟨31, 16, .rw, 0⟩
  | .PW_RLOG_WDRS => ⟨47, 32, .rw, 0⟩
  | .PW_RLOG_SDRS => ⟨63, 48, .rw, 0⟩
  | .PW_SDR_KEY => ⟨31, 0, .wo, 0⟩
  | .PW_TLR_TILES => ⟨15, 0, .wo, 0⟩
  | .PW_CRR_CORE => ⟨7, 0, .wo, 0⟩
  | .PW_CRR_GO => ⟨8, 8, .wo, 0⟩
  | .PW_WDCFG_PERIOD => ⟨15, 0, .rw, 0x7d0⟩
  | .PW_WDKICK_KEY => ⟨31, 0, .wo, 0⟩
  | .PW_WDSTAT_REMAIN => ⟨15, 0, .ro, 0⟩
  | .PW_TILECFG_DOZEEN => ⟨0, 0, .rw, 0⟩
  | .PW_TILECFG_SLEEPEN => ⟨1, 1, .rw, 0⟩
  | .PW_TILECFG_SLEEPUS => ⟨31, 16, .rw, 0⟩
  | .PW_WAKE_GPIO => ⟨15, 0, .rw, 0⟩
  | .PW_WAKE_CANA => ⟨16, 16, .rw, 0⟩
  | .PW_WAKE_CANB => ⟨17, 17, .rw, 0⟩
  | .PW_WAKE_TIMER => ⟨18, 18, .rw, 0⟩
  | .PW_WAKETMR_TICK => ⟨63, 0, .rw, 0⟩
  | .PW_PFCFG_PFPIN => ⟨0, 0, .rw, 0⟩
  | .PW_PFCFG_PFPOL => ⟨1, 1, .rw, 0⟩
  | .DN_CFG_DRAMH => ⟨7, 0, .rw, 0⟩
  | .DN_STAT_LEDGERUE => ⟨0, 0, .w1c, 0⟩
  | .DN_STAT_FWUE => ⟨1, 1, .w1c, 0⟩
  | .DN_STAT_PAUSED => ⟨2, 2, .ro, 0⟩
  | .DN_LASTUE_ADDR => ⟨39, 0, .ro, 0⟩
  | .DN_CNTDRAM_CE => ⟨31, 0, .rw, 0⟩
  | .DN_CNTDRAM_UE => ⟨63, 32, .rw, 0⟩
  | .DN_CNTLED_CE => ⟨31, 0, .rw, 0⟩
  | .DN_CNTLED_UE => ⟨63, 32, .rw, 0⟩
  | .DN_CNTFW_CE => ⟨31, 0, .rw, 0⟩
  | .DN_CNTFW_UE => ⟨63, 32, .rw, 0⟩
  | .DN_CNTTAG_TAGUE => ⟨31, 0, .rw, 0⟩
  | .DN_CNTTAG_DRAINUE => ⟨63, 32, .rw, 0⟩
  | .TS_BIST_TARGET => ⟨2, 0, .rw, 0⟩
  | .TS_BIST_START => ⟨8, 8, .w1s, 0⟩
  | .TS_BISTRES_DONE => ⟨0, 0, .ro, 0⟩
  | .TS_BISTRES_PASS => ⟨1, 1, .ro, 0⟩
  | .TS_BISTRES_REFUSED => ⟨2, 2, .ro, 0⟩
  | .TS_BISTRES_FAILS => ⟨63, 32, .ro, 0⟩
  | .TS_HALT_CORE => ⟨7, 0, .rw, 0⟩
  | .TS_HALT_HALT => ⟨8, 8, .w1s, 0⟩
  | .TS_HALT_STEP => ⟨9, 9, .w1s, 0⟩
  | .TS_HALT_RESUME => ⟨10, 10, .w1s, 0⟩
  | .TS_HALT_HALTED => ⟨11, 11, .ro, 0⟩
  | .TS_CTRL_PATTERN => ⟨2, 0, .rw, 0⟩
  | .TS_CTRL_LOOP => ⟨4, 3, .rw, 0⟩
  | .TS_CTRL_GEN => ⟨5, 5, .rw, 0⟩
  | .TS_CTRL_CHK => ⟨6, 6, .rw, 0⟩
  | .TS_CTRL_INJECT => ⟨7, 7, .w1s, 0⟩
  | .TS_STAT_SYNC => ⟨0, 0, .ro, 0⟩
  | .TS_STAT_BADCFG => ⟨1, 1, .w1c, 0⟩
  | .TS_STAT_SYNCLOSS => ⟨63, 32, .rw, 0⟩
  | .TS_BITS_BITS => ⟨63, 0, .rw, 0⟩
  | .TS_ERRS_ERRORS => ⟨63, 0, .rw, 0⟩

/-- The fields of each register, highest first. -/
def Reg.fields : Reg → List Fld
  | .TU_TICK => [.TU_TICK_TICK]
  | .TU_PHASE => [.TU_PHASE_PHASE]
  | .TU_CTRL => [.TU_CTRL_TOEN, .TU_CTRL_PTPLANE, .TU_CTRL_SRC, .TU_CTRL_PERIOD]
  | .TU_PEND => [.TU_PEND_PENDERR, .TU_PEND_ARM, .TU_PEND_NEWPERIOD]
  | .TU_PENDAT => [.TU_PENDAT_ATTICK]
  | .TU_REFOFS => [.TU_REFOFS_OFFSET]
  | .TU_STAT => [.TU_STAT_RELOCK, .TU_STAT_REFLOST, .TU_STAT_TINMISS, .TU_STAT_LOCK]
  | .TU_CORR => [.TU_CORR_LENGTH, .TU_CORR_CORR]
  | .TU_OFFS => [.TU_OFFS_OFFSET]
  | .AM_CTRL => [.AM_CTRL_ENABLE]
  | .TASK_ALLOW => [.TASK_ALLOW_CMETER, .TASK_ALLOW_ALLOW]
  | .TASK_USE => [.TASK_USE_REMAIN]
  | .TASK_OVR => [.TASK_OVR_EXCESS, .TASK_OVR_OVRTICKS]
  | .CLASS_CFG => [.CLASS_CFG_DSPALLOW, .CLASS_CFG_KIND, .CLASS_CFG_CYCALLOW]
  | .CLASS_USE => [.CLASS_USE_DSPREMAIN, .CLASS_USE_CYCREMAIN]
  | .CLASS_OVR => [.CLASS_OVR_EXCESS, .CLASS_OVR_DSPOVR, .CLASS_OVR_CYCOVR]
  | .ENG_ALLOW => [.ENG_ALLOW_ALLOW]
  | .ENG_USE => [.ENG_USE_HELD, .ENG_USE_REMAIN]
  | .ENG_OVR => [.ENG_OVR_DROPS, .ENG_OVR_OVRTICKS]
  | .HM_CTRL => [.HM_CTRL_START, .HM_CTRL_ENABLE]
  | .HM_STAT => [.HM_STAT_OPENSESS, .HM_STAT_FULL, .HM_STAT_LOGERR, .HM_STAT_READY]
  | .HM_CFG => [.HM_CFG_ACKDLY, .HM_CFG_ABANDMS]
  | .HM_LOGBASE => [.HM_LOGBASE_BASE]
  | .HM_BUFBASE => [.HM_BUFBASE_BASE]
  | .HM_RBINFO => [.HM_RBINFO_RESTORED, .HM_RBINFO_RBTIME]
  | .HM_SESSSEL => [.HM_SESSSEL_SESSION]
  | .HM_SESSVIEW => [.HM_SESSVIEW_OPEN, .HM_SESSVIEW_PEER, .HM_SESSVIEW_EPOCH, .HM_SESSVIEW_NEXT]
  | .HM_SESSQ => [.HM_SESSQ_LOGN, .HM_SESSQ_ABANDTMR, .HM_SESSQ_COMMITTING, .HM_SESSQ_DISPATCHED, .HM_SESSQ_QUEUED]
  | .HM_CNTREP => [.HM_CNTREP_NACKLATE, .HM_CNTREP_ACKDUP]
  | .HM_CNTNACK => [.HM_CNTNACK_NACKREJ, .HM_CNTNACK_NACKSEQ, .HM_CNTNACK_NACKBUSY, .HM_CNTNACK_NACKFULL]
  | .HM_CNTDROP => [.HM_CNTDROP_HDRDROP, .HM_CNTDROP_DUPDROP]
  | .HM_CNTLINK => [.HM_CNTLINK_LGIVEUP, .HM_CNTLINK_LDUP, .HM_CNTLINK_LRETX]
  | .HM_CNTDISC => [.HM_CNTDISC_ABANDONS, .HM_CNTDISC_FAULTDISC]
  | .HM_BUFIDX => [.HM_BUFIDX_FIRST]
  | .PR_CTRL => [.PR_CTRL_RECOVER, .PR_CTRL_ARCHEN, .PR_CTRL_ENABLE]
  | .PR_STAT => [.PR_STAT_PFDONE, .PR_STAT_SEALED, .PR_STAT_LFAULT, .PR_STAT_ASTALL, .PR_STAT_RESERVE, .PR_STAT_FULL, .PR_STAT_READY]
  | .PR_NEXTLSN => [.PR_NEXTLSN_NEXTLSN]
  | .PR_ARCHLSN => [.PR_ARCHLSN_ARCHLSN]
  | .PR_OCC => [.PR_OCC_PEAK, .PR_OCC_OCC]
  | .PR_LASTBLK => [.PR_LASTBLK_LASTBLK]
  | .PR_LASTSIG => [.PR_LASTSIG_LASTSIG]
  | .PR_ACFG => [.PR_ACFG_CAPSEG, .PR_ACFG_LBAS]
  | .PR_ABIND => [.PR_ABIND_BINDLSN]
  | .PR_SPARE => [.PR_SPARE_USED]
  | .PR_CNTREC => [.PR_CNTREC_DEVREC, .PR_CNTREC_TASKREC]
  | .PR_CNTERR => [.PR_CNTERR_RECBLK, .PR_CNTERR_TORN, .PR_CNTERR_REFUSED, .PR_CNTERR_REMAP, .PR_CNTERR_VRETRY]
  | .PR_CNTARC => [.PR_CNTARC_ATMO, .PR_CNTARC_AERR, .PR_CNTARC_AWRITES]
  | .WT_CTRL => [.WT_CTRL_LOADED, .WT_CTRL_ENABLE]
  | .WT_STAT => [.WT_STAT_STASHN, .WT_STAT_ECCERR, .WT_STAT_PENDERR, .WT_STAT_ARMED, .WT_STAT_ACTIVE]
  | .WT_SHADOW => [.WT_SHADOW_BASE]
  | .WT_SEQ => [.WT_SEQ_NEXTSEQ, .WT_SEQ_TABLESEQ]
  | .WT_PEND => [.WT_PEND_RESTORE, .WT_PEND_ARM]
  | .WT_PENDAT => [.WT_PENDAT_ATTICK]
  | .WT_COUNT => [.WT_COUNT_NEXTCNT, .WT_COUNT_COUNT]
  | .WT_SALTLO => [.WT_SALTLO_SALT]
  | .WT_SALTHI => [.WT_SALTHI_SALT]
  | .WT_CNTLK => [.WT_CNTLK_LOOKUPS]
  | .WT_CNTRES => [.WT_CNTRES_ECCERRS, .WT_CNTRES_OUTSIDE, .WT_CNTRES_MISSES]
  | .WT_STASH => [.WT_STASH_DATA]
  | .SE_CTRL => [.SE_CTRL_OFFLINE, .SE_CTRL_ENABLE]
  | .SE_STAT => [.SE_STAT_QLEN, .SE_STAT_ENTFAIL, .SE_STAT_FAULT, .SE_STAT_BUSY, .SE_STAT_READY]
  | .SE_CUR => [.SE_CUR_ELAPSED, .SE_CUR_PRESS, .SE_CUR_STEWARD, .SE_CUR_TASK, .SE_CUR_OP]
  | .SE_CNTJOB => [.SE_CNTJOB_JOBS]
  | .SE_CNTERR => [.SE_CNTERR_SELFCHK, .SE_CNTERR_FAULTS, .SE_CNTERR_REFUSED, .SE_CNTERR_NOTVER]
  | .RW_CTRL => [.RW_CTRL_INIT, .RW_CTRL_ENABLE]
  | .RW_STAT => [.RW_STAT_LOWFREE, .RW_STAT_ECCERR, .RW_STAT_SWEEPING, .RW_STAT_READY]
  | .RW_CFG => [.RW_CFG_PATROL, .RW_CFG_SWEEPAT, .RW_CFG_RESERVE]
  | .RW_FREE => [.RW_FREE_QUAR, .RW_FREE_FREE]
  | .RW_EPOCH => [.RW_EPOCH_EPOCHS]
  | .RW_SWEEP => [.RW_SWEEP_SWEEPS, .RW_SWEEP_LASTMS, .RW_SWEEP_START]
  | .RW_CNTFILL => [.RW_CNTFILL_RETRIED, .RW_CNTFILL_STALEFILL, .RW_CNTFILL_WALKS]
  | .RW_CNTCMD => [.RW_CNTCMD_ORPHANS, .RW_CNTCMD_DENIED, .RW_CNTCMD_COMMANDS]
  | .RW_CMD => [.RW_CMD_MODMASK, .RW_CMD_INDEX, .RW_CMD_OP]
  | .RW_ARG0 => [.RW_ARG0_BASE]
  | .RW_ARG1 => [.RW_ARG1_MAXRIGHTS, .RW_ARG1_XSEAL, .RW_ARG1_LIMIT]
  | .RW_ARG2 => [.RW_ARG2_LEDGERONLY, .RW_ARG2_PEGGED, .RW_ARG2_COLOUR, .RW_ARG2_TYPE, .RW_ARG2_OWNER]
  | .RW_RESULT => [.RW_RESULT_DONE, .RW_RESULT_EPOCH, .RW_RESULT_STATUS, .RW_RESULT_GEN, .RW_RESULT_INDEX]
  | .TC_CTRL => [.TC_CTRL_STOPWHY, .TC_CTRL_RESULT, .TC_CTRL_STATE, .TC_CTRL_TICKIE, .TC_CTRL_VEC, .TC_CTRL_CLASS, .TC_CTRL_DESTROY, .TC_CTRL_STOP, .TC_CTRL_CREATE]
  | .TC_ENTRY => [.TC_ENTRY_INDEX, .TC_ENTRY_GEN, .TC_ENTRY_OFFSET]
  | .TC_PEND => [.TC_PEND_TICK, .TC_PEND_DOORBELL, .TC_PEND_START]
  | .TC_STOPINFO => [.TC_STOPINFO_OFFSET, .TC_STOPINFO_UNDER, .TC_STOPINFO_CHECK, .TC_STOPINFO_CODE]
  | .TC_CORE => [.TC_CORE_LASTSTOP, .TC_CORE_TASKS, .TC_CORE_IDLE, .TC_CORE_CSTOP, .TC_CORE_SREQ]
  | .TC_CSINFO => [.TC_CSINFO_OFFSET, .TC_CSINFO_TASK, .TC_CSINFO_LEVEL, .TC_CSINFO_CODE]
  | .FG_CTRL => [.FG_CTRL_NEXTMODE, .FG_CTRL_MODE]
  | .FG_STAT => [.FG_STAT_CFGERR, .FG_STAT_OVLP, .FG_STAT_QUIET, .FG_STAT_DRAINED, .FG_STAT_HOLDING]
  | .FG_UPD => [.FG_UPD_NRANGE, .FG_UPD_ABORT, .FG_UPD_COMMIT, .FG_UPD_HOLD]
  | .FG_EPOCH => [.FG_EPOCH_EPOCHS]
  | .FG_LOG => [.FG_LOG_VALID, .FG_LOG_SLOT, .FG_LOG_FETCH, .FG_LOG_WRITE, .FG_LOG_REASON, .FG_LOG_MASTER, .FG_LOG_ADDR]
  | .FG_CNT => [.FG_CNT_SOROZ, .FG_CNT_OVERLAPS, .FG_CNT_REFUSED]
  | .FG_PCRANGE => [.FG_PCRANGE_COLOUR, .FG_PCRANGE_COUNT, .FG_PCRANGE_FIRST]
  | .FG_PCSEL => [.FG_PCSEL_PAGE]
  | .FG_PCVIEW => [.FG_PCVIEW_COLOUR]
  | .FG_RALLOW => [.FG_RALLOW_ALLOW]
  | .FG_WALLOW => [.FG_WALLOW_ALLOW]
  | .FG_BASE => [.FG_BASE_BASE, .FG_BASE_EN]
  | .FG_LIMIT => [.FG_LIMIT_LIMIT]
  | .FG_LRALLOW => [.FG_LRALLOW_ALLOW]
  | .FG_LWALLOW => [.FG_LWALLOW_ALLOW]
  | .FG_LBASE => [.FG_LBASE_BASE, .FG_LBASE_EN]
  | .FG_LLIMIT => [.FG_LLIMIT_LIMIT]
  | .P_CTRL => [.P_CTRL_PRESET, .P_CTRL_ENABLE]
  | .P_STAT => [.P_STAT_RATE, .P_STAT_FAULT, .P_STAT_LIMIT, .P_STAT_LINK]
  | .LP_CFG => [.LP_CFG_UDPPORT, .LP_CFG_IP6EN, .LP_CFG_IP4EN, .LP_CFG_VID, .LP_CFG_VLANEN, .LP_CFG_FEC, .LP_CFG_PHY, .LP_CFG_MAXFRM]
  | .HP_CFG => [.HP_CFG_ASPML1, .HP_CFG_MAXWIDTH, .HP_CFG_MAXGEN]
  | .CN_CFG => [.CN_CFG_DBR, .CN_CFG_ABR, .CN_CFG_NODEID]
  | .SL_CFG => [.SL_CFG_POLLMAP, .SL_CFG_RSPTMO, .SL_CFG_RXQ, .SL_CFG_TIMEBC, .SL_CFG_BR]
  | .AP_CFG => [.AP_CFG_ASPML1, .AP_CFG_MAXWIDTH, .AP_CFG_MAXGEN]
  | .LP_MAC => [.LP_MAC_MAC]
  | .LP_IP4 => [.LP_IP4_ADDR]
  | .LP_IP6LO => [.LP_IP6LO_ADDR]
  | .LP_IP6HI => [.LP_IP6HI_ADDR]
  | .LP_CNTRX => [.LP_CNTRX_DROPS, .LP_CNTRX_FCSERR, .LP_CNTRX_PLPFRAMES]
  | .LP_CNTTX => [.LP_CNTTX_OVERSIZE, .LP_CNTTX_PAUSE, .LP_CNTTX_FRAMES]
  | .LP_TSRX => [.LP_TSRX_TIME]
  | .LP_TSTX => [.LP_TSTX_TIME]
  | .LP_TSID => [.LP_TSID_TXTYPE, .LP_TSID_TXSEQ, .LP_TSID_RXTYPE, .LP_TSID_RXSEQ]
  | .HP_CNT => [.HP_CNT_DROPS, .HP_CNT_BADREQ, .HP_CNT_BUSYWR, .HP_CNT_MSGIN]
  | .AP_CNT => [.AP_CNT_LINKDOWN, .AP_CNT_UR, .AP_CNT_CMDS]
  | .CN_CNT => [.CN_CNT_BUSOFFS, .CN_CNT_TEC, .CN_CNT_ERRFRAMES, .CN_CNT_RXFRAMES]
  | .SL_TRIG => [.SL_TRIG_PAYLOAD, .SL_TRIG_ADDR]
  | .SL_CNT => [.SL_CNT_DROPS, .SL_CNT_CRCERR, .SL_CNT_NOANSWER, .SL_CNT_DATAFRAMES]
  | .GP_DIR => [.GP_DIR_OUTEN]
  | .GP_OUT => [.GP_OUT_OUT]
  | .GP_IN => [.GP_IN_IN]
  | .GP_SET => [.GP_SET_MASK]
  | .GP_CLR => [.GP_CLR_MASK]
  | .GP_EDGE => [.GP_EDGE_EDGE]
  | .TT_LCS => [.TT_LCS_STATE]
  | .TT_BOOT => [.TT_BOOT_SOURCE, .TT_BOOT_TRIED, .TT_BOOT_CONFIRM, .TT_BOOT_TRIAL, .TT_BOOT_ACTIVE]
  | .TT_ARB => [.TT_ARB_APPCTR, .TT_ARB_FWCTR]
  | .TT_TSTAT => [.TT_TSTAT_LATCH, .TT_TSTAT_SOURCE]
  | .TT_TARM => [.TT_TARM_ARMED]
  | .TT_DBG => [.TT_DBG_SCOPE, .TT_DBG_UNLOCKED]
  | .TT_RINSE => [.TT_RINSE_DONE, .TT_RINSE_START]
  | .PW_STATE => [.PW_STATE_ASLEEP, .PW_STATE_DOZING, .PW_STATE_STATE]
  | .PW_REQ => [.PW_REQ_STANDBY]
  | .PW_RSTAT => [.PW_RSTAT_RAIL, .PW_RSTAT_CAUSE]
  | .PW_RLOG => [.PW_RLOG_SDRS, .PW_RLOG_WDRS, .PW_RLOG_TZRS, .PW_RLOG_BORS]
  | .PW_SDR => [.PW_SDR_KEY]
  | .PW_TLR => [.PW_TLR_TILES]
  | .PW_CRR => [.PW_CRR_GO, .PW_CRR_CORE]
  | .PW_WDCFG => [.PW_WDCFG_PERIOD]
  | .PW_WDKICK => [.PW_WDKICK_KEY]
  | .PW_WDSTAT => [.PW_WDSTAT_REMAIN]
  | .PW_TILECFG => [.PW_TILECFG_SLEEPUS, .PW_TILECFG_SLEEPEN, .PW_TILECFG_DOZEEN]
  | .PW_WAKE => [.PW_WAKE_TIMER, .PW_WAKE_CANB, .PW_WAKE_CANA, .PW_WAKE_GPIO]
  | .PW_WAKETMR => [.PW_WAKETMR_TICK]
  | .PW_PFCFG => [.PW_PFCFG_PFPOL, .PW_PFCFG_PFPIN]
  | .DN_CFG => [.DN_CFG_DRAMH]
  | .DN_STAT => [.DN_STAT_PAUSED, .DN_STAT_FWUE, .DN_STAT_LEDGERUE]
  | .DN_LASTUE => [.DN_LASTUE_ADDR]
  | .DN_CNTDRAM => [.DN_CNTDRAM_UE, .DN_CNTDRAM_CE]
  | .DN_CNTLED => [.DN_CNTLED_UE, .DN_CNTLED_CE]
  | .DN_CNTFW => [.DN_CNTFW_UE, .DN_CNTFW_CE]
  | .DN_CNTTAG => [.DN_CNTTAG_DRAINUE, .DN_CNTTAG_TAGUE]
  | .TS_BIST => [.TS_BIST_START, .TS_BIST_TARGET]
  | .TS_BISTRES => [.TS_BISTRES_FAILS, .TS_BISTRES_REFUSED, .TS_BISTRES_PASS, .TS_BISTRES_DONE]
  | .TS_HALT => [.TS_HALT_HALTED, .TS_HALT_RESUME, .TS_HALT_STEP, .TS_HALT_HALT, .TS_HALT_CORE]
  | .TS_CTRL => [.TS_CTRL_INJECT, .TS_CTRL_CHK, .TS_CTRL_GEN, .TS_CTRL_LOOP, .TS_CTRL_PATTERN]
  | .TS_STAT => [.TS_STAT_SYNCLOSS, .TS_STAT_BADCFG, .TS_STAT_SYNC]
  | .TS_BITS => [.TS_BITS_BITS]
  | .TS_ERRS => [.TS_ERRS_ERRORS]

/-- The register a field belongs to. -/
def Fld.reg : Fld → Reg
  | .TU_TICK_TICK => .TU_TICK
  | .TU_PHASE_PHASE => .TU_PHASE
  | .TU_CTRL_TOEN => .TU_CTRL
  | .TU_CTRL_PTPLANE => .TU_CTRL
  | .TU_CTRL_SRC => .TU_CTRL
  | .TU_CTRL_PERIOD => .TU_CTRL
  | .TU_PEND_PENDERR => .TU_PEND
  | .TU_PEND_ARM => .TU_PEND
  | .TU_PEND_NEWPERIOD => .TU_PEND
  | .TU_PENDAT_ATTICK => .TU_PENDAT
  | .TU_REFOFS_OFFSET => .TU_REFOFS
  | .TU_STAT_RELOCK => .TU_STAT
  | .TU_STAT_REFLOST => .TU_STAT
  | .TU_STAT_TINMISS => .TU_STAT
  | .TU_STAT_LOCK => .TU_STAT
  | .TU_CORR_LENGTH => .TU_CORR
  | .TU_CORR_CORR => .TU_CORR
  | .TU_OFFS_OFFSET => .TU_OFFS
  | .AM_CTRL_ENABLE => .AM_CTRL
  | .TASK_ALLOW_CMETER => .TASK_ALLOW
  | .TASK_ALLOW_ALLOW => .TASK_ALLOW
  | .TASK_USE_REMAIN => .TASK_USE
  | .TASK_OVR_EXCESS => .TASK_OVR
  | .TASK_OVR_OVRTICKS => .TASK_OVR
  | .CLASS_CFG_DSPALLOW => .CLASS_CFG
  | .CLASS_CFG_KIND => .CLASS_CFG
  | .CLASS_CFG_CYCALLOW => .CLASS_CFG
  | .CLASS_USE_DSPREMAIN => .CLASS_USE
  | .CLASS_USE_CYCREMAIN => .CLASS_USE
  | .CLASS_OVR_EXCESS => .CLASS_OVR
  | .CLASS_OVR_DSPOVR => .CLASS_OVR
  | .CLASS_OVR_CYCOVR => .CLASS_OVR
  | .ENG_ALLOW_ALLOW => .ENG_ALLOW
  | .ENG_USE_REMAIN => .ENG_USE
  | .ENG_USE_HELD => .ENG_USE
  | .ENG_OVR_OVRTICKS => .ENG_OVR
  | .ENG_OVR_DROPS => .ENG_OVR
  | .HM_CTRL_START => .HM_CTRL
  | .HM_CTRL_ENABLE => .HM_CTRL
  | .HM_STAT_OPENSESS => .HM_STAT
  | .HM_STAT_FULL => .HM_STAT
  | .HM_STAT_LOGERR => .HM_STAT
  | .HM_STAT_READY => .HM_STAT
  | .HM_CFG_ACKDLY => .HM_CFG
  | .HM_CFG_ABANDMS => .HM_CFG
  | .HM_LOGBASE_BASE => .HM_LOGBASE
  | .HM_BUFBASE_BASE => .HM_BUFBASE
  | .HM_RBINFO_RESTORED => .HM_RBINFO
  | .HM_RBINFO_RBTIME => .HM_RBINFO
  | .HM_SESSSEL_SESSION => .HM_SESSSEL
  | .HM_SESSVIEW_NEXT => .HM_SESSVIEW
  | .HM_SESSVIEW_EPOCH => .HM_SESSVIEW
  | .HM_SESSVIEW_PEER => .HM_SESSVIEW
  | .HM_SESSVIEW_OPEN => .HM_SESSVIEW
  | .HM_SESSQ_QUEUED => .HM_SESSQ
  | .HM_SESSQ_DISPATCHED => .HM_SESSQ
  | .HM_SESSQ_COMMITTING => .HM_SESSQ
  | .HM_SESSQ_ABANDTMR => .HM_SESSQ
  | .HM_SESSQ_LOGN => .HM_SESSQ
  | .HM_CNTREP_ACKDUP => .HM_CNTREP
  | .HM_CNTREP_NACKLATE => .HM_CNTREP
  | .HM_CNTNACK_NACKFULL => .HM_CNTNACK
  | .HM_CNTNACK_NACKBUSY => .HM_CNTNACK
  | .HM_CNTNACK_NACKSEQ => .HM_CNTNACK
  | .HM_CNTNACK_NACKREJ => .HM_CNTNACK
  | .HM_CNTDROP_DUPDROP => .HM_CNTDROP
  | .HM_CNTDROP_HDRDROP => .HM_CNTDROP
  | .HM_CNTLINK_LRETX => .HM_CNTLINK
  | .HM_CNTLINK_LDUP => .HM_CNTLINK
  | .HM_CNTLINK_LGIVEUP => .HM_CNTLINK
  | .HM_CNTDISC_FAULTDISC => .HM_CNTDISC
  | .HM_CNTDISC_ABANDONS => .HM_CNTDISC
  | .HM_BUFIDX_FIRST => .HM_BUFIDX
  | .PR_CTRL_RECOVER => .PR_CTRL
  | .PR_CTRL_ARCHEN => .PR_CTRL
  | .PR_CTRL_ENABLE => .PR_CTRL
  | .PR_STAT_PFDONE => .PR_STAT
  | .PR_STAT_SEALED => .PR_STAT
  | .PR_STAT_LFAULT => .PR_STAT
  | .PR_STAT_ASTALL => .PR_STAT
  | .PR_STAT_RESERVE => .PR_STAT
  | .PR_STAT_FULL => .PR_STAT
  | .PR_STAT_READY => .PR_STAT
  | .PR_NEXTLSN_NEXTLSN => .PR_NEXTLSN
  | .PR_ARCHLSN_ARCHLSN => .PR_ARCHLSN
  | .PR_OCC_PEAK => .PR_OCC
  | .PR_OCC_OCC => .PR_OCC
  | .PR_LASTBLK_LASTBLK => .PR_LASTBLK
  | .PR_LASTSIG_LASTSIG => .PR_LASTSIG
  | .PR_ACFG_LBAS => .PR_ACFG
  | .PR_ACFG_CAPSEG => .PR_ACFG
  | .PR_ABIND_BINDLSN => .PR_ABIND
  | .PR_SPARE_USED => .PR_SPARE
  | .PR_CNTREC_TASKREC => .PR_CNTREC
  | .PR_CNTREC_DEVREC => .PR_CNTREC
  | .PR_CNTERR_VRETRY => .PR_CNTERR
  | .PR_CNTERR_REMAP => .PR_CNTERR
  | .PR_CNTERR_REFUSED => .PR_CNTERR
  | .PR_CNTERR_TORN => .PR_CNTERR
  | .PR_CNTERR_RECBLK => .PR_CNTERR
  | .PR_CNTARC_AWRITES => .PR_CNTARC
  | .PR_CNTARC_AERR => .PR_CNTARC
  | .PR_CNTARC_ATMO => .PR_CNTARC
  | .WT_CTRL_ENABLE => .WT_CTRL
  | .WT_CTRL_LOADED => .WT_CTRL
  | .WT_STAT_ACTIVE => .WT_STAT
  | .WT_STAT_ARMED => .WT_STAT
  | .WT_STAT_PENDERR => .WT_STAT
  | .WT_STAT_ECCERR => .WT_STAT
  | .WT_STAT_STASHN => .WT_STAT
  | .WT_SHADOW_BASE => .WT_SHADOW
  | .WT_SEQ_TABLESEQ => .WT_SEQ
  | .WT_SEQ_NEXTSEQ => .WT_SEQ
  | .WT_PEND_ARM => .WT_PEND
  | .WT_PEND_RESTORE => .WT_PEND
  | .WT_PENDAT_ATTICK => .WT_PENDAT
  | .WT_COUNT_COUNT => .WT_COUNT
  | .WT_COUNT_NEXTCNT => .WT_COUNT
  | .WT_SALTLO_SALT => .WT_SALTLO
  | .WT_SALTHI_SALT => .WT_SALTHI
  | .WT_CNTLK_LOOKUPS => .WT_CNTLK
  | .WT_CNTRES_MISSES => .WT_CNTRES
  | .WT_CNTRES_OUTSIDE => .WT_CNTRES
  | .WT_CNTRES_ECCERRS => .WT_CNTRES
  | .WT_STASH_DATA => .WT_STASH
  | .SE_CTRL_ENABLE => .SE_CTRL
  | .SE_CTRL_OFFLINE => .SE_CTRL
  | .SE_STAT_READY => .SE_STAT
  | .SE_STAT_BUSY => .SE_STAT
  | .SE_STAT_FAULT => .SE_STAT
  | .SE_STAT_ENTFAIL => .SE_STAT
  | .SE_STAT_QLEN => .SE_STAT
  | .SE_CUR_OP => .SE_CUR
  | .SE_CUR_TASK => .SE_CUR
  | .SE_CUR_STEWARD => .SE_CUR
  | .SE_CUR_PRESS => .SE_CUR
  | .SE_CUR_ELAPSED => .SE_CUR
  | .SE_CNTJOB_JOBS => .SE_CNTJOB
  | .SE_CNTERR_NOTVER => .SE_CNTERR
  | .SE_CNTERR_REFUSED => .SE_CNTERR
  | .SE_CNTERR_FAULTS => .SE_CNTERR
  | .SE_CNTERR_SELFCHK => .SE_CNTERR
  | .RW_CTRL_INIT => .RW_CTRL
  | .RW_CTRL_ENABLE => .RW_CTRL
  | .RW_STAT_LOWFREE => .RW_STAT
  | .RW_STAT_ECCERR => .RW_STAT
  | .RW_STAT_SWEEPING => .RW_STAT
  | .RW_STAT_READY => .RW_STAT
  | .RW_CFG_PATROL => .RW_CFG
  | .RW_CFG_SWEEPAT => .RW_CFG
  | .RW_CFG_RESERVE => .RW_CFG
  | .RW_FREE_FREE => .RW_FREE
  | .RW_FREE_QUAR => .RW_FREE
  | .RW_EPOCH_EPOCHS => .RW_EPOCH
  | .RW_SWEEP_SWEEPS => .RW_SWEEP
  | .RW_SWEEP_LASTMS => .RW_SWEEP
  | .RW_SWEEP_START => .RW_SWEEP
  | .RW_CNTFILL_WALKS => .RW_CNTFILL
  | .RW_CNTFILL_STALEFILL => .RW_CNTFILL
  | .RW_CNTFILL_RETRIED => .RW_CNTFILL
  | .RW_CNTCMD_COMMANDS => .RW_CNTCMD
  | .RW_CNTCMD_DENIED => .RW_CNTCMD
  | .RW_CNTCMD_ORPHANS => .RW_CNTCMD
  | .RW_CMD_OP => .RW_CMD
  | .RW_CMD_INDEX => .RW_CMD
  | .RW_CMD_MODMASK => .RW_CMD
  | .RW_ARG0_BASE => .RW_ARG0
  | .RW_ARG1_LIMIT => .RW_ARG1
  | .RW_ARG1_XSEAL => .RW_ARG1
  | .RW_ARG1_MAXRIGHTS => .RW_ARG1
  | .RW_ARG2_OWNER => .RW_ARG2
  | .RW_ARG2_TYPE => .RW_ARG2
  | .RW_ARG2_COLOUR => .RW_ARG2
  | .RW_ARG2_PEGGED => .RW_ARG2
  | .RW_ARG2_LEDGERONLY => .RW_ARG2
  | .RW_RESULT_INDEX => .RW_RESULT
  | .RW_RESULT_GEN => .RW_RESULT
  | .RW_RESULT_STATUS => .RW_RESULT
  | .RW_RESULT_EPOCH => .RW_RESULT
  | .RW_RESULT_DONE => .RW_RESULT
  | .TC_CTRL_STOPWHY => .TC_CTRL
  | .TC_CTRL_RESULT => .TC_CTRL
  | .TC_CTRL_STATE => .TC_CTRL
  | .TC_CTRL_TICKIE => .TC_CTRL
  | .TC_CTRL_VEC => .TC_CTRL
  | .TC_CTRL_CLASS => .TC_CTRL
  | .TC_CTRL_DESTROY => .TC_CTRL
  | .TC_CTRL_STOP => .TC_CTRL
  | .TC_CTRL_CREATE => .TC_CTRL
  | .TC_ENTRY_INDEX => .TC_ENTRY
  | .TC_ENTRY_GEN => .TC_ENTRY
  | .TC_ENTRY_OFFSET => .TC_ENTRY
  | .TC_PEND_START => .TC_PEND
  | .TC_PEND_DOORBELL => .TC_PEND
  | .TC_PEND_TICK => .TC_PEND
  | .TC_STOPINFO_CODE => .TC_STOPINFO
  | .TC_STOPINFO_CHECK => .TC_STOPINFO
  | .TC_STOPINFO_UNDER => .TC_STOPINFO
  | .TC_STOPINFO_OFFSET => .TC_STOPINFO
  | .TC_CORE_SREQ => .TC_CORE
  | .TC_CORE_CSTOP => .TC_CORE
  | .TC_CORE_IDLE => .TC_CORE
  | .TC_CORE_TASKS => .TC_CORE
  | .TC_CORE_LASTSTOP => .TC_CORE
  | .TC_CSINFO_CODE => .TC_CSINFO
  | .TC_CSINFO_LEVEL => .TC_CSINFO
  | .TC_CSINFO_TASK => .TC_CSINFO
  | .TC_CSINFO_OFFSET => .TC_CSINFO
  | .FG_CTRL_MODE => .FG_CTRL
  | .FG_CTRL_NEXTMODE => .FG_CTRL
  | .FG_STAT_HOLDING => .FG_STAT
  | .FG_STAT_DRAINED => .FG_STAT
  | .FG_STAT_QUIET => .FG_STAT
  | .FG_STAT_OVLP => .FG_STAT
  | .FG_STAT_CFGERR => .FG_STAT
  | .FG_UPD_HOLD => .FG_UPD
  | .FG_UPD_COMMIT => .FG_UPD
  | .FG_UPD_ABORT => .FG_UPD
  | .FG_UPD_NRANGE => .FG_UPD
  | .FG_EPOCH_EPOCHS => .FG_EPOCH
  | .FG_LOG_ADDR => .FG_LOG
  | .FG_LOG_MASTER => .FG_LOG
  | .FG_LOG_REASON => .FG_LOG
  | .FG_LOG_WRITE => .FG_LOG
  | .FG_LOG_FETCH => .FG_LOG
  | .FG_LOG_SLOT => .FG_LOG
  | .FG_LOG_VALID => .FG_LOG
  | .FG_CNT_REFUSED => .FG_CNT
  | .FG_CNT_OVERLAPS => .FG_CNT
  | .FG_CNT_SOROZ => .FG_CNT
  | .FG_PCRANGE_FIRST => .FG_PCRANGE
  | .FG_PCRANGE_COUNT => .FG_PCRANGE
  | .FG_PCRANGE_COLOUR => .FG_PCRANGE
  | .FG_PCSEL_PAGE => .FG_PCSEL
  | .FG_PCVIEW_COLOUR => .FG_PCVIEW
  | .FG_RALLOW_ALLOW => .FG_RALLOW
  | .FG_WALLOW_ALLOW => .FG_WALLOW
  | .FG_BASE_EN => .FG_BASE
  | .FG_BASE_BASE => .FG_BASE
  | .FG_LIMIT_LIMIT => .FG_LIMIT
  | .FG_LRALLOW_ALLOW => .FG_LRALLOW
  | .FG_LWALLOW_ALLOW => .FG_LWALLOW
  | .FG_LBASE_EN => .FG_LBASE
  | .FG_LBASE_BASE => .FG_LBASE
  | .FG_LLIMIT_LIMIT => .FG_LLIMIT
  | .P_CTRL_ENABLE => .P_CTRL
  | .P_CTRL_PRESET => .P_CTRL
  | .P_STAT_LINK => .P_STAT
  | .P_STAT_LIMIT => .P_STAT
  | .P_STAT_FAULT => .P_STAT
  | .P_STAT_RATE => .P_STAT
  | .LP_CFG_MAXFRM => .LP_CFG
  | .LP_CFG_PHY => .LP_CFG
  | .LP_CFG_FEC => .LP_CFG
  | .LP_CFG_VLANEN => .LP_CFG
  | .LP_CFG_VID => .LP_CFG
  | .LP_CFG_IP4EN => .LP_CFG
  | .LP_CFG_IP6EN => .LP_CFG
  | .LP_CFG_UDPPORT => .LP_CFG
  | .HP_CFG_MAXGEN => .HP_CFG
  | .HP_CFG_MAXWIDTH => .HP_CFG
  | .HP_CFG_ASPML1 => .HP_CFG
  | .CN_CFG_NODEID => .CN_CFG
  | .CN_CFG_ABR => .CN_CFG
  | .CN_CFG_DBR => .CN_CFG
  | .SL_CFG_BR => .SL_CFG
  | .SL_CFG_TIMEBC => .SL_CFG
  | .SL_CFG_RXQ => .SL_CFG
  | .SL_CFG_RSPTMO => .SL_CFG
  | .SL_CFG_POLLMAP => .SL_CFG
  | .AP_CFG_MAXGEN => .AP_CFG
  | .AP_CFG_MAXWIDTH => .AP_CFG
  | .AP_CFG_ASPML1 => .AP_CFG
  | .LP_MAC_MAC => .LP_MAC
  | .LP_IP4_ADDR => .LP_IP4
  | .LP_IP6LO_ADDR => .LP_IP6LO
  | .LP_IP6HI_ADDR => .LP_IP6HI
  | .LP_CNTRX_PLPFRAMES => .LP_CNTRX
  | .LP_CNTRX_FCSERR => .LP_CNTRX
  | .LP_CNTRX_DROPS => .LP_CNTRX
  | .LP_CNTTX_FRAMES => .LP_CNTTX
  | .LP_CNTTX_PAUSE => .LP_CNTTX
  | .LP_CNTTX_OVERSIZE => .LP_CNTTX
  | .LP_TSRX_TIME => .LP_TSRX
  | .LP_TSTX_TIME => .LP_TSTX
  | .LP_TSID_RXSEQ => .LP_TSID
  | .LP_TSID_RXTYPE => .LP_TSID
  | .LP_TSID_TXSEQ => .LP_TSID
  | .LP_TSID_TXTYPE => .LP_TSID
  | .HP_CNT_MSGIN => .HP_CNT
  | .HP_CNT_BUSYWR => .HP_CNT
  | .HP_CNT_BADREQ => .HP_CNT
  | .HP_CNT_DROPS => .HP_CNT
  | .AP_CNT_CMDS => .AP_CNT
  | .AP_CNT_UR => .AP_CNT
  | .AP_CNT_LINKDOWN => .AP_CNT
  | .CN_CNT_RXFRAMES => .CN_CNT
  | .CN_CNT_ERRFRAMES => .CN_CNT
  | .CN_CNT_TEC => .CN_CNT
  | .CN_CNT_BUSOFFS => .CN_CNT
  | .SL_TRIG_ADDR => .SL_TRIG
  | .SL_TRIG_PAYLOAD => .SL_TRIG
  | .SL_CNT_DATAFRAMES => .SL_CNT
  | .SL_CNT_NOANSWER => .SL_CNT
  | .SL_CNT_CRCERR => .SL_CNT
  | .SL_CNT_DROPS => .SL_CNT
  | .GP_DIR_OUTEN => .GP_DIR
  | .GP_OUT_OUT => .GP_OUT
  | .GP_IN_IN => .GP_IN
  | .GP_SET_MASK => .GP_SET
  | .GP_CLR_MASK => .GP_CLR
  | .GP_EDGE_EDGE => .GP_EDGE
  | .TT_LCS_STATE => .TT_LCS
  | .TT_BOOT_ACTIVE => .TT_BOOT
  | .TT_BOOT_TRIAL => .TT_BOOT
  | .TT_BOOT_CONFIRM => .TT_BOOT
  | .TT_BOOT_TRIED => .TT_BOOT
  | .TT_BOOT_SOURCE => .TT_BOOT
  | .TT_ARB_FWCTR => .TT_ARB
  | .TT_ARB_APPCTR => .TT_ARB
  | .TT_TSTAT_SOURCE => .TT_TSTAT
  | .TT_TSTAT_LATCH => .TT_TSTAT
  | .TT_TARM_ARMED => .TT_TARM
  | .TT_DBG_UNLOCKED => .TT_DBG
  | .TT_DBG_SCOPE => .TT_DBG
  | .TT_RINSE_START => .TT_RINSE
  | .TT_RINSE_DONE => .TT_RINSE
  | .PW_STATE_STATE => .PW_STATE
  | .PW_STATE_DOZING => .PW_STATE
  | .PW_STATE_ASLEEP => .PW_STATE
  | .PW_REQ_STANDBY => .PW_REQ
  | .PW_RSTAT_CAUSE => .PW_RSTAT
  | .PW_RSTAT_RAIL => .PW_RSTAT
  | .PW_RLOG_BORS => .PW_RLOG
  | .PW_RLOG_TZRS => .PW_RLOG
  | .PW_RLOG_WDRS => .PW_RLOG
  | .PW_RLOG_SDRS => .PW_RLOG
  | .PW_SDR_KEY => .PW_SDR
  | .PW_TLR_TILES => .PW_TLR
  | .PW_CRR_CORE => .PW_CRR
  | .PW_CRR_GO => .PW_CRR
  | .PW_WDCFG_PERIOD => .PW_WDCFG
  | .PW_WDKICK_KEY => .PW_WDKICK
  | .PW_WDSTAT_REMAIN => .PW_WDSTAT
  | .PW_TILECFG_DOZEEN => .PW_TILECFG
  | .PW_TILECFG_SLEEPEN => .PW_TILECFG
  | .PW_TILECFG_SLEEPUS => .PW_TILECFG
  | .PW_WAKE_GPIO => .PW_WAKE
  | .PW_WAKE_CANA => .PW_WAKE
  | .PW_WAKE_CANB => .PW_WAKE
  | .PW_WAKE_TIMER => .PW_WAKE
  | .PW_WAKETMR_TICK => .PW_WAKETMR
  | .PW_PFCFG_PFPIN => .PW_PFCFG
  | .PW_PFCFG_PFPOL => .PW_PFCFG
  | .DN_CFG_DRAMH => .DN_CFG
  | .DN_STAT_LEDGERUE => .DN_STAT
  | .DN_STAT_FWUE => .DN_STAT
  | .DN_STAT_PAUSED => .DN_STAT
  | .DN_LASTUE_ADDR => .DN_LASTUE
  | .DN_CNTDRAM_CE => .DN_CNTDRAM
  | .DN_CNTDRAM_UE => .DN_CNTDRAM
  | .DN_CNTLED_CE => .DN_CNTLED
  | .DN_CNTLED_UE => .DN_CNTLED
  | .DN_CNTFW_CE => .DN_CNTFW
  | .DN_CNTFW_UE => .DN_CNTFW
  | .DN_CNTTAG_TAGUE => .DN_CNTTAG
  | .DN_CNTTAG_DRAINUE => .DN_CNTTAG
  | .TS_BIST_TARGET => .TS_BIST
  | .TS_BIST_START => .TS_BIST
  | .TS_BISTRES_DONE => .TS_BISTRES
  | .TS_BISTRES_PASS => .TS_BISTRES
  | .TS_BISTRES_REFUSED => .TS_BISTRES
  | .TS_BISTRES_FAILS => .TS_BISTRES
  | .TS_HALT_CORE => .TS_HALT
  | .TS_HALT_HALT => .TS_HALT
  | .TS_HALT_STEP => .TS_HALT
  | .TS_HALT_RESUME => .TS_HALT
  | .TS_HALT_HALTED => .TS_HALT
  | .TS_CTRL_PATTERN => .TS_CTRL
  | .TS_CTRL_LOOP => .TS_CTRL
  | .TS_CTRL_GEN => .TS_CTRL
  | .TS_CTRL_CHK => .TS_CTRL
  | .TS_CTRL_INJECT => .TS_CTRL
  | .TS_STAT_SYNC => .TS_STAT
  | .TS_STAT_BADCFG => .TS_STAT
  | .TS_STAT_SYNCLOSS => .TS_STAT
  | .TS_BITS_BITS => .TS_BITS
  | .TS_ERRS_ERRORS => .TS_ERRS

/-- The Persists column: the narrowest reset that clears the register (R12). -/
def Reg.persists : Reg → ResetKind
  | .TC_CTRL => .crr
  | .TC_ENTRY => .crr
  | .TC_PEND => .crr
  | .TC_STOPINFO => .crr
  | .TC_CORE => .crr
  | .TC_CSINFO => .tlr
  | .P_STAT => .port
  | .LP_CNTRX => .port
  | .LP_CNTTX => .port
  | .LP_TSRX => .port
  | .LP_TSTX => .port
  | .LP_TSID => .port
  | .HP_CNT => .port
  | .AP_CNT => .port
  | .CN_CNT => .port
  | .SL_TRIG => .port
  | .SL_CNT => .port
  | .TS_CTRL => .port
  | .TS_STAT => .port
  | .TS_BITS => .port
  | .TS_ERRS => .port
  | .TT_LCS => .none
  | .TT_BOOT => .none
  | .TT_ARB => .none
  | .TT_TSTAT => .none
  | .PW_RSTAT => .none
  | .PW_RLOG => .por
  | .PW_WDCFG => .wdr
  | .TU_TICK => .sdr
  | .TU_PHASE => .sdr
  | .TU_CTRL => .sdr
  | .TU_PEND => .sdr
  | .TU_PENDAT => .sdr
  | .TU_REFOFS => .sdr
  | .TU_STAT => .sdr
  | .TU_CORR => .sdr
  | .TU_OFFS => .sdr
  | .AM_CTRL => .sdr
  | .TASK_ALLOW => .sdr
  | .TASK_USE => .sdr
  | .TASK_OVR => .sdr
  | .CLASS_CFG => .sdr
  | .CLASS_USE => .sdr
  | .CLASS_OVR => .sdr
  | .ENG_ALLOW => .sdr
  | .ENG_USE => .sdr
  | .ENG_OVR => .sdr
  | .HM_CTRL => .sdr
  | .HM_STAT => .sdr
  | .HM_CFG => .sdr
  | .HM_LOGBASE => .sdr
  | .HM_BUFBASE => .sdr
  | .HM_RBINFO => .sdr
  | .HM_SESSSEL => .sdr
  | .HM_SESSVIEW => .sdr
  | .HM_SESSQ => .sdr
  | .HM_CNTREP => .sdr
  | .HM_CNTNACK => .sdr
  | .HM_CNTDROP => .sdr
  | .HM_CNTLINK => .sdr
  | .HM_CNTDISC => .sdr
  | .HM_BUFIDX => .sdr
  | .PR_CTRL => .sdr
  | .PR_STAT => .sdr
  | .PR_NEXTLSN => .sdr
  | .PR_ARCHLSN => .sdr
  | .PR_OCC => .sdr
  | .PR_LASTBLK => .sdr
  | .PR_LASTSIG => .sdr
  | .PR_ACFG => .sdr
  | .PR_ABIND => .sdr
  | .PR_SPARE => .sdr
  | .PR_CNTREC => .sdr
  | .PR_CNTERR => .sdr
  | .PR_CNTARC => .sdr
  | .WT_CTRL => .sdr
  | .WT_STAT => .sdr
  | .WT_SHADOW => .sdr
  | .WT_SEQ => .sdr
  | .WT_PEND => .sdr
  | .WT_PENDAT => .sdr
  | .WT_COUNT => .sdr
  | .WT_SALTLO => .sdr
  | .WT_SALTHI => .sdr
  | .WT_CNTLK => .sdr
  | .WT_CNTRES => .sdr
  | .WT_STASH => .sdr
  | .SE_CTRL => .sdr
  | .SE_STAT => .sdr
  | .SE_CUR => .sdr
  | .SE_CNTJOB => .sdr
  | .SE_CNTERR => .sdr
  | .RW_CTRL => .sdr
  | .RW_STAT => .sdr
  | .RW_CFG => .sdr
  | .RW_FREE => .sdr
  | .RW_EPOCH => .sdr
  | .RW_SWEEP => .sdr
  | .RW_CNTFILL => .sdr
  | .RW_CNTCMD => .sdr
  | .RW_CMD => .sdr
  | .RW_ARG0 => .sdr
  | .RW_ARG1 => .sdr
  | .RW_ARG2 => .sdr
  | .RW_RESULT => .sdr
  | .FG_CTRL => .sdr
  | .FG_STAT => .sdr
  | .FG_UPD => .sdr
  | .FG_EPOCH => .sdr
  | .FG_LOG => .sdr
  | .FG_CNT => .sdr
  | .FG_PCRANGE => .sdr
  | .FG_PCSEL => .sdr
  | .FG_PCVIEW => .sdr
  | .FG_RALLOW => .sdr
  | .FG_WALLOW => .sdr
  | .FG_BASE => .sdr
  | .FG_LIMIT => .sdr
  | .FG_LRALLOW => .sdr
  | .FG_LWALLOW => .sdr
  | .FG_LBASE => .sdr
  | .FG_LLIMIT => .sdr
  | .P_CTRL => .sdr
  | .LP_CFG => .sdr
  | .HP_CFG => .sdr
  | .CN_CFG => .sdr
  | .SL_CFG => .sdr
  | .AP_CFG => .sdr
  | .LP_MAC => .sdr
  | .LP_IP4 => .sdr
  | .LP_IP6LO => .sdr
  | .LP_IP6HI => .sdr
  | .GP_DIR => .sdr
  | .GP_OUT => .sdr
  | .GP_IN => .sdr
  | .GP_SET => .sdr
  | .GP_CLR => .sdr
  | .GP_EDGE => .sdr
  | .TT_TARM => .sdr
  | .TT_DBG => .sdr
  | .TT_RINSE => .sdr
  | .PW_STATE => .sdr
  | .PW_REQ => .sdr
  | .PW_SDR => .sdr
  | .PW_TLR => .sdr
  | .PW_CRR => .sdr
  | .PW_WDKICK => .sdr
  | .PW_WDSTAT => .sdr
  | .PW_TILECFG => .sdr
  | .PW_WAKE => .sdr
  | .PW_WAKETMR => .sdr
  | .PW_PFCFG => .sdr
  | .DN_CFG => .sdr
  | .DN_STAT => .sdr
  | .DN_LASTUE => .sdr
  | .DN_CNTDRAM => .sdr
  | .DN_CNTLED => .sdr
  | .DN_CNTFW => .sdr
  | .DN_CNTTAG => .sdr
  | .TS_BIST => .sdr
  | .TS_BISTRES => .sdr
  | .TS_HALT => .sdr

/-- The number of bits of a field. -/
def Fld.width (f : Fld) : Nat := f.spec.hi + 1 - f.spec.lo

end Sys2Proof.Machine
end

