-- ==== Sys2Proof/Machine/State.lean ====
section
/-! DEFINITION. The state of the block: plain data, one structure for each part of the device. -/

namespace Sys2Proof.Machine

/-- Why a command would end the run. No command does: every rule of the spec gives its command an
effect, or leaves the state as it is. -/
inductive Fault where
  /-- Raised by no command (safe). -/
  | none
  deriving DecidableEq, Repr

/-- Why the model would not run a command. -/
inductive Refusal where
  /-- An arm of `exec` that has no meaning yet; none is left (safe). -/
  | notModelled (mnemonic : String)
  deriving DecidableEq, Repr

/-! ## Granules, queues -/

/-- 128 bits and a tag: a granule of tagged memory or a capability register (R160, R161). -/
structure Cap where
  bits : BitVec 128
  tag : Bool
  deriving DecidableEq, Repr

/-- Who put an entry on a queue (R131). -/
inductive Submitter where
  | task (t : Nat) (dom : Nat)
  | steward
  | press
  | device
  deriving DecidableEq, Repr

/-- A queue entry: its granules with their tags, and who submitted it (R238, R131). `held` marks an
entry a meter has held at an earlier boundary (R46). -/
structure QEnt where
  grans : List Cap
  by_ : Submitter
  held : Bool := false
  deriving DecidableEq, Repr

/-- A queue: its entries, oldest first, and the places reserved for completions (R238). -/
structure Queue where
  ents : List QEnt := []
  reserved : Nat := 0
  deriving DecidableEq, Repr

/-! ## Tick Unit and Allowance Meters -/

/-- The meters of R44; the engine, port and DMA meters by the index of R58. -/
inductive Meter where
  | task (t : Nat)
  | cycles (k : Nat)
  | dispatches (k : Nat)
  | eng (e : Nat)
  deriving DecidableEq, Repr

/-- The Tick Unit beside its registers (R32-R41, R461). -/
structure TickS where
  /-- The Tick Unit runs (R461). -/
  running : Bool := false
  /-- The remaining offset of R38, in cc; none while none has been received or measured under the source in
  force. -/
  remaining : Option Int := none
  /-- An offset received or measured since the last boundary (R38). -/
  newOfs : Option Int := none
  /-- Corrections since Acquiring was last entered, newest first, at most 64 (R39). -/
  hist : List Int := []
  /-- The correction Holdover repeats (R39). -/
  holdCorr : Int := 0
  /-- Consecutive boundaries with the offset within 1 µs, and beyond 5 µs (R39). -/
  good : Nat := 0
  bad : Nat := 0
  /-- Consecutive boundaries with no edge (R40). -/
  miss : Nat := 0
  /-- An edge fell in the last boundary's window, in the coming boundary's window (R40). -/
  seenLast : Bool := false
  seenNext : Bool := false
  /-- The reference source in force (R37). -/
  src : Nat := 0
  /-- The TICKOUT pin (R41). -/
  tickout : Bool := false
  /-- TAI time of the current boundary in ns (R112, R135). -/
  tai : Nat := 0
  deriving DecidableEq, Repr

/-- The Allowance Meters beside their registers: charges since the last reload, the period of that
reload, and the copies of the allowance fields the meters run on (R53, R59). -/
structure MeterS where
  /-- The period in µs the meters were loaded for; none before the Tick Unit starts (R461). -/
  period : Option Nat := none
  live : AMap (Fld × Nat) Nat := emptyMap
  spent : AMap Meter Nat := emptyMap
  /-- Meters that held or descheduled something in this tick (R53, R57). -/
  heldAny : List Meter := []
  /-- Cycle meters whose deschedule is due at the next interruptible point (R47). -/
  due : List Meter := []
  deriving DecidableEq, Repr

/-! ## Hamper -/

/-- A frame received from a peer: its index, the frame, the Lane Port, and the buffer it stands in. -/
structure InFrame where
  peer : Nat
  frame : Frame
  port : Nat
  deriving DecidableEq, Repr

/-- A request in a session's window (R74): its header, peer, request buffer, arrival tick and deadline
tick, whether SETLIM has completed (R65), and the task that took it from its task queue. -/
structure Req where
  hdr : Hdr
  peer : Nat
  buf : Nat
  arrival : Nat
  deadline : Nat
  lim : Bool := false
  task : Option Nat := none
  deriving DecidableEq, Repr

/-- The states of a window position (R74); a committing position holds no request when the record is
an abandon record. -/
inductive Pos where
  | absent
  | queued (r : Req)
  | dispatched (r : Req)
  | committing (r : Option Req)
  deriving DecidableEq, Repr

/-- A Reply Log entry: ID, outcome (1 accepted, 2 rejected, 3 abandoned) and LSN (R75). -/
structure LogE where
  id : Nat
  outcome : Nat
  lsn : Nat
  deriving DecidableEq, Repr

/-- A session (R70-R74). `closing` holds the close frame's header while the Closed record is under
way (R72). `pos` lists positions 0 to 15. -/
structure Session where
  isOpen : Bool := false
  peer : Nat := 0
  epoch : Nat := 0
  next : Nat := 0
  pos : List Pos := []
  /-- How far above NEXT the highest ID received and taken lies; 0 where none does (R82). -/
  ahead : Nat := 0
  log : List LogE := []
  timer : Bool := false
  closing : Option Hdr := none
  deriving DecidableEq, Repr

/-- A sequenced frame the Portum sent and keeps until it is acknowledged or given up (R67, R464):
`sent` is false while it has not left a port; `tries` counts retransmissions. -/
structure TxCopy where
  frame : Frame
  port : Nat
  sent : Bool
  tries : Nat
  deriving DecidableEq, Repr

/-- Link state of a peer (R66-R69): receive side LACK and SACK once `known`, transmit sequence, whether
the next first frame carries LRST, copies outstanding oldest first, frames waiting for a place among
16, the current port and where to send, and whether an acknowledgement is due. -/
structure Link where
  known : Bool := false
  lack : Nat := 0
  sack : Nat := 0
  txseq : Nat := 0
  lrst : Bool := true
  out : List TxCopy := []
  waiting : List Frame := []
  port : Option Nat := none
  src : Option Source := none
  ackDue : Bool := false
  deriving DecidableEq, Repr

/-- A request buffer that is not free (R65): held by a session's request, being recycled, or out of use
with its entry quarantined. -/
inductive BufState where
  | held
  | recycleDue
  | recycling
  | quarantined
  deriving DecidableEq, Repr

/-- The Hamper (R60-R90). -/
structure HamperS where
  sess : AMap Nat Session := emptyMap
  links : AMap Nat Link := emptyMap
  bufs : AMap Nat BufState := emptyMap
  /-- Frames passed up by the link layer, oldest first. -/
  inbox : List InFrame := []
  /-- The Steward's frames held by a port's DMA meter, with their peers (R55). -/
  heldOut : List (Nat × Frame) := []
  /-- Sessions with position 0 held by its task queue, oldest first (R74). -/
  heldSess : List Nat := []
  rebuilding : Bool := false
  deriving DecidableEq, Repr

/-! ## Press and Ledger Array -/

/-- The request stamp of R99. -/
structure Stamp where
  session : Nat
  epoch : Nat
  reqid : Nat
  peer : Nat
  cls : Nat
  retry : Nat
  deadline : Nat
  task : Nat
  reason : Nat
  arrival : Nat
  handtick : Nat
  deriving DecidableEq, Repr

/-- A tick block header's body (R112). -/
structure BlockHdr where
  tick : Nat
  prevtick : Nat
  first : Nat
  last : Nat
  count : Nat
  period : Nat
  recovered : Bool
  timevalid : Bool
  isSealed : Bool
  root : BitVec 512
  prev : BitVec 512
  tai : Nat
  keygen : Nat
  deriving DecidableEq, Repr

/-- The body of a record, by kind (R98-R101, R112, R114). -/
inductive Body where
  | accept (s : Stamp) (content : Bytes)
  | reject (s : Stamp) (content : Bytes)
  | abandon (s : Stamp)
  | dev (r : DevRec)
  | header (h : BlockHdr)
  | sig (blockLsn : Nat) (part : Nat) (stream : Bytes)
  | recovery (cause flags blocks tail lasttick newtick archmark fwver : Nat)
  | tamper (source tick lastsigned : Nat)
  deriving DecidableEq, Repr

/-- A slot's record: LSN, WTICK, body (R96). -/
structure Rec where
  lsn : Nat
  wtick : Nat
  body : Body
  deriving DecidableEq, Repr

/-- A slot of the ring: a record that passes R97, or bytes that fail it. An absent slot was never
written. -/
inductive LCell where
  | good (r : Rec)
  | bad (r : Rec)
  deriving DecidableEq, Repr

/-- What a device-generated record serves (R106), or an answer goes to: the dictionary request of an
instance, with its tag, index, subindex and reply queue; `inst` none for a step of the Steward's own. -/
structure Serves where
  inst : Option Inst := none
  tag : BitVec 32 := 0
  index : Nat := 0
  sub : Nat := 0
  replyq : BitVec 16 := 0
  /-- The descriptor by which an entry of queue 1,009 came, where ENQ put it there (R106, R107). -/
  desc : Option Hdr := none
  /-- That descriptor keeps the form of R106. -/
  formed : Bool := true
  deriving DecidableEq, Repr

/-- What the write channel writes (R108). -/
inductive WSrc where
  | taskRec (replyq : Nat) (hdr : Hdr) (task : Nat)
  | abandonRec (session : Nat)
  | devRec
  | header
  | sigPart
  | ownRec
  /-- A patrol repair: a slot rewritten in place under its own LSN (R92, R430). -/
  | repair
  deriving DecidableEq, Repr

/-- The write-verify in progress: record, what it serves, failed attempts on the physical slot, and
whether a spare is being tried (R109). -/
structure Writing where
  rec_ : Rec
  src : WSrc
  tries : Nat := 0
  spare : Bool := false
  deriving DecidableEq, Repr

/-- A device-generated slot waiting in the Press (R108). -/
structure DevSlot where
  body : Body
  src : WSrc
  /-- The WTICK of a header that recovery has closed and signed (R110, R127). -/
  wtick : Option Nat := none
  deriving DecidableEq, Repr

/-- A block whose signatures are under way (R113): header LSN, message, and the two results. -/
structure SigJob where
  lsn : Nat
  msg : Bytes
  ed : Option Bytes := none
  ml : Option Bytes := none
  deriving DecidableEq, Repr

/-- A Press signing job (R110): the block's LSN, the message, and which scheme. -/
structure PressJob where
  lsn : Nat
  msg : Bytes
  isEd : Bool
  deriving DecidableEq, Repr

/-- An archive segment (R122): first LSN, slots, re-issues made, and whether the drive completed it. -/
structure Seg where
  first : Nat
  count : Nat
  tries : Nat := 0
  drained : Bool := false
  /-- The segment waits for its command to be issued again (R124). -/
  reissue : Bool := false
  deriving DecidableEq, Repr

/-- The Press and the ledger die. `slots`, `remapped`, `tickMarks`, `archMarks` and `parkFlag` are
non-volatile. -/
structure PressS where
  slots : AMap Nat LCell := emptyMap
  /-- Logical slots served from a spare, and spares consumed (R93, R109). -/
  remapped : List Nat := []
  sparesUsed : Nat := 0
  /-- Tick mark cells and archive mark cells, newest first, at most 16 and 64 (R31, R123). -/
  tickMarks : List Nat := []
  archMarks : List Nat := []
  parkFlag : Bool := false
  /-- The validity map (R95): logical slots marked as passing; none before a recovery. -/
  valid : List Nat := []
  writing : Option Writing := none
  /-- Headers closed and not yet written, with the LSN and WTICK their signing jobs cover (R110, R113). -/
  hdrs : List Rec := []
  devSlots : List DevSlot := []
  /-- What ledger recovery has yet to write, in the order of R127, the slot being written at its head. -/
  recQ : List DevSlot := []
  /-- The Steward's records on queue 1,009 (R106), oldest first; those being written, durable and not
  yet acted on, or aborted. -/
  devQ : List (DevRec × Serves) := []
  devNow : Option (DevRec × Serves) := none
  devDone : List (DevRec × Serves) := []
  devFailed : List (DevRec × Serves) := []
  /-- The last choice among both kinds was a task record (R108). -/
  altDev : Bool := false
  /-- LSNs of the leaves made durable in this tick, oldest first (R110). -/
  leaves : List Nat := []
  /-- The newest header closed, durable or not (R112). -/
  newest : Option Rec := none
  sigs : List SigJob := []
  /-- Press jobs that wait for a READY engine or a kept place (R154, R463). -/
  jobs : List PressJob := []
  /-- Slots that the Ledger patrol has corrected and that wait to be rewritten (R430). -/
  repairs : List Nat := []
  /-- Parts durable of each block's signature record (R114). -/
  sigParts : AMap Nat (List Nat) := emptyMap
  segs : List Seg := []
  /-- The next LSN to put into a segment (R122). -/
  issued : Nat := 0
  /-- The archive is in the retry state of R124. -/
  retrying : Bool := false
  /-- Drive binding waits for a link-up (R121). -/
  binding : Bool := false
  /-- The device writes nothing after a power-fail warning (R125). -/
  parked : Bool := false
  /-- Ledger recovery has completed since the Press was last cleared (R126). -/
  recovered : Bool := false
  /-- The tamper sequence is sealing the ledger (R129, R411). -/
  tampering : Bool := false
  /-- Retirement: the next block closes with SEALED set; the LSN of that header once it is closed (R408). -/
  sealNext : Bool := false
  finalHdr : Option Nat := none
  /-- A drive is bound and its link has not gone down since (R121, R371). -/
  bound : Bool := false
  /-- The next archive command has been charged to the port meter and waits for the DMA meter (R462). -/
  segCharged : Bool := false
  deriving DecidableEq, Repr

/-! ## Watch Engine -/

/-- A bank: a salt and a stash of eight entries of 32 bytes (R133). -/
structure Bank where
  salt : BitVec 128 := 0
  stash : List Bytes := []
  deriving DecidableEq, Repr

/-- A lookup under way (R134-R136): its entry, the version it was taken under, whether a table was
loaded, the entry its reads and the stash gave, and whether a bucket it read has an uncorrectable error. -/
structure Lookup where
  ent : QEnt
  tableSeq : Nat
  loaded : Bool
  found : Option Bytes
  ecc : Bool
  deriving DecidableEq, Repr

/-- A list between arrival and restore (R138-R142). -/
inductive WatchList where
  | recordDue (seq entries : Nat) (switchTick : Nat) (digest : BitVec 512) (full : Bool)
  | armed (seq : Nat) (full : Bool)
  | switched (full : Bool)
  | restoring
  deriving DecidableEq, Repr

/-- The Watch Engine beside its registers. Buckets with an uncorrectable error are listed by copy. -/
structure WatchS where
  active : Bank := {}
  next : Bank := {}
  lookups : List Lookup := []
  list : Option WatchList := none
  badHome : List Nat := []
  badShadow : List Nat := []
  /-- The Watch high mark, in the parameter area (R138). -/
  highMark : Nat := 0
  deriving DecidableEq, Repr

/-! ## Seal Engines and key store -/

/-- A key slot (R150-R152): KGEN, the type of the latest key command (0 none), the key, the owner
domain and the VOLATILE flag. -/
structure KeySlot where
  kgen : Nat := 0
  ty : Nat := 0
  key : Option Bytes := none
  owner : Nat := 0
  isVolatile : Bool := false
  deriving DecidableEq, Repr

/-- What a job that runs to its end does (R148, R149). -/
structure JobOut where
  status : Nat
  detail : Nat := 0
  writes : List (Nat × Bytes) := []
  /-- A slot the job writes, and its new key, or none where it ends with the slot empty (R152). -/
  key : Option (Nat × Option Bytes) := none
  /-- The result of a Press signing job. -/
  sig : Option Bytes := none
  deriving DecidableEq, Repr

/-- A job of the Steward's for a key command of the dictionary (R150, R351, R463): the command, the write it serves, the
slot as the command found it, and whether it has been submitted a second time. -/
structure KeyJob where
  cmd : Nat
  serves : Serves
  old : KeySlot
  again : Bool := false
  deriving DecidableEq, Repr

/-- A job on an engine: its descriptor's header, who submitted it, its Press job or key command, the slots it started
with, and its outcome. -/
structure Running where
  hdr : Hdr
  by_ : Submitter
  job : Option PressJob := none
  keyJob : Option KeyJob := none
  slots : List Nat := []
  out : JobOut
  deriving DecidableEq, Repr

/-- An item on a Seal Engine's queue: a descriptor, a job of the Press, or a key command's job. -/
inductive SealItem where
  | desc (e : QEnt)
  | press (j : PressJob)
  | key (j : KeyJob)
  deriving DecidableEq, Repr

/-- A Seal Engine beside its registers. -/
structure EngineS where
  queue : List SealItem := []
  running : Option Running := none
  deriving DecidableEq, Repr

/-- The eight engines and the key store. -/
structure SealS where
  eng : AMap Nat EngineS := emptyMap
  keys : AMap Nat KeySlot := emptyMap
  /-- Key commands' jobs that wait in the Steward for a place (R463). -/
  keyJobs : List KeyJob := []
  /-- The entropy source's health tests have failed (R155). -/
  entFail : Bool := false
  deriving DecidableEq, Repr

/-! ## Object Registry, Walker, Fabric Guard -/

/-- An Object Registry entry (R165). After INIT every entry is invalid with GEN 1 (R195). -/
structure Entry where
  base : Nat := 0
  limit : Nat := 0
  gen : Nat := 1
  pgen : Nat := 0
  parent : Nat := 0
  depth : Nat := 0
  owner : Nat := 0
  ty : Nat := 0
  valid : Bool := false
  pegged : Bool := false
  ledgerOnly : Bool := false
  quar : Bool := false
  colour : Nat := 0
  maxRights : Nat := 0
  xseal : Nat := 0
  deriving DecidableEq, Repr

/-- A cached copy: the entry and the INDEXes of its ancestors (R168). -/
structure CEntry where
  index : Nat
  entry : Entry
  ancestors : List Nat
  deriving DecidableEq, Repr

/-- Who asked the Walker for a command (R197, R65, R180, R193). -/
inductive Asker where
  | block (b : Nat)
  | hamper (buf : Nat)
  | core (k : Nat)
  | darner
  deriving DecidableEq, Repr

/-- A Walker command that waits for its start: who asked, the operation of R198, its INDEX and MODMASK,
and the requester's level and domain (R189). -/
structure WalkCmd where
  by_ : Asker
  op : Nat
  index : Nat
  /-- MODMASK; the new LIMIT of a SETLIM. -/
  mask : Nat := 0
  level : Nat := 2
  dom : Nat := 0
  deriving DecidableEq, Repr

/-- A REVOKE, FREE or MODIFY past its start, with its status and the GEN it left the entry (R184, R197). -/
structure WalkRun where
  cmd : WalkCmd
  status : Nat
  gen : Nat := 0
  deriving DecidableEq, Repr

/-- A command past its epoch that waits for quiet (R184): the Seal Engines that run a job checked before the epoch, and
the cores with accesses checked before it, each with its counts of instructions and of store buffer entries then. -/
structure QuietRun where
  run : WalkRun
  engines : List Nat := []
  cores : List (Nat × Nat × Nat) := []
  deriving DecidableEq, Repr

/-- The Object Registry, the Walker and the Darner's sweep (R165, R184, R191). -/
structure RegistryS where
  entries : AMap Nat Entry := emptyMap
  /-- INIT has run since the last clearing reset (R195). -/
  inited : Bool := false
  /-- The free list: entries never allocated start at `freeFrom`; entries freed since stand behind them. -/
  freeFrom : Nat := 1
  freed : List Nat := []
  /-- The run of entries the Steward has allocated for the request buffers: its first INDEX and the address of
  buffer 0; an entry of the run that no command has changed stands as R65 has it. -/
  bufRun : Option (Nat × Nat) := none
  sweepSet : List Nat := []
  /-- The command under way, between its start and its epoch, with its hold (R184). -/
  cmd : Option WalkRun := none
  /-- Commands waiting to start, in arrival order (R187). -/
  waiting : List WalkCmd := []
  /-- Commands past their epoch that wait for quiet, in the order of their epochs (R184). -/
  quiet : List QuietRun := []
  /-- PGEN and DEPTH that the latest READ of a command block returned in RW_ARG2 (R197). -/
  argExtra : AMap Nat (Nat × Nat) := emptyMap
  /-- The latest write of RW_ARG0 or RW_ARG2 of a command block, by block and number, had a reserved bit set (R198). -/
  argBad : List (Nat × Nat) := []
  /-- The sweep that runs was started by RW_SWEEP.START (R196). -/
  sweepByStart : Bool := false
  /-- The Tile Registry caches, newest use first (R168). -/
  tile : AMap Nat (List CEntry) := emptyMap
  deriving DecidableEq, Repr

/-- The Fabric Guard beside its registers: page colour ranges, latest first, and the held set (R329). -/
structure GuardS where
  pages : List (Nat × Nat × Nat) := []
  /-- The held address ranges, first and last byte, while an update holds. -/
  held : Option (List (Nat × Nat)) := none
  /-- Seal Engines running a job checked before the last epoch (R329 step 7). -/
  before : List Nat := []
  /-- The commit has been made and the epoch has not come (R329). -/
  committed : Bool := false
  /-- The rules that the commit has replaced, until the epoch: fields of the Guard's registers, and page colours (R330). -/
  undo : List (Fld × Nat × Nat) := []
  oldPages : List (Nat × Nat × Nat) := []
  /-- The update carries NEXTMODE and no staged change; a mode that waits for such an update (R354). -/
  modeOnly : Bool := false
  modeDue : Option Nat := none
  /-- The dictionary write that the update answers (R354). -/
  applying : Option Serves := none
  deriving DecidableEq, Repr

/-! ## Cores -/

/-- A shadow bank, of level S of a task set or of level M of a core (R275): its registers g16-g31,
p4-p7 (bits 4-7), c8-c13 and c15, lc, pcc, and SST, SPCC, CAUSE, FINFO, FOFS, SCRATCH. -/
structure BankR where
  g : AMap Nat Word := emptyMap
  p : Nat := 0
  c : AMap Nat Cap := emptyMap
  lc : Nat := 0
  pcc : Cap := ⟨0, false⟩
  sst : Word := 0
  spcc : Cap := ⟨0, false⟩
  cause : Word := 0
  finfo : Word := 0
  fofs : Word := 0
  scratch : Word := 0
  deriving DecidableEq, Repr

/-- The states of a task set (R268). -/
inductive TState where
  | absent | ready | running | waiting | descheduled | stopped
  deriving DecidableEq, Repr

/-- A pending imprecise arithmetic trap (R229, R288): cause code, OFFSET and INDEX of the instruction. -/
structure ArithTrap where
  code : Nat
  offset : Nat
  index : Nat
  /-- Instructions completed since (R288). -/
  done : Nat := 0
  deriving DecidableEq, Repr

/-- A task set (R199, R268): globals and hand registers g1-g15, c0-c15, pcc, p1-p7 (bits 1-7), lc, st,
ARITH, AEPC, its S bank, the vector context bound, pending interrupts (R287), and what it waits for. -/
structure TaskSet where
  state : TState := .absent
  g : AMap Nat Word := emptyMap
  c : AMap Nat Cap := emptyMap
  pcc : Cap := ⟨0, false⟩
  p : Nat := 0
  lc : Nat := 0
  st : Word := 0
  arith : Word := 0
  aepc : Word := 0
  sb : BankR := {}
  vctx : Option Nat := none
  pStart : Bool := false
  pDoor : Bool := false
  pTick : Bool := false
  /-- STOPWHY of R272. -/
  stopWhy : Nat := 0
  /-- TC_STOPINFO: code, check, under, offset (R279). -/
  stopInfo : Word := 0
  /-- A STOP is due at the next interruptible point (R272). -/
  stopDue : Bool := false
  /-- A NIB budget has expired in the task's S handler: NIB has no effect until it returns (R289). -/
  nibDue : Bool := false
  /-- The queue of the latest DEQ that returned EMPTY, and whether an entry was added to it since (R246). -/
  emptyQ : Option Nat := none
  emptyAdded : Bool := false
  /-- An imprecise arithmetic trap pending (R288). -/
  trap : Option ArithTrap := none
  deriving DecidableEq, Repr

/-- Where a general register's value is kept: a register of the task set, a window register of the
core, of the S bank of a slot, or of the M bank (R202, R275). -/
inductive GLoc where
  | task (slot n : Nat)
  | win (w i : Nat)
  | sbank (slot n : Nat)
  | mbank (n : Nat)
  deriving DecidableEq, Repr

/-- Where a capability register's value is kept. -/
inductive CLoc where
  | task (slot n : Nat)
  | sbank (slot n : Nat)
  | mbank (n : Nat)
  deriving DecidableEq, Repr

/-- A result not yet written by its load or long operation (R232, R295, R302): where it goes, and
`age`, the instructions completed since it was issued, itself among them; the instruction after a load does
not read its result. -/
inductive Flight where
  | g (loc : GLoc) (v : Word) (load : Bool) (age : Nat)
  | c (loc : CLoc) (v : Cap) (age : Nat)
  /-- A vector instruction under way (R304). -/
  | vec
  deriving DecidableEq, Repr

/-- A store buffer entry (R305): granule address, the bytes written by offset, or a whole granule with
its tag, and what the drain clears or sets. -/
inductive StoreEnt where
  | data (gran : Nat) (bytes : List (Nat × Byte))
  | capab (gran : Nat) (v : Cap)
  deriving DecidableEq, Repr

/-- The vector unit's states (R221). -/
inductive VUnit where
  | off | waking | on
  deriving DecidableEq, Repr

/-- The result of a fill that failed, for the access that waits on it (R168, R169). -/
inductive FillFail where
  | index
  | generation
  deriving DecidableEq, Repr

/-- A fill: the INDEX, the GEN of the capability it serves, whether it waits under a hold on the INDEX, and whether its
read began before a hold that has been placed since (R168, R184, R186). -/
structure FillReq where
  index : Nat
  gen : Nat
  waits : Bool := false
  stale : Bool := false
  deriving DecidableEq, Repr

/-- A core (R199, R222): its task sets by slot, windows, M bank, control registers of core scope,
pending CSYNC writes, Segment Descriptor Cache, store buffer and the rest. -/
structure CoreS where
  slots : AMap Nat TaskSet := emptyMap
  win : AMap (Nat × Nat) Word := emptyMap
  mb : BankR := {}
  /-- The slot in the Running state, and the slot that ran last; 63 before any ran, so that the rotation
  starts at slot 0 (R269). -/
  running : Option Nat := none
  last : Nat := 63
  /-- An idle core at level M: the status of a handler that no task's set holds (R277). -/
  idleM : Option Word := none
  crs : AMap Nat Word := emptyMap
  /-- MTC writes that wait for CSYNC, oldest first: register and value (R222, R314). -/
  csync : List (Nat × Word) := []
  /-- The Segment Descriptor Cache, most recently used first (R168). -/
  sdc : List CEntry := []
  /-- The fill a core waits for, and the fills that have failed for the instruction in progress (R168). -/
  fill : Option FillReq := none
  fillFail : List (Nat × FillFail) := []
  store : List StoreEnt := []
  flights : List Flight := []
  /-- Instructions completed, and store buffer entries made, since CRR: they tell the accesses checked before an epoch
  from later ones (R184, R185). -/
  seq : Nat := 0
  pushed : Nat := 0
  vregs : AMap (Nat × Nat) (BitVec 256) := emptyMap
  vl : AMap Nat Word := emptyMap
  vunit : VUnit := .off
  /-- The wake wait is over and the instruction that woke the unit has not executed yet (R221). -/
  woken : Bool := false
  vreqOff : Bool := false
  pSreq : Bool := false
  pStopped : Bool := false
  cstop : Bool := false
  halted : Bool := false
  haltReq : Bool := false
  /-- One instruction is to run while halted (R436). -/
  stepping : Bool := false
  /-- The entry a RELEASE of the core frees: its command has reached its epoch, or is under way (R180). -/
  walkDone : Option Nat := none
  walkWait : Option Nat := none
  deriving DecidableEq, Repr

/-! ## Parameter Dictionary and the Steward -/

/-- A peer table entry (R353). -/
structure PeerCfg where
  addr : BitVec 128 := 0
  udp : BitVec 16 := 0
  rights : Nat := 0
  valid : Bool := false
  mgmt : Bool := false
  deriving DecidableEq, Repr

/-- An emergency entered in 0x1003: code, detail (R356). -/
structure Emcy where
  code : Nat
  detail : Nat
  deriving DecidableEq, Repr

/-! ## Ports -/

/-- A frame in a Lane Port's receive buffer: what it carries, its length, and whether the port meter has
been charged for it (R52, R361, R462). -/
structure RxFrame where
  content : EthContent
  len : Nat
  charged : Bool
  deriving DecidableEq, Repr

/-- An exchange under way on a sensor loop: a POLL or a TRIGGER to an address, its SEQ, and the tries
made (R377, R379). -/
structure Exchange where
  addr : Nat
  trigger : Option Bytes
  seq : Nat
  tries : Nat
  deriving DecidableEq, Repr

/-- A sensor loop (R375-R380): held TRIGGER frames, the TIME frame due, the Portum's count, the last SEQ
delivered from each slave, the addresses still to poll in this cycle, the exchange under way, and DATA
frames from slaves held by the port meter, with the tick and the device count at their receipt. -/
structure LoopS where
  triggers : List (Nat × Bytes) := []
  timeDue : Option Nat := none
  seq : Nat := 0
  last : AMap Nat Nat := emptyMap
  polls : List Nat := []
  exch : Option Exchange := none
  rx : List (Bytes × Nat × Nat) := []
  deriving DecidableEq, Repr

/-- The mailbox (R367): the delivered message that waits with its HDB length, the bytes of the
host-to-device buffer and HDB as last written, BUSY, the message in the device-to-host buffer, VALID. -/
structure MailboxS where
  inMsg : Option (Nat × Mgmt) := none
  inBuf : Bytes := []
  hdb : Nat := 0
  busy : Bool := false
  outMsg : Option Bytes := none
  valid : Bool := false
  deriving DecidableEq, Repr

/-- Pattern generator and checker of a link: running or not (R432). -/
structure LinkTest where
  gen : Bool := false
  chk : Bool := false
  deriving DecidableEq, Repr

/-- An inbound request of the host: a message delivered, a write of 1 to VALID, or an access to a BAR (R366,
R367). -/
inductive HostReq where
  | deliver (len : Nat) (q : Mgmt)
  | ddbClear
  | access (write : Bool) (bar ofs len : Nat)
  deriving DecidableEq, Repr

/-- The ports beside their registers. -/
structure PortsS where
  /-- Receive buffers of the Lane Ports, oldest first (R52). -/
  rx : AMap Nat (List RxFrame) := emptyMap
  /-- Lane Ports whose link is down (R83). -/
  laneDown : List Nat := []
  /-- Echo replies of each Lane Port in the current second: the second and the number (R361). -/
  echoes : AMap Nat (Nat × Nat) := emptyMap
  /-- Frames held in the CAN ports' receive buffers (R52). -/
  canRx : AMap Nat (List CanFrame) := emptyMap
  /-- CAN ports whose PDOs and SDO server NMT Stop has stopped (R357). -/
  canStopped : List Nat := []
  loops : AMap Nat LoopS := emptyMap
  /-- Inbound requests of the host that wait, oldest first, each with whether the port meter has been charged for it
  (R44, R462). -/
  hostHeld : List (HostReq × Bool) := []
  mailbox : MailboxS := {}
  /-- Ports whose drivers their limiter has turned off, until a port reset, and trips counted (R387). -/
  limited : List Nat := []
  trips : AMap Nat Nat := emptyMap
  /-- VEX is present (R385). -/
  vex : Bool := true
  /-- Levels at the GPIO pins that the device does not drive (R382). -/
  gpioIn : Nat := 0
  tests : AMap Nat LinkTest := emptyMap
  /-- The archive drive's link is up (R371). -/
  archiveLink : Bool := false
  deriving DecidableEq, Repr

/-! ## Parameter Dictionary -/

/-- A change of a class L entry past its checks (R348): the entry, its value, EFFTICK, the request it
answers, whether its record is durable so that it is armed, and whether it is saved. -/
structure Change where
  index : Nat
  sub : Nat
  value : Bytes
  efftick : Nat
  serves : Serves
  armed : Bool
  deriving DecidableEq, Repr

/-- A domain write in pieces (R345): the entry, the bytes received, the last piece's TAG and reply queue. -/
structure Transfer where
  index : Nat
  sub : Nat
  data : Bytes
  tag : BitVec 32
  replyq : BitVec 16
  deriving DecidableEq, Repr

/-- A copy of the saved values in the parameter area (R340): its sequence number, whether its CRC-32C is correct, the saved
P entries, and the versions of L entries with their EFFTICK, newest first, at most two. -/
structure ParamCopy where
  seq : Nat := 0
  valid : Bool := true
  saved : AMap (Nat × Nat) Bytes := emptyMap
  versions : AMap (Nat × Nat) (List (Nat × Bytes)) := emptyMap
  deriving DecidableEq, Repr

/-- The Parameter Dictionary beside the registers its entries drive (R335-R358). -/
structure DictS where
  /-- Values in force of entries that drive no register. -/
  vals : AMap (Nat × Nat) Bytes := emptyMap
  /-- Values written to P and W entries since the last POR, BOR or TZR (R338). -/
  retained : AMap (Nat × Nat) Bytes := emptyMap
  /-- The parameter area's two copies (R340). -/
  paramA : ParamCopy := { seq := 1 }
  paramB : ParamCopy := {}
  /-- Sets of R340 that take their defaults at the next boot. -/
  toDefault : List Nat := []
  changes : List Change := []
  transfers : AMap Inst (List Transfer) := emptyMap
  /-- The highest subindex of 0x3070 written since the last apply (R354). -/
  ranges : Nat := 0
  /-- INDEX of the application parameter segment's entry, once made (R352). -/
  appIndex : Option Nat := none
  /-- The dictionary is loaded, so that the channels carry messages (R339). -/
  loaded : Bool := false
  deriving DecidableEq, Repr

/-! ## Trust -/

/-- A role session on a server instance (R402, R403): role, ROLESESS, the greatest CRSEQ accepted, the
certificate's keys, and in Enrolled the anchor certificate the response carried. -/
structure RoleSess where
  role : Nat
  id : Nat
  crseq : Nat := 0
  edPub : Bytes
  mlPub : Bytes
  anchor : Option Bytes := none
  deriving DecidableEq, Repr

/-- A role challenge (R402): `since` is the device count at its read. -/
structure Challenge where
  nonce : Bytes
  id : Nat
  tick : Nat
  since : Nat
  deriving DecidableEq, Repr

/-- What a Firmware Store bank holds: the firmware it was made with, or what an update wrote. -/
inductive BankC where
  | shipped
  | written (b : Bytes)
  deriving DecidableEq, Repr

/-- A bank update past its checks (R397): its request, the EFFTICK of its record once that is submitted,
and whether the new bank is active. -/
structure Delivery where
  serves : Serves
  efftick : Nat
  active : Bool
  deriving DecidableEq, Repr

/-- What the Steward does once a record of its own is durable: a transition to a lifecycle state, with its request
(R406, R407), or a debug unlock with its SCOPE and UNTIL (R409). -/
inductive AfterRec where
  | transition (dst : Nat) (req : Bytes)
  | token (scope until_ : Nat)
  deriving DecidableEq, Repr

/-- Fuses, trust cells, certificates, role sessions, boot and retirement (R389-R413). -/
structure TrustS where
  enrolled : Bool := false
  commissioned : Bool := false
  retired : Bool := false
  service : Bool := false
  /-- The key store's key is in the VBAT latches (R400). -/
  latched : Bool := false
  idCert : Option Bytes := none
  attCert : Option Bytes := none
  anchor : Option Bytes := none
  evCerts : List Bytes := []
  /-- KEYGEN in force (R401). -/
  keygen : Nat := 0
  /-- EFFTICK of a rotation whose record is durable; the generation whose headers are to be signed before
  the keys are replaced (R405). -/
  rotateAt : Option Nat := none
  rotating : Option Nat := none
  roles : AMap Inst RoleSess := emptyMap
  chals : AMap Inst Challenge := emptyMap
  attNonce : Option Bytes := none
  /-- The quote last made for each instance, which is read in pieces (R345, R404). -/
  quotes : AMap Inst Bytes := emptyMap
  /-- A reset has been released and the device has not booted since; the Steward halted at boot (R392). -/
  bootDue : Bool := true
  /-- The Steward enables the Hamper once the boot rebuild has ended (R89, R90). -/
  enableDue : Bool := false
  /-- The Steward enables the Press once recovery has ended (R130, R392). -/
  pressDue : Bool := false
  halted : Bool := false
  banks : AMap Nat BankC := emptyMap
  /-- Bytes of the two banks that stores have written since (R317). -/
  fwStores : AMap Nat Byte := emptyMap
  /-- The running Steward firmware: VERSION, SVN, BODYHASH; the loaded KIND 2 images' hashes and their
  lowest SVN (R398, R404). -/
  fwVersion : Nat := 0
  fwSvn : Nat := 0
  fwHash : Bytes := []
  appHashes : List Bytes := []
  appSvn : Option Nat := none
  delivery : Option Delivery := none
  /-- What waits for a record of the Steward's own, with the request it answers, in the order submitted. -/
  awaits : List (Serves × AfterRec) := []
  /-- Retirement: its record is durable; the request it answers (R408). -/
  retiring : Option Serves := none
  /-- The tick at whose start the debug unlock ends (R409). -/
  debugUntil : Nat := 0
  /-- Rinse is under way since a tamper that found main power present (R411). -/
  rinsing : Bool := false
  deriving DecidableEq, Repr

/-! ## Resets, power, test -/

/-- Power, resets, self-test and JTAG beside their registers (R415-R436). -/
structure PowerS where
  /-- TLRs and CRRs since the last POR (R417). -/
  tlrs : Nat := 0
  crrs : Nat := 0
  /-- The device count when the watchdog last started from its full period (R419). -/
  wdStart : Nat := 0
  /-- A power-fail warning has been raised and no reset has followed (R427). -/
  warned : Bool := false
  /-- The stage of R422, and the enables it cleared. -/
  standbyStage : Nat := 0
  hmWas : Bool := false
  prWas : Bool := false
  /-- The self-test under way (R431). -/
  bist : Option Nat := none
  /-- The JTAG instruction register, IDCODE after a TAP reset, and the preloaded pin values (R435, R436). -/
  jtagIr : Nat := 1
  preload : Nat := 0
  /-- Granules of memory with an uncorrectable error (R280, R430). -/
  badGrans : List Nat := []
  deriving DecidableEq, Repr

/-! ## Outputs -/

/-- What carries a PLP frame (R362): MAC, IP addresses and UDP ports, the VLAN tag; IPv4 with DF 1, TTL 64 and
identification 0, or IPv6 with hop limit 64 and flow label 0; the UDP checksum is computed. -/
structure Envelope where
  dstMac : Nat
  srcMac : Nat
  v6 : Bool
  srcAddr : Nat
  dstAddr : Nat
  srcUdp : Nat
  dstUdp : Nat
  vid : Option Nat
  dontFragment : Bool
  hops : Nat := 64
  label : Nat := 0
  deriving DecidableEq, Repr

/-- What the device puts out at its pins (log entry 14). -/
inductive Out where
  /-- A PLP frame to a peer, from a Lane Port, in its envelope (R66, R362). -/
  | plp (port peer : Nat) (e : Envelope) (f : Frame)
  | arpReply (port : Nat)
  | neighbourAdvert (port : Nat)
  | echoReply (port : Nat) (v6 : Bool)
  /-- A CANopen EMCY: port, code, error register, detail bytes (R356). -/
  | canEmcy (c : CanPort) (code reg detail : Nat)
  | canHeartbeat (c : CanPort) (state : Nat)
  | canTpdo (c : CanPort) (n : Nat) (data : Bytes)
  /-- An SDO answer: abort code, or data (R347). -/
  | canSdo (c : CanPort) (index sub : Nat) (abort : Option Nat) (data : Bytes)
  /-- A mailbox message written to the device-to-host buffer (R367). -/
  | mailbox (m : Bytes)
  | msix (v : Nat)
  /-- A completion to a Host Port request, or its abort (R366). -/
  | hostAnswer (ok : Bool) (data : Bytes)
  | archiveAnswer (ok : Bool) (data : Bytes)
  /-- An NVMe command: opcode name, starting byte of the namespace, data (R122, R370). -/
  | nvmeWrite (byteOfs : Nat) (data : Bytes)
  | nvmeLogPage
  | loopFrame (n : Loop) (data : Bytes)
  | tickout (level : Bool)
  | gpio (pins : Nat) (enabled : Nat)
  | jtag (tdo : Nat)
  | pins (drive : Option Nat)
  deriving DecidableEq, Repr

/-- The state of the block. -/
structure State where
  /-- Control-space register fields by index; an absent field holds its reset value (R11). -/
  ctl : AMap (Fld × Nat) Nat
  /-- Memory: bytes that differ from 0, addresses rising (log entry 4). -/
  mem : List Host.Cell
  /-- Granules whose tag is 1, by number, rising (R161). -/
  tags : List Nat
  queues : AMap Nat Queue
  tick : TickS
  meters : MeterS
  hamper : HamperS
  press : PressS
  watch : WatchS
  seals : SealS
  registry : RegistryS
  guard : GuardS
  cores : AMap Nat CoreS
  ports : PortsS
  dict : DictS
  trust : TrustS
  power : PowerS
  peers : AMap Nat PeerCfg
  /-- Emergency conditions that hold, and the history of 0x1003, newest first (R356). -/
  emcyOn : List Nat
  emcyLog : List Emcy
  /-- Mailbox messages waiting to go out, oldest first (R367). -/
  mailOut : List Bytes
  /-- The last 16 TAGs each instance was answered, with the answers, newest first (R346). -/
  tagLog : List (Inst × BitVec 32 × Bytes)
  /-- Core clocks counted since power-on. -/
  ns : Nat
  /-- The number of the next free value (log entry 7). -/
  fresh : Nat
  /-- Everything put out at the pins, oldest first (log entry 14). -/
  wire : List Out
  /-- The commands that wait, first in, first out. -/
  pending : List Instr
  deriving DecidableEq, Repr

/-- The machine right after reset. -/
def State.reset : State where
  ctl := emptyMap
  mem := []
  tags := []
  queues := emptyMap
  tick := {}
  meters := {}
  hamper := {}
  press := {}
  watch := {}
  seals := {}
  registry := {}
  guard := {}
  cores := emptyMap
  ports := {}
  dict := {}
  trust := {}
  power := {}
  peers := emptyMap
  emcyOn := []
  emcyLog := []
  mailOut := []
  tagLog := []
  ns := 0
  fresh := 0
  wire := []
  pending := []

end Sys2Proof.Machine
end

