-- ==== Sys2Proof/Machine/Ops.lean ====
section
/-! DEFINITION. The named operations on the state: register fields, memory and tags, queues, free
values, outputs. Every meaning reaches the state through them. -/

namespace Sys2Proof.Machine

/-- What a meaning answers. -/
abbrev Res := Host.Outcome State Fault Refusal

/-! ## Register fields -/

/-- Slots of the Fabric Guard whose read column says Bitmap (R317). -/
def bitmapRead (i : Nat) : Bool :=
  i ≤ 2 || (4 ≤ i && i ≤ 27) || (29 ≤ i && i ≤ 34) || i = 36 || i = 42

/-- Slots of the Fabric Guard whose write column says Bitmap (R317). -/
def bitmapWrite (i : Nat) : Bool :=
  (4 ≤ i && i ≤ 19) || (21 ≤ i && i ≤ 27) || (29 ≤ i && i ≤ 34) || i = 36 || i = 42

/-- A field's value after the reset that clears it (R11); the allow bitmaps as R334 gives them. -/
def Fld.resetAt (x : Fld) (i : Nat) : Nat :=
  match x with
  | .FG_RALLOW_ALLOW => if bitmapRead i then 2 ^ 32 else 0
  | .FG_LRALLOW_ALLOW => if bitmapRead i then 2 ^ 32 else 0
  | .FG_WALLOW_ALLOW => if bitmapWrite i then 2 ^ 32 else 0
  | .FG_LWALLOW_ALLOW => if bitmapWrite i then 2 ^ 32 else 0
  | _ => x.spec.reset

/-- The value of field `x` of register number `i`. -/
def State.f (s : State) (x : Fld) (i : Nat := 0) : Nat := s.ctl.get (x.resetAt i) (x, i)

/-- A one-bit field as a Bool. -/
def State.fb (s : State) (x : Fld) (i : Nat := 0) : Bool := s.f x i != 0

/-- Sets a field, cut to its width. -/
def State.setF (s : State) (x : Fld) (v : Nat) (i : Nat := 0) : State :=
  { s with ctl := s.ctl.set (x, i) (v % 2 ^ x.width) }

/-- Raises a counter field by `n`, saturating at all ones (R57, R90). -/
def State.bump (s : State) (x : Fld) (n : Nat := 1) (i : Nat := 0) : State :=
  s.setF x (satAdd x.width (s.f x i) n) i

/-! ## Free values and outputs -/

/-- The number of the next free value, and the state after drawing it (log entry 7). -/
def State.draw (s : State) : Nat × State := (s.fresh, { s with fresh := s.fresh + 1 })

/-- Puts something out at the pins. -/
def State.emit (s : State) (o : Out) : State := { s with wire := s.wire ++ [o] }

/-! ## Memory and tags -/

/-- What an address that is not listed reads as (log entry 4). -/
def unlistedByte : Byte := 0

/-- The byte at an address in a list of cells with rising addresses. -/
def readCell (a : Nat) : List Host.Cell → Byte
  | [] => unlistedByte
  | (b, v) :: l => if a = b then v else readCell a l

/-- The list with the byte at an address set, in canonical form. -/
def writeCell (a : Nat) (v : Byte) : List Host.Cell → List Host.Cell
  | [] => if v = unlistedByte then [] else [(a, v)]
  | (b, w) :: l =>
    if a < b then (if v = unlistedByte then (b, w) :: l else (a, v) :: (b, w) :: l)
    else if a = b then (if v = unlistedByte then l else (a, v) :: l)
    else (b, w) :: writeCell a v l

/-- Memory's canonical form: addresses rising, and no byte that an unlisted address reads as. -/
def cellsOk : List Host.Cell → Bool
  | [] => true
  | [(_, v)] => v != unlistedByte
  | (a, v) :: (b, w) :: l => decide (a < b) && v != unlistedByte && cellsOk ((b, w) :: l)

/-- The canonical form of the state's memory. -/
def Memory.wf (s : State) : Bool := cellsOk s.mem

/-- The byte at a physical address. -/
def State.byte (s : State) (a : Nat) : Byte := readCell a s.mem

/-- `n` bytes from a physical address. -/
def State.bytes (s : State) (a : Nat) : Nat → Bytes
  | 0 => []
  | n + 1 => s.byte a :: s.bytes (a + 1) n

/-- Sets a number in a rising list of numbers. -/
def insertNum (g : Nat) : List Nat → List Nat
  | [] => [g]
  | h :: l => if g < h then g :: h :: l else if g = h then h :: l else h :: insertNum g l

/-- Removes a number from a list of numbers. -/
def removeNum (g : Nat) (l : List Nat) : List Nat := l.filter (· != g)

/-- Targets that hold tags: the 8 GiB DRAM and the Tile Stores (R161). -/
def hasTags (a : Nat) : Bool :=
  (0x100000000 ≤ a && a ≤ 0x2FFFFFFFF) || (0x20000000 ≤ a && a ≤ 0x20FFFFFF && a % 0x100000 < 0x80000)

/-- The tag of a granule. -/
def State.tag (s : State) (gran : Nat) : Bool := s.tags.contains gran

/-- Sets or clears the tag of a granule. -/
def State.setTag (s : State) (gran : Nat) (t : Bool) : State :=
  { s with tags := if t then insertNum gran s.tags else removeNum gran s.tags }

/-- A data write of one byte: the granule's tag is cleared (R162). -/
def State.putByte (s : State) (a : Nat) (v : Byte) : State :=
  { s with mem := writeCell a v s.mem, tags := removeNum (a / 16) s.tags }

/-- A data write of a string of bytes. -/
def State.putBytes (s : State) (a : Nat) : Bytes → State
  | [] => s
  | v :: l => (s.putByte a v).putBytes (a + 1) l

/-- The granule at a 16-byte-aligned address: its bits, and its tag where the target holds tags. -/
def State.granule (s : State) (a : Nat) : Cap :=
  ⟨BitVec.ofNat 128 (leNat (s.bytes a 16)), hasTags a && s.tag (a / 16)⟩

/-- Writes a whole granule with its tag (R163). -/
def State.putGranule (s : State) (a : Nat) (c : Cap) : State :=
  (s.putBytes a (leBytes 16 c.bits.toNat)).setTag (a / 16) (c.tag && hasTags a)

/-! ## Queue entries -/

/-- Granules of a string of bytes, untagged, the last filled with zeros. -/
def granules : Nat → Bytes → List Cap
  | 0, _ => []
  | n + 1, b => ⟨BitVec.ofNat 128 (leNat (b.take 16)), false⟩ :: granules n (b.drop 16)

/-- The bytes of granules. -/
def granBytes (l : List Cap) : Bytes := l.flatMap fun c => leBytes 16 c.bits.toNat

/-- The 32 bytes of a Tag Header (R60). -/
def hdrBytes (h : Hdr) : Bytes :=
  leBytes 1 (h.ver.toNat + 16 * h.kind.toNat) ++ leBytes 1 h.flags.toNat ++ leBytes 2 h.lseq.toNat ++
  leBytes 2 h.lack.toNat ++ leBytes 2 h.sack.toNat ++ leBytes 2 h.session.toNat ++ leBytes 2 h.epoch.toNat ++
  leBytes 4 h.reqid.toNat ++ leBytes 1 h.cls.toNat ++ leBytes 1 (h.deadline.toNat + 16 * h.retry.toNat) ++
  leBytes 1 h.meter.toNat ++ leBytes 1 h.code.toNat ++ leBytes 2 h.replyq.toNat ++ leBytes 2 h.paylen.toNat ++
  leBytes 8 h.handle.toNat

/-- The Tag Header that 32 bytes spell (R60). -/
def hdrOf (b : Bytes) : Hdr where
  ver := BitVec.ofNat 4 (fieldAt b 0 1)
  kind := BitVec.ofNat 4 (fieldAt b 0 1 / 16)
  flags := BitVec.ofNat 8 (fieldAt b 1 1)
  lseq := BitVec.ofNat 16 (fieldAt b 2 2)
  lack := BitVec.ofNat 16 (fieldAt b 4 2)
  sack := BitVec.ofNat 16 (fieldAt b 6 2)
  session := BitVec.ofNat 16 (fieldAt b 8 2)
  epoch := BitVec.ofNat 16 (fieldAt b 10 2)
  reqid := BitVec.ofNat 32 (fieldAt b 12 4)
  cls := BitVec.ofNat 8 (fieldAt b 16 1)
  deadline := BitVec.ofNat 4 (fieldAt b 17 1)
  retry := BitVec.ofNat 4 (fieldAt b 17 1 / 16)
  meter := BitVec.ofNat 8 (fieldAt b 18 1)
  code := BitVec.ofNat 8 (fieldAt b 19 1)
  replyq := BitVec.ofNat 16 (fieldAt b 20 2)
  paylen := BitVec.ofNat 16 (fieldAt b 22 2)
  handle := BitVec.ofNat 64 (fieldAt b 24 8)

/-- A Tag Header with every field zero but VER and KIND. -/
def blankHdr (kind : Nat) : Hdr where
  ver := 1
  kind := BitVec.ofNat 4 kind
  flags := 0
  lseq := 0
  lack := 0
  sack := 0
  session := 0
  epoch := 0
  reqid := 0
  cls := 0
  deadline := 0
  retry := 0
  meter := 0
  code := 0
  replyq := 0
  paylen := 0
  handle := 0

/-- The Tag Header of a queue entry. -/
def QEnt.hdr (e : QEnt) : Hdr := hdrOf (granBytes (e.grans.take 2))

/-- The payload bytes of a queue entry. -/
def QEnt.payload (e : QEnt) : Bytes := granBytes (e.grans.drop 2)

/-- An entry the device makes: a header and payload bytes, untagged. -/
def devEntry (h : Hdr) (pay : Bytes) : QEnt :=
  ⟨granules (2 + divUp pay.length 16) (hdrBytes h ++ pay), .device, false⟩

/-! ## Queues -/

/-- Places of a general queue (R238). -/
def generalPlaces : Nat := 128

/-- A queue. -/
def State.queue (s : State) (q : Nat) : Queue := s.queues.get {} q

/-- Sets a queue. -/
def State.setQueue (s : State) (q : Nat) (x : Queue) : State := { s with queues := s.queues.set q x }

/-- Free places of a general queue: neither holding an entry nor reserved (R238). -/
def State.freePlaces (s : State) (q : Nat) : Nat :=
  generalPlaces - ((s.queue q).ents.length + (s.queue q).reserved)

/-- A task set told that an entry has been added to queue `q` (R246). -/
def TaskSet.tellAdded (q : Nat) (t : TaskSet) : TaskSet :=
  if t.emptyQ = some q then
    if t.state = .waiting then { t with state := .ready, emptyAdded := true }
    else { t with emptyAdded := true }
  else t

/-- Every task told that an entry has been added to queue `q`: a task Waiting on it is Ready (R246). -/
def State.wakeQueue (s : State) (q : Nat) : State :=
  { s with cores := s.cores.mapVal fun c => { c with slots := c.slots.mapVal (TaskSet.tellAdded q) } }

/-- Adds an entry at the end of a general queue, waking the tasks that wait on it (R246). -/
def State.addEntry (s : State) (q : Nat) (e : QEnt) : State :=
  (s.setQueue q { s.queue q with ents := (s.queue q).ents ++ [e] }).wakeQueue q

/-- Reserves a place of a general queue for a completion (R239). -/
def State.reservePlace (s : State) (q : Nat) : State :=
  s.setQueue q { s.queue q with reserved := (s.queue q).reserved + 1 }

/-- Posts a completion into the place reserved for it (R239). -/
def State.postCompletion (s : State) (q : Nat) (h : Hdr) (pay : Bytes) : State :=
  (s.setQueue q { s.queue q with reserved := (s.queue q).reserved - 1 }).addEntry q (devEntry h pay)

/-! ## Cores and task sets -/

/-- The Steward's core ID (R321). -/
def stewardCore : Nat := 128

/-- A core's state. -/
def State.core (s : State) (k : Nat) : CoreS := s.cores.get {} k

/-- Sets a core's state. -/
def State.setCore (s : State) (k : Nat) (c : CoreS) : State := { s with cores := s.cores.set k c }

/-- Changes a core's state. -/
def State.onCore (s : State) (k : Nat) (g : CoreS → CoreS) : State := s.setCore k (g (s.core k))

/-- A task set of a core. -/
def CoreS.slot (c : CoreS) (i : Nat) : TaskSet := c.slots.get {} i

/-- Sets a task set of a core. -/
def CoreS.setSlot (c : CoreS) (i : Nat) (t : TaskSet) : CoreS := { c with slots := c.slots.set i t }

/-- The core and slot of a task number (R203, R206). -/
def coreOf (t : Nat) : Nat := t / 64
/-- The slot of a task number (R203). -/
def slotOf (t : Nat) : Nat := t % 64
/-- The task number of a slot (R203, R206). -/
def taskNo (k slot : Nat) : Nat := 64 * k + slot

/-- The task set of a task number. -/
def State.task (s : State) (t : Nat) : TaskSet := (s.core (coreOf t)).slot (slotOf t)

/-- Sets the task set of a task number. -/
def State.setTask (s : State) (t : Nat) (x : TaskSet) : State :=
  s.onCore (coreOf t) fun c => c.setSlot (slotOf t) x

/-- The status word: of the running task, or of an idle core in a handler (R222, R277). An idle core counts
as level M. -/
def CoreS.status (c : CoreS) : Nat :=
  match c.running with
  | some i => (c.slot i).st.toNat
  | none => ((c.idleM).map BitVec.toNat).getD 2

/-- The level, 0 T, 1 S, 2 M (R274). -/
def CoreS.level (c : CoreS) : Nat := c.status % 4

/-- A task's class bit: true for Bulk (R42, R222 ST). -/
def TaskSet.isBulk (t : TaskSet) : Bool := bitOf t.st.toNat 4

/-- The device is in Standby (R421, R437). -/
def State.inStandby (s : State) : Bool := s.f .PW_STATE_STATE = 4

/-- The engines take nothing more: after a power-fail warning, and in Standby (R422, R428). -/
def State.enginesOff (s : State) : Bool := s.press.parked || s.inStandby

/-- The current tick number (R30). -/
def State.tickNo (s : State) : Nat := s.f .TU_TICK_TICK

/-- The tick period in µs of a PERIOD code (R56). -/
def periodUs (code : Nat) : Nat :=
  match code with
  | 0 => 125
  | 1 => 250
  | 2 => 500
  | _ => 1000

/-- The nominal length in cc of a tick of a PERIOD code (R29). -/
def nominalCc (code : Nat) : Nat := 1000 * periodUs code

/-- The number of ticks in 1 s at the period in force (R31). -/
def State.ticksPerSecond (s : State) : Nat := 1000000 / periodUs (s.f .TU_CTRL_PERIOD)

end Sys2Proof.Machine
end

