-- ==== Sys2Proof/Machine/Meters.lean ====
section
/-! DEFINITION. The Allowance Meters (R44-R59, R462): allowances, charges, what a meter admits. A
meter's remaining allowance is what it was loaded with less what has been charged since. -/

namespace Sys2Proof.Machine

/-- The fields whose writes take effect at the next boundary (R59). -/
def isAllowField : Fld → Bool
  | .TASK_ALLOW_ALLOW | .TASK_ALLOW_CMETER | .CLASS_CFG_KIND | .CLASS_CFG_DSPALLOW
  | .CLASS_CFG_CYCALLOW | .ENG_ALLOW_ALLOW => true
  | _ => false

/-- The copy of an allowance field the meters run on (R59). -/
def State.live (s : State) (x : Fld) (i : Nat) : Nat := s.meters.live.get 0 (x, i)

/-- The allowance a meter runs on, per 1,000 µs. -/
def State.allowance (s : State) : Meter → Nat
  | .task t => s.live .TASK_ALLOW_ALLOW t
  | .cycles k => s.live .CLASS_CFG_CYCALLOW k
  | .dispatches k => s.live .CLASS_CFG_DSPALLOW k
  | .eng e => s.live .ENG_ALLOW_ALLOW e

/-- The unlimited value of each meter (R57). -/
def Meter.isUnlimited (m : Meter) (a : Nat) : Bool :=
  match m with
  | .task _ => a > 1000000
  | .cycles _ => a > 128000000
  | .dispatches _ => a = 0xFFFF
  | .eng _ => a = 0xFFFFFFFF

/-- The width of a meter's remaining-allowance field (R57). -/
def Meter.width : Meter → Nat
  | .task _ => 20
  | .cycles _ => 27
  | .dispatches _ => 16
  | .eng _ => 32

/-- The meter never exhausts (R53). -/
def State.unlimited (s : State) (m : Meter) : Bool := m.isUnlimited (s.allowance m)

/-- What a meter was loaded with at the last reload: floor(ALLOW x P / 1000), all ones when
unlimited, and 0 before the first load (R53, R461). -/
def State.loaded (s : State) (m : Meter) : Nat :=
  match s.meters.period with
  | none => 0
  | some p => if s.unlimited m then 2 ^ m.width - 1 else s.allowance m * p / 1000

/-- What has been charged to a meter since the last reload. -/
def State.spent (s : State) (m : Meter) : Nat := s.meters.spent.get 0 m

/-- The remaining allowance, stopping at zero (R462). -/
def State.remain (s : State) (m : Meter) : Nat := s.loaded m - s.spent m

/-- Enforcement is on (R54). -/
def State.enforcing (s : State) : Bool := s.fb .AM_CTRL_ENABLE

/-- The meter admits an activity: its remaining allowance is above zero, it is unlimited, or nothing is
enforced (R462, R53, R54). -/
def State.admits (s : State) (m : Meter) : Bool :=
  !s.enforcing || s.unlimited m || decide (0 < s.remain m)

/-- Charges a meter (R44). -/
def State.charge (s : State) (m : Meter) (n : Nat) : State :=
  { s with meters := { s.meters with spent := s.meters.spent.set m (s.spent m + n) } }

/-- A task set that the meters limit: the Steward's are charged to no meter and held by none (R55). -/
def metered (t : Nat) : Bool := decide (coreOf t != stewardCore)

/-- Marks that a meter held or descheduled something in this tick. -/
def State.noteHeld (s : State) (m : Meter) : State :=
  { s with meters := { s.meters with heldAny := if s.meters.heldAny.contains m then s.meters.heldAny
                                                else m :: s.meters.heldAny } }

/-- The excess of a cycle meter: charges after its allowance reached zero (R57). -/
def State.excess (s : State) (m : Meter) : Nat := if s.unlimited m then 0 else s.spent m - s.loaded m

/-- The class meter a task is bound to (R44, R59). -/
def State.classOf (s : State) (t : Nat) : Nat := s.live .TASK_ALLOW_CMETER t

/-- `n` core cycles of a task are charged to its meter and to its class's; a task set of the Steward is charged
to none (R44, R55). -/
def State.chargeTask (s : State) (t n : Nat) : State :=
  if metered t then (s.charge (.task t) n).charge (.cycles (s.classOf t)) n else s

/-- A task that would run if its meters let it (R57 TASK_OVR.OVRTICKS, R268). -/
def TaskSet.wantsRun (t : TaskSet) : Bool := t.state = .ready || t.state = .running || t.state = .descheduled

/-- The tasks that want to run and that meters limit. -/
def State.wanting (s : State) : List Nat :=
  (s.cores.entries.flatMap fun e => (e.2.slots.entries.filter fun x => x.2.wantsRun).map fun x => taskNo e.1 x.1).filter metered

/-- Some task that a cycle meter limits wants to run. -/
def State.wanted (s : State) : Meter → Bool
  | .task t => s.wanting.contains t
  | .cycles k => s.wanting.any fun t => s.classOf t = k
  | _ => false

/-- A cycle meter at zero keeps a task from running that wants to (R47, R57). -/
def State.stopsTask (s : State) (m : Meter) : Bool := !s.admits m && s.wanted m

/-- Records a meter's overrun and excess (R32 step 4): a meter that held or descheduled something in the tick, or
that keeps a task from running as it ends (R57). -/
def recordMeter (s : State) (m : Meter) : State :=
  let x := s.excess m
  let h := b2n (s.meters.heldAny.contains m || s.stopsTask m)
  match m with
  | .task t => (s.bump .TASK_OVR_EXCESS x t).bump .TASK_OVR_OVRTICKS h t
  | .cycles k => (s.bump .CLASS_OVR_EXCESS x k).bump .CLASS_OVR_CYCOVR h k
  | .dispatches k => s.bump .CLASS_OVR_DSPOVR h k
  | .eng e => s.bump .ENG_OVR_OVRTICKS h e

/-- The cycle meters of the tasks that want to run. -/
def State.wantedMeters (s : State) : List Meter := s.wanting.flatMap fun t => [.task t, .cycles (s.classOf t)]

/-- The meters charged or held in this tick, and those of the tasks that want to run, each once. -/
def State.touched (s : State) : List Meter :=
  onceEach (s.meters.spent.keys ++ s.meters.heldAny ++ s.wantedMeters)

/-- Every meter records its overrun and excess, unless nothing is enforced (R32 step 4, R54). -/
def State.recordMeters (s : State) : State :=
  if s.enforcing then s.touched.foldl recordMeter s else s

/-- Every meter loads its allowance for a tick of the period in force; the allowance fields written
since the last load take effect (R53, R59). -/
def State.reloadMeters (s : State) : State :=
  { s with meters := { s.meters with
      period := some (periodUs (s.f .TU_CTRL_PERIOD)),
      live := s.ctl.keep fun k => isAllowField k.1,
      spent := emptyMap, heldAny := [], due := [] } }

/-- A meter that is exhausted holds or deschedules its activity. -/
def State.exhausted (s : State) (m : Meter) : Bool := !s.admits m

/-- A task that may run: neither its own meter nor its class's cycle meter has descheduled it (R47); the
Steward's task sets no meter limits (R55). -/
def State.eligible (s : State) (t : Nat) : Bool :=
  !metered t || (s.admits (.task t) && s.admits (.cycles (s.classOf t)))

/-- The state a task set is in: a Ready one whose task or class meter reads zero is Descheduled at once (R269,
R47). -/
def State.stateOf (s : State) (t : Nat) : TState :=
  if (s.task t).state = .ready && !s.eligible t then .descheduled else (s.task t).state

/-- The meter of a port's frames or commands (R58). -/
def portMeter (port : Nat) : Meter := .eng (10 + port)

/-- The DMA meter of a port with a channel: LP0-LP7, the Host Port and the Archive Port (R58). -/
def dmaMeter (port : Nat) : Meter := .eng (26 + port)

end Sys2Proof.Machine
end

