-- ==== Sys2Proof/Config.lean ====
section
/-! DEFINITION. What the spec leaves to an implementation or to a published standard: constants with
no body, so that nothing can be proved of a particular value of them. -/

namespace Sys2Proof.Config

/-- The signature that an ED-VERIFY job judges, by draw: R148's table names no operand for it. Log entry 127. -/
opaque edSignature : Nat → BitVec 512

/-- Pure ML-DSA-65 verification: public key, context, message, signature (R146). Log entry 6. -/
opaque mldsaVerify : Bytes → Bytes → Bytes → Bytes → Bool

/-- A hedged ML-DSA-65 signature's bytes: private key, context, message, draw (R146). Log entry 6. -/
opaque mldsaSign : Bytes → Bytes → Bytes → BitVec 256 → Nat → Byte

/-- The public key's bytes of an ML-DSA-65 or ML-KEM-768 private key, by the key type of R147. Log entry 6. -/
opaque publicKey : Nat → Bytes → Nat → Byte

/-- ML-KEM-768 encapsulation's ciphertext bytes: encapsulation key, draw. Log entry 6. -/
opaque kemCipher : Bytes → BitVec 256 → Nat → Byte

/-- ML-KEM-768 encapsulation's shared secret: encapsulation key, draw. Log entry 6. -/
opaque kemSecret : Bytes → BitVec 256 → BitVec 256

/-- ML-KEM-768 decapsulation: private key, ciphertext. Log entry 6. -/
opaque kemDecaps : Bytes → Bytes → BitVec 256

/-- Which of a bucket's two entries an insertion displaces, by the displaced key and the number of the
move (R139). Log entry 24. -/
opaque cuckooPlace : Bytes → Nat → Bool

/-- A random draw of the entropy source, by number (R146, R402). Log entry 7. -/
opaque draw : Nat → BitVec 512

/-- The general queue that is a class's task queue (R74). Log entry 8. -/
opaque classQueue : Nat → Fin 1000

/-- Physical addresses the Steward chooses at boot (R90, R156): the Reply Log area, the request
buffer pool and the shadow copy of the Watch Table, in units of their alignment. Log entry 9. -/
opaque logBase : BitVec 14

/-- The request buffer pool's base, in units of 512 MiB (R90). Log entry 9. -/
opaque bufBase : BitVec 11

/-- The shadow copy's base, in units of 64 MiB (R156). Log entry 9. -/
opaque shadowBase : BitVec 14

/-- The running Steward firmware's release, coded as VERSION of an image header (R101). Log entry 9. -/
opaque firmwareVersion : BitVec 32

/-- SHA-512 of that firmware's body, as its image header states it (R393). Log entry 9. -/
opaque firmwareHash : BitVec 512

/-- The Boot ROM's public keys (R389): the root key pair's 32 and 1,952 bytes, then the firmware key pair's.
Log entry 9. -/
opaque rootKeys : Nat → Byte

/-- The bytes of the recovery flash (R381). Log entry 9. -/
opaque flashByte : Nat → Byte

/-- The place of the application parameter segment in general DRAM, in units of 1 MiB (R352). Log entry 9. -/
opaque appBase : BitVec 20

/-- The Steward's own task sets' TC_ENTRY registers as it writes them at boot (R392), by slot. Log entry 124. -/
opaque taskEntry : Nat → BitVec 64

/-- The cores' entry registers as the Steward writes them at boot (R392), by register and core. Log entry 9. -/
opaque entryWord : Nat → Nat → BitVec 64

/-- The key a wrapped key of 0x2C20:02 holds; none where its tag does not match. Its layout and its wrapping
key are not stated (R351). Log entry 37. -/
opaque unwrapKey : Bytes → Option Bytes

/-- VBAT is at 2.5 V or more when a transition comes as a plain dictionary write (R400), by the number of the
next free value. Log entry 38. -/
opaque vbatOk : Nat → Bool

/-- The die's serial number (R389). Log entry 9. -/
opaque dieSerial : BitVec 128

/-- The bytes of the Boot ROM and of the firmware a device is made with, by address (R17). Log entry 9. -/
opaque romByte : Nat → Byte

/-- The bytes of the parameter area, by address and by the number of the next free value: its layout is
internal (R340). Log entry 9. -/
opaque paramByte : Nat → Nat → Byte

/-- What the Archive Port keeps at an address of the drive's DMA: 0 nothing of its own, 1 queue memory that
the drive reads, 2 a completion queue, 3 the label part of the staging buffer, 4 the zero page (R371).
Log entry 9. -/
opaque archiveArea : Nat → Fin 5

/-- The bytes of that memory, by address and by the number of the next free value (R371). Log entry 9. -/
opaque archiveByte : Nat → Nat → Byte

/-- The rate code of the Archive Port's link while it is up, whose coding the spec does not give (R359,
R372). Log entry 36. -/
opaque archiveRate : BitVec 4

/-- The bytes of a slot whose write did not complete, or that the ring no longer holds, by LSN and offset (R24, R109).
Log entry 22. -/
opaque slotByte : Nat → Nat → Byte

end Sys2Proof.Config
end

