-- ==== Sys2Proof/Machine/Crypto.lean ====
section
/-! DEFINITION. The published algorithms the spec names and gives by their standards: SipHash-2-4 (R133), SHA-512 and
HMAC-SHA-512, SHA3-256 and SHAKE256, AES-256-GCM (R148), Ed25519 (R146). The standards' own constants are PRESUMED (log
entry 6). Each function is irreducible to the elaborator, so a proof meets it as a name. -/

namespace Sys2Proof.Machine

/-! ## SipHash-2-4 -/

/-- The four words of SipHash's state. -/
structure SipState where
  v0 : Word
  v1 : Word
  v2 : Word
  v3 : Word
  deriving DecidableEq, Repr

/-- One SipRound. -/
def SipState.round (x : SipState) : SipState :=
  let a := x.v0 + x.v1
  let b := x.v1.rotateLeft 13 ^^^ a
  let a := a.rotateLeft 32
  let c := x.v2 + x.v3
  let d := x.v3.rotateLeft 16 ^^^ c
  let a := a + d
  let d := d.rotateLeft 21 ^^^ a
  let c := c + b
  let b := b.rotateLeft 17 ^^^ c
  { v0 := a, v1 := b, v2 := c.rotateLeft 32, v3 := d }

/-- One word of the message taken in, with two rounds. -/
def SipState.absorb (x : SipState) (m : Word) : SipState :=
  let y := { x with v3 := x.v3 ^^^ m }.round.round
  { y with v0 := y.v0 ^^^ m }

/-- The words of a message: eight bytes each, least significant first, the last with the message's length on top. -/
def sipWords (b : Bytes) : List Word :=
  (List.range (b.length / 8)).map (fun i => BitVec.ofNat 64 (fieldAt b (8 * i) 8)) ++
    [BitVec.ofNat 64 (leNat (b.drop (8 * (b.length / 8))) + b.length % 256 * 2 ^ 56)]

/-- SipHash-2-4 of a string under a 128-bit key (R133). -/
@[irreducible]
def siphash (key : BitVec 128) (b : Bytes) : Word :=
  let k0 := key.setWidth 64
  let k1 := (key >>> 64).setWidth 64
  let x : SipState := { v0 := k0 ^^^ 0x736F6D6570736575, v1 := k1 ^^^ 0x646F72616E646F6D,
                        v2 := k0 ^^^ 0x6C7967656E657261, v3 := k1 ^^^ 0x7465646279746573 }
  let y := (sipWords b).foldl SipState.absorb x
  let z := { y with v2 := y.v2 ^^^ 0xFF }.round.round.round.round
  z.v0 ^^^ z.v1 ^^^ z.v2 ^^^ z.v3

/-! ## SHA-512 -/

/-- The initial hash value of SHA-512. -/
def shaInit : List Word :=
  [0x6A09E667F3BCC908, 0xBB67AE8584CAA73B, 0x3C6EF372FE94F82B, 0xA54FF53A5F1D36F1,
   0x510E527FADE682D1, 0x9B05688C2B3E6C1F, 0x1F83D9ABFB41BD6B, 0x5BE0CD19137E2179]

/-- The first forty round constants of SHA-512. -/
def shaKeysA : List Word :=
  [0x428A2F98D728AE22, 0x7137449123EF65CD, 0xB5C0FBCFEC4D3B2F, 0xE9B5DBA58189DBBC,
   0x3956C25BF348B538, 0x59F111F1B605D019, 0x923F82A4AF194F9B, 0xAB1C5ED5DA6D8118,
   0xD807AA98A3030242, 0x12835B0145706FBE, 0x243185BE4EE4B28C, 0x550C7DC3D5FFB4E2,
   0x72BE5D74F27B896F, 0x80DEB1FE3B1696B1, 0x9BDC06A725C71235, 0xC19BF174CF692694,
   0xE49B69C19EF14AD2, 0xEFBE4786384F25E3, 0x0FC19DC68B8CD5B5, 0x240CA1CC77AC9C65,
   0x2DE92C6F592B0275, 0x4A7484AA6EA6E483, 0x5CB0A9DCBD41FBD4, 0x76F988DA831153B5,
   0x983E5152EE66DFAB, 0xA831C66D2DB43210, 0xB00327C898FB213F, 0xBF597FC7BEEF0EE4,
   0xC6E00BF33DA88FC2, 0xD5A79147930AA725, 0x06CA6351E003826F, 0x142929670A0E6E70,
   0x27B70A8546D22FFC, 0x2E1B21385C26C926, 0x4D2C6DFC5AC42AED, 0x53380D139D95B3DF,
   0x650A73548BAF63DE, 0x766A0ABB3C77B2A8, 0x81C2C92E47EDAEE6, 0x92722C851482353B]

/-- The other round constants. -/
def shaKeysB : List Word :=
  [0xA2BFE8A14CF10364, 0xA81A664BBC423001, 0xC24B8B70D0F89791, 0xC76C51A30654BE30,
   0xD192E819D6EF5218, 0xD69906245565A910, 0xF40E35855771202A, 0x106AA07032BBD1B8,
   0x19A4C116B8D2D0C8, 0x1E376C085141AB53, 0x2748774CDF8EEB99, 0x34B0BCB5E19B48A8,
   0x391C0CB3C5C95A63, 0x4ED8AA4AE3418ACB, 0x5B9CCA4F7763E373, 0x682E6FF3D6B2B8A3,
   0x748F82EE5DEFB2FC, 0x78A5636F43172F60, 0x84C87814A1F0AB72, 0x8CC702081A6439EC,
   0x90BEFFFA23631E28, 0xA4506CEBDE82BDE9, 0xBEF9A3F7B2C67915, 0xC67178F2E372532B,
   0xCA273ECEEA26619C, 0xD186B8C721C0C207, 0xEADA7DD6CDE0EB1E, 0xF57D4F7FEE6ED178,
   0x06F067AA72176FBA, 0x0A637DC5A2C898A6, 0x113F9804BEF90DAE, 0x1B710B35131C471B,
   0x28DB77F523047D84, 0x32CAAB7B40C72493, 0x3C9EBE0A15C9BEBC, 0x431D67C49C100D4C,
   0x4CC5D4BECB3E42B6, 0x597F299CFC657E2A, 0x5FCB6FAB3AD6FAEC, 0x6C44198C4A475817]

/-- A number from its bytes, most significant first. -/
def beNat (b : Bytes) : Nat := leNat b.reverse

/-- A message with its padding: a bit, zeros, and its length in bits (FIPS 180-4). -/
def shaPad (b : Bytes) : Bytes :=
  b ++ 0x80 :: zeros ((239 - b.length % 128) % 128) ++ beBytes 16 (8 * b.length)

/-- The next word of the message schedule, from the sixteen before it. -/
def shaNext (w : List Word) : Word :=
  let x := w.getD 1 0
  let y := w.getD 14 0
  (y.rotateRight 19 ^^^ y.rotateRight 61 ^^^ (y >>> 6)) + w.getD 9 0 +
    (x.rotateRight 1 ^^^ x.rotateRight 8 ^^^ (x >>> 7)) + w.getD 0 0

/-- The rounds of a block: round constants left, schedule window, working variables. -/
def shaRounds : List Word → List Word → List Word → List Word
  | [], _, h => h
  | k :: ks, w, h =>
    match h with
    | [a, b, c, d, e, f, g, i] =>
      let t1 := i + (e.rotateRight 14 ^^^ e.rotateRight 18 ^^^ e.rotateRight 41) + ((e &&& f) ^^^ (~~~e &&& g)) + k + w.getD 0 0
      let t2 := (a.rotateRight 28 ^^^ a.rotateRight 34 ^^^ a.rotateRight 39) + ((a &&& b) ^^^ (a &&& c) ^^^ (b &&& c))
      shaRounds ks (w.tail ++ [shaNext w]) [t1 + t2, a, b, c, d + t1, e, f, g]
    | _ => h

/-- The sixteen words of a block. -/
def shaBlock (b : Bytes) : List Word := (List.range 16).map fun i => BitVec.ofNat 64 (beNat (sliceAt b (8 * i) 8))

/-- The hash value after the given number of blocks. -/
def shaBlocks : Nat → List Word → Bytes → List Word
  | 0, h, _ => h
  | n + 1, h, b => shaBlocks n (List.zipWith (· + ·) h (shaRounds (shaKeysA ++ shaKeysB) (shaBlock b) h)) (b.drop 128)

/-- SHA-512 of a string, the digest's bytes in order. -/
@[irreducible]
def shaBytes (b : Bytes) : Bytes :=
  (shaBlocks ((shaPad b).length / 128) shaInit (shaPad b)).flatMap fun w => beBytes 8 w.toNat

/-- SHA-512 (FIPS 180-4) as a field of 64 bytes: its first byte is the lowest (R6, R111, R148). -/
@[irreducible]
def sha512 (b : Bytes) : BitVec 512 := BitVec.ofNat 512 (leNat (shaBytes b))

/-- The key of an HMAC filled to a block of SHA-512 (RFC 2104). -/
def hmacKey (key : Bytes) : Bytes := fitTo 128 (if 128 < key.length then shaBytes key else key)

/-- HMAC-SHA-512 (RFC 2104): key, message (R148). -/
@[irreducible]
def hmac (key msg : Bytes) : BitVec 512 :=
  let k := hmacKey key
  sha512 (k.map (· ^^^ 0x5C) ++ shaBytes (k.map (· ^^^ 0x36) ++ msg))

/-! ## Keccak -/

/-- The round constants of Keccak-f[1600]. -/
def keccakRounds : List Word :=
  [0x0000000000000001, 0x0000000000008082, 0x800000000000808A, 0x8000000080008000,
   0x000000000000808B, 0x0000000080000001, 0x8000000080008081, 0x8000000000008009,
   0x000000000000008A, 0x0000000000000088, 0x0000000080008009, 0x000000008000000A,
   0x000000008000808B, 0x800000000000008B, 0x8000000000008089, 0x8000000000008003,
   0x8000000000008002, 0x8000000000000080, 0x000000000000800A, 0x800000008000000A,
   0x8000000080008081, 0x8000000000008080, 0x0000000080000001, 0x8000000080008008]

/-- The rotations of rho, lane x + 5y. -/
def keccakRho : List Nat :=
  [0, 1, 62, 28, 27, 36, 44, 6, 55, 20, 3, 10, 43, 25, 39, 41, 45, 15, 21, 8, 18, 2, 61, 56, 14]

/-- One round of Keccak-f[1600] on the 25 lanes, lane x + 5y. -/
def keccakRound (a : List Word) (rc : Word) : List Word :=
  let g (l : List Word) (i : Nat) : Word := l.getD i 0
  let c := (List.range 5).map fun x => g a x ^^^ g a (x + 5) ^^^ g a (x + 10) ^^^ g a (x + 15) ^^^ g a (x + 20)
  let d := (List.range 5).map fun x => g c ((x + 4) % 5) ^^^ (g c ((x + 1) % 5)).rotateLeft 1
  let t := (List.range 25).map fun i => (g a i ^^^ g d (i % 5)).rotateLeft (keccakRho.getD i 0)
  let b := (List.range 25).map fun i => let x := i % 5; let y := i / 5; g t ((x + 3 * y) % 5 + 5 * x)
  let e := (List.range 25).map fun i =>
    let x := i % 5
    let y := 5 * (i / 5)
    g b i ^^^ (~~~ g b ((x + 1) % 5 + y) &&& g b ((x + 2) % 5 + y))
  match e with
  | h :: l => (h ^^^ rc) :: l
  | [] => []

/-- Keccak-f[1600]. -/
def keccakF (a : List Word) : List Word := keccakRounds.foldl keccakRound a

/-- A block of 136 bytes taken in. -/
def keccakAbsorb (a : List Word) (b : Bytes) : List Word :=
  keccakF ((List.range 25).map fun i => a.getD i 0 ^^^ (if i < 17 then BitVec.ofNat 64 (fieldAt b (8 * i) 8) else 0))

/-- The state after the given number of blocks. -/
def keccakBlocks : Nat → List Word → Bytes → List Word
  | 0, a, _ => a
  | n + 1, a, b => keccakBlocks n (keccakAbsorb a b) (b.drop 136)

/-- A message with its suffix and padding to the rate of 136 bytes (FIPS 202). -/
def keccakPad (suffix : Byte) (b : Bytes) : Bytes :=
  let n := 135 - b.length % 136
  b ++ (if n = 0 then [suffix ||| 0x80] else suffix :: zeros (n - 1) ++ [0x80])

/-- The state after a message. -/
def keccakOf (suffix : Byte) (b : Bytes) : List Word :=
  keccakBlocks ((keccakPad suffix b).length / 136) (List.replicate 25 0) (keccakPad suffix b)

/-- The output of the given number of blocks of 136 bytes. -/
def keccakSqueeze : Nat → List Word → Bytes
  | 0, _ => []
  | n + 1, a => ((a.take 17).flatMap fun w => leBytes 8 w.toNat) ++ keccakSqueeze n (keccakF a)

/-- SHA3-256 (FIPS 202) as a field of 32 bytes: its first byte is the lowest (R148). -/
@[irreducible]
def sha3 (b : Bytes) : BitVec 256 := BitVec.ofNat 256 (leNat ((keccakSqueeze 1 (keccakOf 0x06 b)).take 32))

/-- The first `n` bytes of SHAKE256's output (FIPS 202, R148). -/
@[irreducible]
def shake256 (b : Bytes) (n : Nat) : Bytes := (keccakSqueeze (divUp n 136) (keccakOf 0x1F b)).take n

/-! ## AES-256-GCM -/

/-- Multiplication by x in the field of AES. -/
def aesDouble (a : Byte) : Byte := (a <<< 1) ^^^ (if a.msb then 0x1B else 0)

/-- Multiplication in the field of AES, the given number of bits of the second factor. -/
def aesMul : Nat → Byte → Byte → Byte
  | 0, _, _ => 0
  | n + 1, a, b => (if b.getLsbD 0 then a else 0) ^^^ aesMul n (aesDouble a) (b >>> 1)

/-- The inverse of an element of the field of AES: its 254th power. -/
def aesInv (a : Byte) : Byte :=
  let m (x y : Byte) : Byte := aesMul 8 x y
  let a2 := m a a
  let a4 := m a2 a2
  let a8 := m a4 a4
  let a16 := m a8 a8
  let a32 := m a16 a16
  let a64 := m a32 a32
  m (m (m a64 a64) a64) (m (m a32 a16) (m (m a8 a4) a2))

/-- The S-box of AES (FIPS 197). -/
def aesSub (a : Byte) : Byte :=
  let b := aesInv a
  b ^^^ b.rotateLeft 1 ^^^ b.rotateLeft 2 ^^^ b.rotateLeft 3 ^^^ b.rotateLeft 4 ^^^ 0x63

/-- Bytes combined one by one. -/
def xorBytes (a b : Bytes) : Bytes := List.zipWith (· ^^^ ·) a b

/-- The words of the key schedule, latest first, after `n` more words; `i` numbers the next one. -/
def aesExpand : Nat → Nat → Byte → List Bytes → List Bytes
  | 0, _, _, l => l
  | n + 1, i, rcon, l =>
    let p := l.getD 0 []
    let t := if i % 8 = 0 then xorBytes ((p.drop 1 ++ p.take 1).map aesSub) [rcon, 0, 0, 0]
             else if i % 8 = 4 then p.map aesSub else p
    aesExpand n (i + 1) (if i % 8 = 0 then aesDouble rcon else rcon) (xorBytes t (l.getD 7 []) :: l)

/-- The fifteen round keys of AES-256, 16 bytes each. -/
def aesKeys (key : Bytes) : List Bytes :=
  let w := (aesExpand 52 8 1 ((List.range 8).map fun i => sliceAt key (4 * i) 4).reverse).reverse
  (List.range 15).map fun i => (w.drop (4 * i)).take 4 |>.flatten

/-- ShiftRows of a state held column by column. -/
def aesShift (b : Bytes) : Bytes := (List.range 16).map fun i => b.getD ((i + 4 * (i % 4)) % 16) 0

/-- MixColumns of a state held column by column. -/
def aesMix (b : Bytes) : Bytes :=
  (List.range 16).map fun i =>
    let g (k : Nat) : Byte := b.getD (i / 4 * 4 + (i + k) % 4) 0
    aesDouble (g 0) ^^^ (aesDouble (g 1) ^^^ g 1) ^^^ g 2 ^^^ g 3

/-- The rounds of AES after the first key. -/
def aesRounds : List Bytes → Bytes → Bytes
  | [], b => b
  | [k], b => xorBytes (aesShift (b.map aesSub)) k
  | k :: ks, b => aesRounds ks (xorBytes (aesMix (aesShift (b.map aesSub))) k)

/-- AES-256 of a block under its round keys (FIPS 197). -/
def aesBlock (keys : List Bytes) (b : Bytes) : Bytes := aesRounds (keys.drop 1) (xorBytes b (keys.getD 0 []))

/-- Multiplication in the field of GHASH: bits of the first factor left, most significant first (SP 800-38D). -/
def ghashMul : Nat → BitVec 128 → BitVec 128 → BitVec 128 → BitVec 128
  | 0, _, _, z => z
  | n + 1, x, v, z =>
    ghashMul n (x <<< 1) ((v >>> 1) ^^^ (if v.getLsbD 0 then 0xE1000000000000000000000000000000 else 0)) (if x.msb then z ^^^ v else z)

/-- GHASH over the given number of blocks. -/
def ghashBlocks (h : BitVec 128) : Nat → BitVec 128 → Bytes → BitVec 128
  | 0, y, _ => y
  | n + 1, y, b =>
    ghashBlocks h n (ghashMul 128 (y ^^^ BitVec.ofNat 128 (beNat (fitTo 16 (b.take 16)))) h 0) (b.drop 16)

/-- A string filled to whole blocks of 16 bytes. -/
def padBlocks (b : Bytes) : Bytes := b ++ zeros ((16 - b.length % 16) % 16)

/-- The key stream of AES-256-GCM: `n` blocks from counter `c`. -/
def gcmBlocks (keys : List Bytes) (iv : Bytes) : Nat → Nat → Bytes
  | 0, _ => []
  | n + 1, c => aesBlock keys (iv ++ beBytes 4 c) ++ gcmBlocks keys iv n (c + 1)

/-- A string combined with the key stream: encryption and decryption alike. -/
@[irreducible]
def gcmCrypt (key iv b : Bytes) : Bytes := xorBytes b (gcmBlocks (aesKeys key) iv (divUp b.length 16) 2)

/-- The tag of AES-256-GCM: key, initial vector, additional data, ciphertext (SP 800-38D, R148). -/
@[irreducible]
def gcmTag (key iv aad ct : Bytes) : Bytes :=
  let keys := aesKeys key
  let h := BitVec.ofNat 128 (beNat (aesBlock keys (zeros 16)))
  let b := padBlocks aad ++ padBlocks ct ++ beBytes 8 (8 * aad.length) ++ beBytes 8 (8 * ct.length)
  xorBytes (beBytes 16 (ghashBlocks h (b.length / 16) 0 b).toNat) (aesBlock keys (iv ++ beBytes 4 1))

/-! ## Ed25519 -/

/-- The prime of the field of Ed25519 (RFC 8032). -/
def edP : Nat := 2 ^ 255 - 19

/-- The order of the Ed25519 group (RFC 8032). -/
def edOrder : Nat := 2 ^ 252 + 27742317777372353535851937790883648493

/-- `b ^ e` modulo the prime, the given number of bits of the exponent. -/
def edPow : Nat → Nat → Nat → Nat
  | 0, _, _ => 1
  | n + 1, b, e => (if e % 2 = 1 then b else 1) * edPow n (b * b % edP) (e / 2) % edP

/-- The inverse modulo the prime. -/
def edInv (x : Nat) : Nat := edPow 255 x (edP - 2)

/-- The difference modulo the prime. -/
def edSub (x y : Nat) : Nat := (x + edP - y % edP) % edP

/-- The constant d of the curve, and a square root of -1. -/
def edD : Nat := 37095705934669439343138083508754565189542113879843219016388785533085940283555
def edRoot : Nat := 19681161376707505956807079304988542015446066515923890162744021073123829784752

/-- A point of the curve in extended coordinates. -/
structure EdPoint where
  x : Nat
  y : Nat
  z : Nat
  t : Nat
  deriving DecidableEq, Repr

/-- The neutral point. -/
def edZero : EdPoint := { x := 0, y := 1, z := 1, t := 0 }

/-- The sum of two points (RFC 8032, 5.1.4). -/
def EdPoint.add (p q : EdPoint) : EdPoint :=
  let a := edSub p.y p.x * edSub q.y q.x % edP
  let b := (p.y + p.x) * (q.y + q.x) % edP
  let c := 2 * edD * p.t * q.t % edP
  let d := 2 * p.z * q.z % edP
  let e := edSub b a
  let f := edSub d c
  let g := (d + c) % edP
  let h := (b + a) % edP
  { x := e * f % edP, y := g * h % edP, z := f * g % edP, t := e * h % edP }

/-- The multiple of a point, the given number of bits of the factor. -/
def EdPoint.mul : Nat → EdPoint → Nat → EdPoint
  | 0, _, _ => edZero
  | n + 1, p, k =>
    let q := EdPoint.mul n (p.add p) (k / 2)
    if k % 2 = 1 then q.add p else q

/-- Two points are one. -/
def EdPoint.same (p q : EdPoint) : Bool :=
  decide (p.x * q.z % edP = q.x * p.z % edP) && decide (p.y * q.z % edP = q.y * p.z % edP)

/-- The x coordinate of a point of the curve, by its y coordinate and the low bit of x; none where no point has that y,
or where x is 0 and the bit 1 (RFC 8032, 5.1.3). -/
def edRecover (y sign : Nat) : Option Nat :=
  let u := edSub (y * y) 1
  let v := (edD * y * y + 1) % edP
  let c := u * edPow 255 v 3 % edP * edPow 255 (u * edPow 255 v 7 % edP) ((edP - 5) / 8) % edP
  let x := if v * c * c % edP = u then some c
           else if v * c * c % edP = edSub 0 u then some (c * edRoot % edP) else none
  match x with
  | none => none
  | some x => if x = 0 && sign = 1 then none else some (if x % 2 = sign then x else edP - x)

/-- A canonically encoded point: y below the prime, and x as RFC 8032 recovers it (R146). -/
def edDecode (b : Bytes) : Option EdPoint :=
  let y := leNat b % 2 ^ 255
  if edP ≤ y then none
  else (edRecover y (leNat b / 2 ^ 255 % 2)).map fun x => { x := x, y := y, z := 1, t := x * y % edP }

/-- The encoding of a point. -/
def EdPoint.encode (p : EdPoint) : Bytes :=
  let i := edInv p.z
  leBytes 32 (p.y * i % edP + 2 ^ 255 * (p.x * i % edP % 2))

/-- The base point. -/
def edBase : EdPoint :=
  let x := 15112221349535400772501151409588531511454012693041857206046113283949847762202
  let y := 46316835694926478169428394003475163141307993866256225615783033603165251855960
  { x := x, y := y, z := 1, t := x * y % edP }

/-- The cofactored equation [8][S]B = [8]R + [8][k]A (R146). -/
@[irreducible]
def edEquation (pk msg sig : Bytes) : Bool :=
  match edDecode pk, edDecode (sig.take 32) with
  | some a, some r =>
    let k := leNat (shaBytes (sig.take 32 ++ pk ++ msg)) % edOrder
    ((edBase.mul 256 (leNat (sig.drop 32))).mul 4 8).same ((r.add (a.mul 256 k)).mul 4 8)
  | _, _ => false

/-- The scalar of a private key, and its prefix (RFC 8032, 5.1.5). -/
def edScalar (key : Bytes) : Nat × Bytes :=
  let h := shaBytes key
  (leNat (h.take 32) % 2 ^ 254 / 8 * 8 + 2 ^ 254, h.drop 32)

/-- The public key of a private key. -/
@[irreducible]
def edPublic (key : Bytes) : Bytes := (edBase.mul 256 (edScalar key).1).encode

/-- A pure Ed25519 signature: private key, message (R146). -/
@[irreducible]
def edSign (key msg : Bytes) : Bytes :=
  let a := edScalar key
  let r := leNat (shaBytes (a.2 ++ msg)) % edOrder
  let p := (edBase.mul 256 r).encode
  let k := leNat (shaBytes (p ++ edPublic key ++ msg)) % edOrder
  p ++ leBytes 32 ((r + k * a.1) % edOrder)

end Sys2Proof.Machine
end

