-- ==== Sys2Proof/Machine/Ledger.lean ====
section
/-! DEFINITION. The Ledger Array's data: record kinds, the bytes of a slot, block roots (R91-R101,
R111, R112, R114). -/

namespace Sys2Proof.Machine

/-- Slots of the ring (R91). -/
def ringSlots : Nat := 1048576

/-- KIND (R98). -/
def Body.kind : Body → Nat
  | .accept _ _ => 1
  | .reject _ _ => 2
  | .abandon _ => 3
  | .dev (.config _ _ _ _ _ _ _ _) => 4
  | .dev (.watchDelta _ _ _ _ _) => 5
  | .header _ => 6
  | .sig _ _ _ => 7
  | .recovery _ _ _ _ _ _ _ _ => 8
  | .tamper _ _ _ => 9
  | .dev (.lifecycle _ _ _ _ _) => 10

/-- A Merkle leaf: every kind but header and signature (R98). -/
def Body.isLeaf (b : Body) : Bool := !(b.kind = 6 || b.kind = 7)

/-- PART (R96). -/
def Body.part : Body → Nat
  | .sig _ p _ => p
  | _ => 0

/-- SPAN (R96). -/
def Body.span : Body → Nat
  | .sig _ _ _ => 15
  | _ => 1

/-- The 32-byte request stamp (R99). -/
def Stamp.bytes (t : Stamp) : Bytes :=
  leBytes 2 t.session ++ leBytes 2 t.epoch ++ leBytes 4 t.reqid ++ leBytes 2 t.peer ++ leBytes 1 t.cls ++
  leBytes 1 (t.retry % 16 + 16 * t.deadline) ++ leBytes 2 t.task ++ leBytes 2 t.reason ++
  leBytes 8 t.arrival ++ leBytes 8 t.handtick

/-- A tick block header's body (R112). -/
def BlockHdr.bytes (h : BlockHdr) : Bytes :=
  leBytes 8 h.tick ++ leBytes 8 h.prevtick ++ leBytes 8 h.first ++ leBytes 8 h.last ++ leBytes 4 h.count ++
  leBytes 1 h.period ++ leBytes 1 (b2n h.recovered + 2 * b2n h.timevalid + 4 * b2n h.isSealed) ++ zeros 2 ++
  leBytes 64 h.root.toNat ++ leBytes 64 h.prev.toNat ++ leBytes 8 h.tai ++ leBytes 4 h.keygen ++ zeros 56

/-- The body of a record the Steward submits (R100). -/
def devRecBytes : DevRec → Bytes
  | .config index sub role efftick rolesess auth len value =>
    leBytes 2 index.toNat ++ leBytes 1 sub.toNat ++ leBytes 1 role.toNat ++ zeros 4 ++ leBytes 8 efftick ++
    leBytes 8 rolesess.toNat ++ leBytes 64 auth.toNat ++ leBytes 2 len.toNat ++ zeros 2 ++ fitTo 128 value ++ zeros 16
  | .watchDelta q n t digest rolesess =>
    leBytes 4 q.toNat ++ leBytes 4 n.toNat ++ leBytes 8 t ++ leBytes 64 digest.toNat ++ leBytes 8 rolesess.toNat ++ zeros 148
  | .lifecycle src dst rolesess auth devkey =>
    leBytes 1 src.toNat ++ leBytes 1 dst.toNat ++ zeros 6 ++ leBytes 8 rolesess.toNat ++ leBytes 64 auth.toNat ++
    leBytes 64 devkey.toNat ++ zeros 92

/-- The record that the 256 bytes of a descriptor on queue 1,009 spell (R100, R106). The Press fills bytes 0 to 15; that
byte 8 names the kind, as it does in the slot, is the model's (DESIGN CHOICE, log entry 68). -/
def devRecOf (b : Bytes) : Option DevRec :=
  match fieldAt b 8 1 with
  | 4 => some (.config (BitVec.ofNat 16 (fieldAt b 16 2)) (BitVec.ofNat 8 (fieldAt b 18 1)) (BitVec.ofNat 8 (fieldAt b 19 1))
      (fieldAt b 24 8) (BitVec.ofNat 64 (fieldAt b 32 8)) (BitVec.ofNat 512 (fieldAt b 40 64)) (BitVec.ofNat 16 (fieldAt b 104 2))
      (sliceAt b 108 128))
  | 5 => some (.watchDelta (BitVec.ofNat 32 (fieldAt b 16 4)) (BitVec.ofNat 32 (fieldAt b 20 4)) (fieldAt b 24 8)
      (BitVec.ofNat 512 (fieldAt b 32 64)) (BitVec.ofNat 64 (fieldAt b 96 8)))
  | 10 => some (.lifecycle (BitVec.ofNat 8 (fieldAt b 16 1)) (BitVec.ofNat 8 (fieldAt b 17 1)) (BitVec.ofNat 64 (fieldAt b 24 8))
      (BitVec.ofNat 512 (fieldAt b 32 64)) (BitVec.ofNat 512 (fieldAt b 96 64)))
  | _ => none

/-- The 236 body bytes of a slot (R96, R99-R101, R112, R114). -/
def Body.bytes : Body → Bytes
  | .accept t c => t.bytes ++ fitTo 204 c
  | .reject t c => t.bytes ++ fitTo 204 c
  | .abandon t => t.bytes ++ zeros 204
  | .dev r => devRecBytes r
  | .header h => h.bytes
  | .sig l _ x => leBytes 8 l ++ fitTo 228 x
  | .recovery cause flags blocks tail lasttick newtick archmark fwver =>
    leBytes 1 cause ++ leBytes 1 flags ++ zeros 2 ++ leBytes 4 blocks ++ leBytes 8 tail ++ leBytes 8 lasttick ++
    leBytes 8 newtick ++ leBytes 8 archmark ++ leBytes 4 fwver ++ zeros 192
  | .tamper src tick lastsigned => leBytes 4 src ++ zeros 4 ++ leBytes 8 tick ++ leBytes 8 lastsigned ++ zeros 212

/-- Bytes 0 to 251 of a slot (R96). -/
def Rec.head (r : Rec) : Bytes :=
  leBytes 8 r.lsn ++ leBytes 1 r.body.kind ++ leBytes 1 1 ++ leBytes 1 r.body.part ++ leBytes 1 r.body.span ++
  leBytes 4 r.wtick ++ fitTo 236 r.body.bytes

/-- The 256 bytes of a slot, its CHECK among them (R96). -/
def Rec.bytes (r : Rec) : Bytes := r.head ++ leBytes 4 (crc32c r.head)

/-- The 256 bytes of a slot that holds no record: free values (R24, R109). -/
def tornBytes (lsn : Nat) : Bytes := (numsFrom 0 256).map (Config.slotByte lsn)

/-- The 256 bytes of slot `i` of the ring. -/
def State.slotBytes (s : State) (i : Nat) : Bytes :=
  match s.press.slots.find i with
  | none => zeros 256
  | some (.good r) => r.bytes
  | some (.bad r) => tornBytes r.lsn

/-- The ring slot of an LSN (R91). -/
def slotIndex (lsn : Nat) : Nat := lsn % ringSlots

/-- The record of an LSN, if the ring holds it. -/
def State.recAt (s : State) (lsn : Nat) : Option Rec :=
  match s.press.slots.find (slotIndex lsn) with
  | some (.good r) => if r.lsn = lsn then some r else none
  | _ => none

/-- The records of the ring that pass R97. -/
def State.records (s : State) : List Rec :=
  s.press.slots.entries.filterMap fun e => match e.2 with
    | .good r => some r
    | .bad _ => none

/-- A record put into its place in a list with falling LSNs. -/
def insertRec (r : Rec) : List Rec → List Rec
  | [] => [r]
  | x :: l => if x.lsn ≤ r.lsn then r :: x :: l else x :: insertRec r l

/-- The records of the ring, newest first (R88). -/
def State.newestFirst (s : State) : List Rec := s.records.foldr insertRec []

/-- The Merkle Tree Hash of RFC 6962 with SHA-512 over the leaf slots (R111); the first argument bounds
the depth. -/
def merkle : Nat → List Bytes → BitVec 512
  | _, [] => sha512 []
  | _, [d] => sha512 (0 :: d)
  | 0, _ => sha512 []
  | n + 1, l =>
    let k := 2 ^ Nat.log2 (l.length - 1)
    sha512 (1 :: (leBytes 64 (merkle n (l.take k)).toNat ++ leBytes 64 (merkle n (l.drop k)).toNat))

/-- ROOT over the leaves of the LSNs given (R111). -/
def State.rootOf (s : State) (lsns : List Nat) : BitVec 512 :=
  let l := lsns.map fun n => s.slotBytes (slotIndex n)
  merkle l.length l

/-- Occupancy (R116). -/
def State.occupancy (s : State) : Nat := s.f .PR_NEXTLSN_NEXTLSN - s.f .PR_ARCHLSN_ARCHLSN

/-- The all-ones LSN (R128). -/
def noLsn : Nat := 2 ^ 64 - 1

end Sys2Proof.Machine
end

