-- ==== Sys2Proof/Machine/Targets.lean ====
section
/-! DEFINITION. The targets of the address map beside memory: control space, the Ledger window, the Firmware Store,
the parameter area (R17, R94). -/

namespace Sys2Proof.Machine

/-- Control space (R17). -/
def inControl (a : Nat) : Bool := decide (0x40000000 ≤ a) && decide (a ≤ 0x40FFFFFF)

/-- The Ledger window (R17). -/
def inLedger (a : Nat) : Bool := decide (0x30000000 ≤ a) && decide (a ≤ 0x3FFFFFFF)

/-- The Firmware Store banks (R17). -/
def inBank (a : Nat) : Bool := decide (0x10000000 ≤ a) && decide (a ≤ 0x10FFFFFF)

/-- The parameter area (R17). -/
def inParam (a : Nat) : Bool := decide (0x11000000 ≤ a) && decide (a ≤ 0x1103FFFF)

/-- A byte of a Firmware Store bank: what a store wrote, what an update wrote, or what the device was made
with (R17). -/
def State.bankByte (s : State) (a : Nat) : Byte :=
  match s.trust.fwStores.find a with
  | some v => v
  | none => match s.trust.banks.get .shipped (bitsOf a 23 1) with
    | .shipped => Config.romByte a
    | .written b => b.getD (a % 0x800000) 0

/-- The byte a target answers (R17, R94; log entry 9). -/
def State.targetByte (s : State) (a : Nat) : Byte :=
  if a ≤ 0x1FFFF then Config.romByte a
  else if inBank a then s.bankByte a
  else if inParam a then Config.paramByte a s.fresh
  else if inLedger a then (s.slotBytes ((a - 0x30000000) / 256)).getD (a % 256) 0
  else s.byte a

/-- `n` bytes from a physical address, as the targets answer. -/
def State.targetBytes (s : State) (a : Nat) : Nat → Bytes
  | 0 => []
  | n + 1 => s.targetByte a :: s.targetBytes (a + 1) n

end Sys2Proof.Machine
end

