-- ==== Sys2Proof/Machine/Cap.lean ====
section
/-! DEFINITION. The fields of a capability (R158, R159). -/

namespace Sys2Proof.Machine

/-- OFFSET (R158). -/
def Cap.offset (c : Cap) : Nat := bitsOf c.bits.toNat 0 32
/-- SEALTYPE (R158). -/
def Cap.sealType (c : Cap) : Nat := bitsOf c.bits.toNat 32 16
/-- COLOUR (R158). -/
def Cap.colour (c : Cap) : Nat := bitsOf c.bits.toNat 48 4
/-- The reserved field (R158). -/
def Cap.reserved (c : Cap) : Nat := bitsOf c.bits.toNat 52 12 + bitsOf c.bits.toNat 118 10
/-- RIGHTS (R158). -/
def Cap.rights (c : Cap) : Nat := bitsOf c.bits.toNat 64 16
/-- GEN (R158). -/
def Cap.gen (c : Cap) : Nat := bitsOf c.bits.toNat 80 16
/-- INDEX (R158). -/
def Cap.index (c : Cap) : Nat := bitsOf c.bits.toNat 96 22

/-- The rights of R159 by bit. -/
def rL : Nat := 0
def rS : Nat := 1
def rX : Nat := 2
def rLC : Nat := 3
def rSC : Nat := 4
def rSL : Nat := 5
def rG : Nat := 6
def rSE : Nat := 7
def rUS : Nat := 8
def rIV : Nat := 9
def rDR : Nat := 10

/-- The untagged null value. -/
def nullCap : Cap := ⟨0, false⟩

/-- The tagged capability with the fields given. -/
def mkCap (index gen rights colour sealType offset : Nat) : Cap :=
  ⟨BitVec.ofNat 128 (offset % 2 ^ 32 + (sealType % 2 ^ 16) * 2 ^ 32 + (colour % 16) * 2 ^ 48 +
    (rights % 2 ^ 16) * 2 ^ 64 + (gen % 2 ^ 16) * 2 ^ 80 + (index % 2 ^ 22) * 2 ^ 96), true⟩

/-- The capability with bits `lo + n - 1` to `lo` replaced. -/
def Cap.put (c : Cap) (lo n v : Nat) : Cap :=
  let x := c.bits.toNat
  { c with bits := BitVec.ofNat 128 (x % 2 ^ lo + (v % 2 ^ n) * 2 ^ lo + (x >>> (lo + n)) * 2 ^ (lo + n)) }

/-- The capability with another OFFSET. -/
def Cap.withOffset (c : Cap) (v : Nat) : Cap := c.put 0 32 v
/-- The capability with another SEALTYPE. -/
def Cap.withSeal (c : Cap) (v : Nat) : Cap := c.put 32 16 v
/-- The capability with another COLOUR. -/
def Cap.withColour (c : Cap) (v : Nat) : Cap := c.put 48 4 v
/-- The capability with other RIGHTS. -/
def Cap.withRights (c : Cap) (v : Nat) : Cap := c.put 64 16 v

/-- Request buffers of the pool (R65). -/
def bufferCount : Nat := 131072

/-- The entry the Steward allocates at boot for request buffer `b` of a pool at `base` (R65, R392). -/
def bufferEntry (base b : Nat) : Entry :=
  { base := base + 4096 * b + 32, ty := 1, valid := true, pegged := true, colour := 2, maxRights := 2 ^ rL }

/-- An entry that no command has changed since the boot's allocation, or since INIT: a request buffer's where the
Steward has allocated the run of them, else invalid with GEN 1 (R65, R195). -/
def State.freshEntry (s : State) (i : Nat) : Entry :=
  match s.registry.bufRun with
  | some (first, base) => if first ≤ i ∧ i < first + bufferCount then bufferEntry base (i - first) else {}
  | none => {}

/-- A Registry entry. -/
def State.entry (s : State) (i : Nat) : Entry := s.registry.entries.get (s.freshEntry i) i

/-- Writes a Registry entry. -/
def State.setEntry (s : State) (i : Nat) (e : Entry) : State :=
  { s with registry := { s.registry with entries := s.registry.entries.set i e } }

end Sys2Proof.Machine
end

