-- ==== Sys2Proof/Machine/Guard.lean ====
section
/-! DEFINITION. The Fabric Guard's decision of an access (R317-R328): the slots, the admissions, the
parts of an access, and the record of a refusal. Every slot bound and every page lies on a 4 KiB
boundary, so an access is cut at those boundaries and neighbouring pieces decided alike form a part. -/

namespace Sys2Proof.Machine

/-- A master's ID number and the colour it presents (R320). -/
structure Agent where
  id : Nat
  colour : Nat
  deriving DecidableEq, Repr

/-- The size of a page of the Guard. -/
def guardPage : Nat := 4096

/-- General DRAM (R17). -/
def inGeneralDram (a : Nat) : Bool := 0x100000000 ≤ a && a ≤ 0x2EFBFFFFF

/-- The fixed slot that covers an address (R317, R17, R18, R20); the Seal block is unassigned from +0x8000 up. -/
def fixedSlot (a : Nat) : Option Nat :=
  if a ≤ 0x1FFFF then some 0
  else if 0x10000000 ≤ a && a ≤ 0x107FFFFF then some 1
  else if 0x10800000 ≤ a && a ≤ 0x10FFFFFF then some 2
  else if 0x11000000 ≤ a && a ≤ 0x1103FFFF then some 3
  else if 0x20000000 ≤ a && a ≤ 0x20FFFFFF then
    (if a % 0x100000 < 0x80000 then some (4 + (a - 0x20000000) / 0x100000) else none)
  else if 0x30000000 ≤ a && a ≤ 0x3FFFFFFF then some 20
  else if 0x40000000 ≤ a && a ≤ 0x4000FFFF then some 21
  else if 0x40408000 ≤ a && a ≤ 0x404FFFFF then none
  else if 0x40010000 ≤ a && a ≤ 0x40EFFFFF then some (22 + (a - 0x40000000) / 0x100000)
  else if 0x2EFC00000 ≤ a && a ≤ 0x2EFFFFFFF then some 37
  else if 0x2F0000000 ≤ a && a ≤ 0x2F3FFFFFF then some 38
  else if 0x2F4000000 ≤ a && a ≤ 0x2FBFFFFFF then some 39
  else if 0x2FC000000 ≤ a && a ≤ 0x2FFFFFFFF then some 40
  else none

/-- A live partition slot covers an address (R319). -/
def State.partCovers (s : State) (a i : Nat) : Bool :=
  inGeneralDram a && s.fb .FG_LBASE_EN i &&
    decide (s.f .FG_LBASE_BASE i ≤ a / guardPage) && decide (a / guardPage ≤ s.f .FG_LLIMIT_LIMIT i)

/-- The slots that cover an address. -/
def State.slotsAt (s : State) (a : Nat) : List Nat :=
  match fixedSlot a with
  | some i => [i]
  | none => (numsFrom 42 8).filter (s.partCovers a)

/-- An address the map assigns (R17, R18); R20 marks 0x4040_8000 to 0x404F_FFFF and 0x40F0_0000 to 0x40FF_FFFF
unassigned. -/
def assigned (a : Nat) : Bool := (fixedSlot a).isSome || inGeneralDram a

/-- The eight colour slots (R317); slot 41 is the key path's. -/
def isColourSlot (i : Nat) : Bool := i = 41 || (43 ≤ i && i ≤ 49)

/-- Masters a slot's read column always admits (R317). -/
def alwaysRead (i : Nat) : Nat :=
  match i with
  | 3 | 28 | 35 => 2 ^ 32
  | 20 => 2 ^ 33 + 2 ^ 34 + 2 ^ 46 + 2 ^ 57
  | 37 => 2 ^ 33 + 2 ^ 46
  | 38 => 2 ^ 32 + 2 ^ 35 + 2 ^ 46
  | 39 => 2 ^ 45 + 2 ^ 46
  | 40 => 2 ^ 46 + 2 ^ 47
  | _ => 0

/-- Masters a slot's write column always admits (R317). -/
def alwaysWrite (i : Nat) : Nat :=
  match i with
  | 1 | 2 | 3 | 28 | 35 => 2 ^ 32
  | 20 => 2 ^ 34
  | 37 => 2 ^ 33 + 2 ^ 46
  | 38 => 2 ^ 32 + 2 ^ 46
  | 39 => 2 ^ 45 + 2 ^ 46
  | 40 => 2 ^ 46 + 2 ^ 47
  | _ => 0

/-- The read admissions in force of an identity slot (R317, R334). -/
def State.readMask (s : State) (i : Nat) : Nat :=
  alwaysRead i ||| (if bitmapRead i then s.f .FG_LRALLOW_ALLOW i else 0)

/-- The write admissions in force of an identity slot (R317, R334). -/
def State.writeMask (s : State) (i : Nat) : Nat :=
  alwaysWrite i ||| (if bitmapWrite i then s.f .FG_LWALLOW_ALLOW i else 0)

/-- The Darner's admissions (R323). -/
def darnerAdmitted (write : Bool) (i : Nat) : Bool :=
  (4 ≤ i && i ≤ 19) || (37 ≤ i && i ≤ 40) || (42 ≤ i && i ≤ 49) || (!write && (i ≤ 3 || i = 20))

/-- The colour of a page of general DRAM, latest range first (R322). -/
def colourIn (p : Nat) : List (Nat × Nat × Nat) → Nat
  | [] => 0
  | (first, count, c) :: l => if first ≤ p && p < first + count then c else colourIn p l

/-- The page number of an address in general DRAM (R322). -/
def pageOf (a : Nat) : Nat := (a - 0x100000000) / guardPage

/-- The page colour of an address. -/
def State.pageColour (s : State) (a : Nat) : Nat := colourIn (pageOf a) s.guard.pages

/-- The Guard's reasons for a refusal (R333 FG_LOG). -/
inductive Reason where
  | identity | colour | nomatch | overlap | unassigned
  deriving DecidableEq, Repr

/-- The REASON code of FG_LOG (R333). -/
def Reason.code : Reason → Nat
  | .identity => 1
  | .colour => 2
  | .nomatch => 3
  | .overlap => 4
  | .unassigned => 5

/-- What the Guard decides of one piece: admitted (by the default map or not), or refused with a reason
against a slot, 0x7F for none. -/
inductive Piece where
  | allow (soroz : Bool) (slot colour : Nat)
  | refuse (r : Reason) (slot colour : Nat)
  deriving DecidableEq, Repr

/-- A core at level M, the Steward among the masters the default map admits (R325). -/
def defaultMapAdmits (id : Nat) : Bool := 16 ≤ id && id ≤ 32

/-- The Guard's decision of the bytes at an address within one page (R324, R325, R322, R323); while debug is
locked, master 60 is refused in every slot (R409). -/
def State.guardPiece (s : State) (m : Agent) (write : Bool) (a : Nat) : Piece :=
  if !assigned a then .refuse .unassigned 0x7F 0
  else match s.slotsAt a with
    | [] =>
      if m.id = 46 then .allow false 0x7F 0
      else if s.fb .FG_CTRL_MODE && defaultMapAdmits m.id then .allow true 0x7F 0
      else .refuse .nomatch 0x7F 0
    | [i] =>
      if m.id = 60 && !s.fb .TT_DBG_UNLOCKED then .refuse .identity i 0
      else if isColourSlot i then
        let c := s.pageColour a
        if m.id = 46 || m.colour = c then .allow false i c else .refuse .colour i c
      else if m.id = 46 then
        if darnerAdmitted write i then .allow false i 0 else .refuse .identity i 0
      else if bitOf (if write then s.writeMask i else s.readMask i) m.id then .allow false i 0
      else .refuse .identity i 0
    | _ => .refuse .overlap 0x7F 0

/-- The Guard's decision of a key path access (R318, R322): slot 41 covers the key path space, every page of it of colour
15. -/
def keyPiece (m : Agent) (a : Nat) : Piece :=
  if 4194304 ≤ a then .refuse .unassigned 0x7F 0
  else if m.colour = 15 then .allow false 41 15 else .refuse .colour 41 15

/-- The Seal Engines' key path, while the job's key handle or target slot has passed its checks and otherwise (R320). -/
def keyAgent (passed : Bool) : Agent := ⟨44, if passed then 15 else 0⟩

/-- The key path reaches a key slot's page (R318). -/
def keyAdmits (passed : Bool) (k : Nat) : Bool :=
  match keyPiece (keyAgent passed) (4096 * k) with
  | .allow _ _ _ => true
  | .refuse _ _ _ => false

/-- The pieces of `n` bytes from `a`, cut at 4 KiB boundaries: the first byte of each. -/
def pieceStarts (a n : Nat) : List Nat :=
  if n = 0 then [] else
    a :: (numsFrom 1 ((a + n - 1) / guardPage - a / guardPage)).map fun i => (a / guardPage + i) * guardPage

/-- Pieces decided alike in a row form one part: the parts with their first bytes (R327). -/
def mergeParts : List (Nat × Piece) → List (Nat × Piece)
  | [] => []
  | (a, p) :: l =>
    match mergeParts l with
    | (b, q) :: r => if p = q then (a, p) :: r else (a, p) :: (b, q) :: r
    | [] => [(a, p)]

/-- The parts of an access with the Guard's decision of each. -/
def State.parts (s : State) (m : Agent) (write : Bool) (a n : Nat) : List (Nat × Piece) :=
  mergeParts ((pieceStarts a n).map fun b => (b, s.guardPiece m write b))

/-- What becomes of an access: admitted, held by an update, or refused at its lowest refused part. -/
inductive Verdict where
  | allow
  | hold
  | refuse (addr : Nat) (r : Reason)
  deriving DecidableEq, Repr

/-- Some byte of the access lies in the held set of an update (R327, R329). -/
def State.touchesHeld (s : State) (a n : Nat) : Bool :=
  match s.guard.held with
  | none => false
  | some l => l.any fun r => decide (r.1 < a + n) && decide (a ≤ r.2)

/-- A read of the Ledger window that touches the slot being written, which is held until the write-verify completes
(R94). -/
def State.touchesWrite (s : State) (write : Bool) (a n : Nat) : Bool :=
  match s.press.writing with
  | some w =>
    let b := 0x30000000 + 256 * (w.rec_.lsn % 1048576)
    !write && decide (b < a + n) && decide (a < b + 256)
  | none => false

/-- The lowest refused part. -/
def firstRefused : List (Nat × Piece) → Option (Nat × Reason × Nat)
  | [] => none
  | (a, .refuse r i _) :: _ => some (a, r, i)
  | (_, .allow _ _ _) :: l => firstRefused l

/-- The refused parts of an access, all of them. -/
def refusedParts (l : List (Nat × Piece)) : List Reason :=
  l.filterMap fun x => match x.2 with
    | .refuse r _ _ => some r
    | .allow _ _ _ => none

/-- The Guard's verdict on an access of `n` bytes at `a` (R324, R327, R329), and the Ledger window's hold (R94). -/
def State.verdict (s : State) (m : Agent) (write : Bool) (a n : Nat) : Verdict :=
  if s.touchesHeld a n then .hold
  else match firstRefused (s.parts m write a n) with
    | some (b, r, _) => .refuse b r
    | none => if s.touchesWrite write a n then .hold else .allow

/-- The Guard counts and records a decided access by master `id`: refused parts in FG_CNT and FG_LOG, an access
admitted by the default map in FG_CNT.SOROZ (R326, R333). -/
def State.noteParts (s : State) (id : Nat) (write fetch : Bool) (ps : List (Nat × Piece)) : State :=
  match firstRefused ps with
  | some (b, r, i) =>
    let s := s.bump .FG_CNT_REFUSED (refusedParts ps).length
    let s := s.bump .FG_CNT_OVERLAPS ((refusedParts ps).filter (· = .overlap)).length
    let s := (s.setF .FG_LOG_ADDR b).setF .FG_LOG_MASTER id
    let s := (s.setF .FG_LOG_REASON r.code).setF .FG_LOG_WRITE (b2n write)
    ((s.setF .FG_LOG_FETCH (b2n fetch)).setF .FG_LOG_SLOT i).setF .FG_LOG_VALID 1
  | none =>
    if ps.any fun x => match x.2 with | .allow b _ _ => b | .refuse _ _ _ => false
    then s.bump .FG_CNT_SOROZ else s

/-- The Guard's note of an access. -/
def State.guardNote (s : State) (m : Agent) (write fetch : Bool) (a n : Nat) : State :=
  s.noteParts m.id write fetch (s.parts m write a n)

/-! ## The Steward's own accesses -/

/-- The parts of an access of the Steward's firmware (R14): it uses a capability of each page's colour (R194, R320; log
entry 110). -/
def State.stewardParts (s : State) (write : Bool) (a n : Nat) : List (Nat × Piece) :=
  mergeParts ((pieceStarts a n).map fun b => (b, s.guardPiece ⟨32, s.pageColour b⟩ write b))

/-- The Guard admits an access of the Steward's firmware. -/
def State.stewardAdmits (s : State) (write : Bool) (a n : Nat) : Bool := (firstRefused (s.stewardParts write a n)).isNone

/-- The Guard's note of an access of the Steward's firmware. -/
def State.stewardNote (s : State) (write : Bool) (a n : Nat) : State := s.noteParts 32 write false (s.stewardParts write a n)

/-- The Steward's firmware writes bytes: nothing where the Guard refuses them (R14, R326). -/
def State.stewardStore (s : State) (a : Nat) (b : Bytes) : State :=
  let t := s.stewardNote true a b.length
  if s.stewardAdmits true a b.length then t.putBytes a b else t

/-- The target of an access lies in a colour slot (R171 check 8). -/
def State.inColourSlot (s : State) (a : Nat) : Bool :=
  match s.slotsAt a with
  | [i] => isColourSlot i
  | _ => false

/-- Master IDs of R320. -/
def stewardId : Nat := 32
def hamperAgent : Agent := ⟨33, 2⟩
def pressAgent : Agent := ⟨34, 3⟩
def watchAgent : Agent := ⟨35, 4⟩
def darnerAgent : Agent := ⟨46, 0⟩
def laneDmaAgent (p : Nat) : Agent := ⟨48 + p, 2⟩
def hostAgent : Agent := ⟨56, 6⟩
def archiveAgent : Agent := ⟨57, 3⟩
def loopAgent : Agent := ⟨58, 1⟩

/-- The tile of a core (R222). -/
def tileOf (k : Nat) : Nat := k / 8

/-- The master ID a core's accesses carry, with the colour they present (R320, R194). -/
def State.coreAgent (s : State) (k : Nat) (colour : Nat) : Agent :=
  ⟨if k = stewardCore then stewardId else if (s.core k).level = 2 then 16 + tileOf k else tileOf k, colour⟩

/-- The master that presents a control-space access (R320). -/
def State.masterAgent (s : State) (m : Master) : Agent :=
  match m with
  | .core k => s.coreAgent k.val 0
  | .dev id => ⟨id.val, 0⟩

/-- A master that presents no access to the address map: a core that is check-stopped (R292), the Seal Engines' key
path, which presents key path addresses alone (R318), and the IDs that are never presented (R320). -/
def State.silent (s : State) (m : Master) : Bool :=
  match m with
  | .core k => (s.core k.val).cstop
  | .dev id => id.val = 44 || decide (62 ≤ id.val)

/-- A master presents a write to a control-space register: it does `g` where the Fabric Guard admits it, waits
while an update holds, and is refused and counted otherwise (R7, R317, R324-R326). The exception that a core's own
refused access raises is the effect of the instruction that makes it (log entry 117). -/
def State.present (s : State) (m : Master) (a : Nat) (g : State → State) : State :=
  if s.silent m then s
  else match s.verdict (s.masterAgent m) true a 8 with
  | .allow => g (s.guardNote (s.masterAgent m) true false a 8)
  | .hold => s
  | .refuse _ _ => s.guardNote (s.masterAgent m) true false a 8

end Sys2Proof.Machine
end

