-- ==== Sys2Proof/Machine/Link.lean ====
section
/-! DEFINITION. What the device sends: the PLP link layer's transmit side (R66, R67, R69, R464),
management messages (R344), emergencies (R356). -/

namespace Sys2Proof.Machine

/-- A peer's link state. -/
def State.link (s : State) (p : Nat) : Link := s.hamper.links.get {} p

/-- Sets a peer's link state. -/
def State.setLink (s : State) (p : Nat) (l : Link) : State :=
  { s with hamper := { s.hamper with links := s.hamper.links.set p l } }

/-- A port that carries nothing: after a power-fail warning, and in Standby but for the CAN ports enabled in PW_WAKE
(R421, R422, R428). -/
def State.portDown (s : State) (port : Nat) : Bool :=
  s.press.parked || (s.inStandby && !((port = 10 && s.fb .PW_WAKE_CANA) || (port = 11 && s.fb .PW_WAKE_CANB)))

/-- A Lane Port that can carry a frame: enabled, its link up, not in its error state (R359, R365, R464). -/
def State.laneUp (s : State) (port : Nat) : Bool :=
  s.fb .P_CTRL_ENABLE port && !s.portDown port && !s.fb .P_STAT_FAULT port && !s.ports.laneDown.contains port

/-- A port's limiter has turned its drivers off (R387). -/
def State.isLimited (s : State) (port : Nat) : Bool := s.ports.limited.contains port

/-- A CAN port or sensor loop that runs: enabled, its drivers on, not bus-off (R359, R374, R385, R387). -/
def State.fieldUp (s : State) (port : Nat) : Bool :=
  s.fb .P_CTRL_ENABLE port && !s.portDown port && !s.isLimited port && s.ports.vex && !s.fb .P_STAT_FAULT port

/-- An IPv4 peer: its address is IPv4-mapped, first octet lowest (R353). -/
def isV4 (a : BitVec 128) : Bool := bitsOf a.toNat 0 96 = 0xFFFF * 2 ^ 80

/-- The envelope of a frame to a peer from a Lane Port (R66, R362): the port's own address of the peer's family, to the
addresses its latest frame came from; tagged with priority 0 when VLANEN is 1 (R360). -/
def State.envelope (s : State) (port peer : Nat) : Envelope :=
  let x := (s.link peer).src.getD ⟨0, 0, 0⟩
  let v4 := isV4 x.addr
  { dstMac := x.mac.toNat, srcMac := s.f .LP_MAC_MAC port, v6 := !v4
    srcAddr := if v4 then s.f .LP_IP4_ADDR port else s.f .LP_IP6LO_ADDR port + 2 ^ 64 * s.f .LP_IP6HI_ADDR port
    dstAddr := if v4 then x.addr.toNat / 2 ^ 96 else x.addr.toNat
    srcUdp := s.f .LP_CFG_UDPPORT port, dstUdp := x.udp.toNat
    vid := if s.fb .LP_CFG_VLANEN port then some (s.f .LP_CFG_VID port) else none, dontFragment := v4 }

/-- A frame leaves a Lane Port (R362, R365). -/
def State.sendPlp (s : State) (port peer : Nat) (f : Frame) : State :=
  (s.emit (.plp port peer (s.envelope port peer) f)).bump .LP_CNTTX_FRAMES 1 port

/-- The header with the link fields as they stand: LVALID, LACK, SACK (R60, R67). -/
def Link.ackFields (l : Link) (h : Hdr) : Hdr :=
  if l.known then
    { h with flags := BitVec.ofNat 8 (setBitOf h.flags.toNat 0),
             lack := BitVec.ofNat 16 l.lack, sack := BitVec.ofNat 16 l.sack }
  else h

/-- The outstanding frames a peer may have (R67). -/
def linkWindow : Nat := 16

/-- Puts a sequenced frame on the wire, or keeps it until a port can carry it (R464); LRST rides on
the first one sent to the peer since the Hamper was cleared (R69). -/
def State.transmit (s : State) (p port : Nat) (f : Frame) : State :=
  let l := s.link p
  let h := { f.hdr with
      flags := BitVec.ofNat 8 (if l.lrst then setBitOf f.hdr.flags.toNat 1 else f.hdr.flags.toNat),
      lseq := BitVec.ofNat 16 l.txseq }
  let f : Frame := { f with hdr := l.ackFields h }
  let up := s.laneUp port
  let s := if f.hdr.kind = 7 then s.charge (dmaMeter port) (32 + f.payload.length) else s
  let l := { l with
      txseq := (l.txseq + 1) % 65536, lrst := false, ackDue := if up then false else l.ackDue,
      out := l.out ++ [{ frame := f, port := port, sent := up, tries := 0 }] }
  let s := s.setLink p l
  if up then s.sendPlp port p f else s

/-- The Steward's own frame waits for the next tick: the port's DMA meter has no allowance left (R55, R44). -/
def State.holdOut (s : State) (p port : Nat) (f : Frame) : State :=
  ({ s with hamper := { s.hamper with heldOut := s.hamper.heldOut ++ [(p, f)] } }).noteHeld (dmaMeter port)

/-- A sequenced frame falls due to a peer (R66, R67): without a current port it is not sent; with 16
frames outstanding it waits. -/
def State.sendSeq (s : State) (p : Nat) (f : Frame) : State :=
  let l := s.link p
  match l.port with
  | none => s
  | some port =>
    if f.hdr.kind = 7 && s.exhausted (dmaMeter port) then s.holdOut p port f
    else if linkWindow ≤ l.out.length then s.setLink p { l with waiting := l.waiting ++ [f] }
    else s.transmit p port f

/-- Frames that waited go out as places free (R67), the Steward's where the DMA meter admits them (R55): at most 16 at a
time. -/
def State.sendWaiting (s : State) (p : Nat) : Nat → State
  | 0 => s
  | n + 1 =>
    let l := s.link p
    match l.port, l.waiting with
    | some port, f :: r =>
      if linkWindow ≤ l.out.length then s
      else
        let s := s.setLink p { l with waiting := r }
        (if f.hdr.kind = 7 && s.exhausted (dmaMeter port) then s.holdOut p port f else s.transmit p port f).sendWaiting p n
    | _, _ => s

/-- The Steward's frames that a DMA meter held are released (R46, R55). -/
def State.releaseOut (s : State) : State :=
  s.hamper.heldOut.foldl (fun (s : State) e => s.sendSeq e.1 e.2) { s with hamper := { s.hamper with heldOut := [] } }

/-- A link-only frame with the acknowledgement as it stands (R61, R67). -/
def State.sendLinkOnly (s : State) (p : Nat) : State :=
  let l := s.link p
  match l.port with
  | none => s
  | some port =>
    let s := s.setLink p { l with ackDue := false }
    if s.laneUp port then s.sendPlp port p ⟨l.ackFields (blankHdr 3), []⟩ else s

/-- LSEQ `q` is acknowledged by LACK and SACK (R60). -/
def acked (lack sack q : Nat) : Bool :=
  let d := (q + 65536 - lack) % 65536
  if d = 0 then false else if d ≤ 16 then bitOf sack (d - 1) else decide (32768 ≤ d)

/-- An acknowledgement from a peer frees the frames it names, and waiting frames go out (R67). -/
def State.takeAck (s : State) (p lack sack : Nat) : State :=
  let l := s.link p
  let s := s.setLink p { l with out := l.out.filter fun c => !acked lack sack c.frame.hdr.lseq.toNat }
  s.sendWaiting p linkWindow

/-! ## Management messages -/

/-- The bytes of a management message (R344). -/
def mgmtBytes (op flags index sub : Nat) (tag : BitVec 32) (ofs abort : Nat) (data : Bytes) : Bytes :=
  leBytes 1 op ++ leBytes 1 flags ++ leBytes 2 index ++ leBytes 1 sub ++ zeros 3 ++
  leBytes 4 tag.toNat ++ leBytes 4 ofs ++ leBytes 4 data.length ++ leBytes 4 abort ++ zeros 8 ++ data

/-- A management message in a PLP frame: KIND 7, every other header field zero but REPLYQ (R344). -/
def mgmtFrame (replyq : BitVec 16) (m : Bytes) : Frame :=
  ⟨{ blankHdr 7 with replyq := replyq, paylen := BitVec.ofNat 16 m.length }, m⟩

/-- A message for the mailbox, which waits until the device-to-host buffer is free (R367). -/
def State.mail (s : State) (m : Bytes) : State := { s with mailOut := s.mailOut ++ [m] }

/-- Outbound messages the Steward holds (R367). -/
def mailLimit : Nat := 16

/-- An EMCY or HEARTBEAT message for the mailbox: dropped and counted with 16 held (R367). -/
def State.mailNote (s : State) (m : Bytes) : State :=
  if mailLimit ≤ s.mailOut.length then s.bump .HP_CNT_DROPS else s.mail m

/-! ## Emergencies -/

/-- Object 0x1001: bit 0 any error, bit 7 a Moabo-specific error (R350). -/
def State.errorRegister (s : State) : Nat := if s.emcyOn.isEmpty then 0 else 0x81

/-- The CAN port numbers among the ports. -/
def canPort (c : CanPort) : Nat := 10 + c.val

/-- An EMCY on both CAN ports that run, on the mailbox and to every MGMT peer, entered in 0x1003 as the
newest of 16 (R356). -/
def State.sendEmcy (s : State) (code detail : Nat) : State :=
  let reg := s.errorRegister
  let s := { s with emcyLog := List.take 16 (Emcy.mk code detail :: s.emcyLog) }
  let s := if s.fieldUp 10 then s.emit (.canEmcy 0 code reg (detail % 2 ^ 40)) else s
  let s := if s.fieldUp 11 then s.emit (.canEmcy 1 code reg (detail % 2 ^ 40)) else s
  let m := mgmtBytes 0x90 0 0 0 0 0 (code + 65536 * reg) (leBytes 5 detail)
  let s := s.mailNote m
  (s.peers.entries.filter fun e => e.2.valid && e.2.mgmt).foldl (fun (s : State) e => s.sendSeq e.1 (mgmtFrame 0 m)) s

/-- A condition of R356 arises. -/
def State.emcy (s : State) (code detail : Nat) : State :=
  let s := { s with emcyOn := if s.emcyOn.contains code then s.emcyOn else code :: s.emcyOn }
  s.sendEmcy code detail

/-- A condition of R356 ends; error code 0x0000 is sent when none remains. -/
def State.emcyEnd (s : State) (code : Nat) : State :=
  if s.emcyOn.contains code then
    let s := { s with emcyOn := s.emcyOn.filter (· != code) }
    if s.emcyOn.isEmpty then s.sendEmcy 0 0 else s
  else s

/-! ## Answers -/

/-- The server instance's CAN port, if it is one. -/
def instCan (i : Inst) : Option CanPort :=
  match i with
  | .canA => some 0
  | .canB => some 1
  | _ => none

/-- The Steward's answer to a request: sent on the request's instance, and on the mailbox or to a peer
kept under its TAG (R344, R346, R347). `abort` is the abort code, or none. -/
def State.answer (s : State) (v : Serves) (op flags ofs : Nat) (abort : Option Nat) (data : Bytes) : State :=
  match v.inst with
  | none => s
  | some .canA => if s.fieldUp 10 then s.emit (.canSdo 0 v.index v.sub abort data) else s
  | some .canB => if s.fieldUp 11 then s.emit (.canSdo 1 v.index v.sub abort data) else s
  | some i =>
    let m := mgmtBytes op flags v.index v.sub v.tag ofs (abort.getD 0) data
    let kept := (s.tagLog.filter fun e => decide (e.1 = i)).take 15
    let others := s.tagLog.filter fun e => !decide (e.1 = i)
    let s := { s with tagLog := (i, v.tag, m) :: kept ++ others }
    match i with
    | .plp p => s.sendSeq p (mgmtFrame v.replyq m)
    | _ => s.mail m

/-- WRITE-OK (R344). -/
def State.writeOk (s : State) (v : Serves) : State := s.answer v 0x82 1 0 none []

/-- ABORT with a code (R344, R358). -/
def State.abortWrite (s : State) (v : Serves) (code : Nat) : State := s.answer v 0x8F 0 0 (some code) []

/-- READ-OK: data from an offset, FINAL when it reaches the end (R345). -/
def State.readOk (s : State) (v : Serves) (ofs : Nat) (final : Bool) (data : Bytes) : State :=
  s.answer v 0x81 (b2n final) ofs none data

end Sys2Proof.Machine
end

