-- ==== Sys2Proof/Machine/Hamper.lean ====
section
/-! DEFINITION. The Hamper's operations on sessions and windows (R60-R89): replies, the window check,
dispatch, handover, durability, discards, abandonment, rebuild. -/

namespace Sys2Proof.Machine

/-- A session. -/
def State.session (s : State) (n : Nat) : Session := s.hamper.sess.get {} n

/-- Sets a session. -/
def State.setSession (s : State) (n : Nat) (x : Session) : State :=
  { s with hamper := { s.hamper with sess := s.hamper.sess.set n x } }

/-- The 16 positions of a session, all absent where none was ever set (R74). -/
def Session.positions (x : Session) : List Pos :=
  x.pos ++ List.replicate (16 - x.pos.length) Pos.absent

/-- Position `d` (R74). -/
def Session.at (x : Session) (d : Nat) : Pos := x.pos.getD d .absent

/-- The session with position `d` set. -/
def Session.put (x : Session) (d : Nat) (p : Pos) : Session :=
  { x with pos := updateAt (fun _ => p) d x.positions }

/-- A position is in flight (R74). -/
def Pos.inFlight : Pos → Bool
  | .absent => false
  | _ => true

/-- The kinds of a class meter (R42). -/
def State.bulkClass (s : State) (k : Nat) : Bool := s.live .CLASS_CFG_KIND k = 1

/-- Some request of the session is in flight. -/
def Session.busy (x : Session) : Bool := x.pos.any Pos.inFlight

/-- The ledger-full condition (R76, R109, R117, R129, R411). -/
def State.ledgerFull (s : State) : Bool :=
  s.fb .PR_STAT_FULL || s.fb .PR_STAT_SEALED || s.fb .PR_STAT_LFAULT || s.press.tampering

/-- HM_STAT.READY: enabled, and no rebuild running (R90). -/
def State.hamperReady (s : State) : Bool := s.fb .HM_CTRL_ENABLE && !s.hamper.rebuilding

/-- METER of a reply: the class's remaining dispatches, saturated at 254; 255 unlimited (R60). -/
def State.meterField (s : State) (cls : Nat) : Nat :=
  if s.unlimited (.dispatches cls) then 255 else min (s.remain (.dispatches cls)) 254

/-- The counter a reply code raises (R90). -/
def replyCounter (code : Nat) : Option Fld :=
  match code with
  | 2 => some .HM_CNTREP_ACKDUP
  | 9 => some .HM_CNTNACK_NACKFULL
  | 10 => some .HM_CNTNACK_NACKBUSY
  | 11 => some .HM_CNTNACK_NACKSEQ
  | 12 => some .HM_CNTNACK_NACKREJ
  | _ => none

/-- A reply frame to the frame that caused it (R75, R60). -/
def State.replyHdr (s : State) (h : Hdr) (code lsn outcome : Nat) : Hdr :=
  { blankHdr 2 with
    session := h.session, epoch := h.epoch, reqid := h.reqid, cls := h.cls, deadline := h.deadline,
    retry := h.retry, replyq := h.replyq, meter := BitVec.ofNat 8 (s.meterField h.cls.toNat),
    code := BitVec.ofNat 8 (code + 16 * outcome), handle := BitVec.ofNat 64 lsn }

/-- Sends a reply and counts it (R75, R90). -/
def State.reply (s : State) (peer : Nat) (h : Hdr) (code : Nat) (lsn outcome : Nat := 0) : State :=
  let s' := match replyCounter code with
    | some c => s.bump c
    | none => s
  s'.sendSeq peer ⟨s.replyHdr h code lsn outcome, []⟩

/-- A session status frame (R460). -/
def State.status (s : State) (peer : Nat) (h : Hdr) (code epoch reqid : Nat) : State :=
  s.sendSeq peer ⟨{ blankHdr 6 with
    session := h.session, replyq := h.replyq, code := BitVec.ofNat 8 code,
    epoch := BitVec.ofNat 16 epoch, reqid := BitVec.ofNat 32 reqid }, []⟩

/-- A BUSY status: epoch and NEXT only to the peer that owns the open session (R460). -/
def State.statusBusy (s : State) (peer : Nat) (h : Hdr) : State :=
  let x := s.session h.session.toNat
  if x.isOpen && x.peer = peer then s.status peer h 3 x.epoch x.next else s.status peer h 3 0 0

/-! ## Request buffers -/

/-- The lowest free buffer among `n` candidates from `b` (log entry 10). -/
def State.firstFree (s : State) (b : Nat) : Nat → Option Nat
  | 0 => none
  | n + 1 => if (s.hamper.bufs.find b).isNone then (if b < bufferCount then some b else none)
             else s.firstFree (b + 1) n

/-- A free request buffer, if there is one (R74). -/
def State.freeBuffer (s : State) : Option Nat := s.firstFree 0 (s.hamper.bufs.entries.length + 1)

/-- The address of a request buffer (R90). -/
def State.bufAddr (s : State) (b : Nat) : Nat := s.f .HM_BUFBASE_BASE * 2 ^ 29 + 4096 * b

/-- Marks a buffer. -/
def State.setBuf (s : State) (b : Nat) (x : BufState) : State :=
  { s with hamper := { s.hamper with bufs := s.hamper.bufs.set b x } }

/-- What becomes of a received frame's write into a request buffer (R65, R326, R329): the lowest free buffer takes it,
none is free, the Guard refuses it, or it waits at the Guard. -/
inductive Landing where
  | lands (b : Nat)
  | noBuffer
  | refused (b : Nat)
  | waits
  deriving DecidableEq, Repr

/-- The Guard's decision of the port's DMA channel writing a received frame into a free buffer (R65, R320). -/
def State.landing (s : State) (i : InFrame) : Landing :=
  match s.freeBuffer with
  | none => .noBuffer
  | some b => match s.verdict (laneDmaAgent i.port) true (s.bufAddr b) (32 + i.frame.payload.length) with
    | .allow => .lands b
    | .hold => .waits
    | .refuse _ _ => .refused b

/-- A received frame's write into a buffer, which stays free unless the frame is queued (R65). -/
def State.landFrame (s : State) (i : InFrame) (l : Landing) : State :=
  match l with
  | .lands b => s.putBytes (s.bufAddr b) (hdrBytes i.frame.hdr ++ i.frame.payload)
  | .refused b => s.guardNote (laneDmaAgent i.port) true false (s.bufAddr b) (32 + i.frame.payload.length)
  | _ => s

/-- Frees a request's buffer: it waits for its RECYCLE (R65). -/
def State.freeReq (s : State) (r : Req) : State := s.setBuf r.buf .recycleDue

/-! ## Dispatch -/

/-- The session takes its place among those held by its task queue or by a dispatch meter (R44, R74). -/
def State.holdSession (s : State) (n : Nat) : State :=
  if s.hamper.heldSess.contains n then s
  else { s with hamper := { s.hamper with heldSess := s.hamper.heldSess ++ [n] } }

/-- The session is no longer held. -/
def State.unholdSession (s : State) (n : Nat) : State :=
  { s with hamper := { s.hamper with heldSess := removeNum n s.hamper.heldSess } }

/-- The payload capability of R64: covers PAYLEN bytes, L alone, colour 2; null when PAYLEN is 0. -/
def State.payloadCap (s : State) (r : Req) : Cap :=
  if r.hdr.paylen = 0 then nullCap
  else
    let i := s.f .HM_BUFIDX_FIRST + r.buf
    mkCap i (s.entry i).gen (2 ^ rL) 2 0 0

/-- The capability of R62 that a HANDLE names; null when it is zero. -/
def State.handleCap (s : State) (r : Req) : Cap :=
  let x := r.hdr.handle.toNat
  if x = 0 then nullCap
  else mkCap (bitsOf x 0 22) (bitsOf x 22 16) (s.peers.get {} r.peer).rights 0 (bitsOf x 38 16) 0

/-- The entry a request makes on its class task queue (R64). -/
def State.dispatchEntry (s : State) (r : Req) : QEnt :=
  ⟨granules 2 (hdrBytes r.hdr) ++ [s.payloadCap r, s.handleCap r], .device, false⟩

/-- A class's task queue (R74, log entry 8). -/
def taskQueue (cls : Nat) : Nat := (Config.classQueue cls).val

/-- try_dispatch of R74: position 0 goes to its class task queue if SETLIM has completed (R65), the
class's dispatch meter admits it, and the queue has a free place; otherwise nothing is charged. -/
def State.tryDispatch (s : State) (n : Nat) : State :=
  let x := s.session n
  match x.at 0 with
  | .queued r =>
    let cls := r.hdr.cls.toNat % 64
    if !(r.lim || r.hdr.paylen = 0) then s
    else if s.exhausted (.dispatches cls) then (s.noteHeld (.dispatches cls)).holdSession n
    else if s.freePlaces (taskQueue cls) = 0 then s.holdSession n
    else
      let e := s.dispatchEntry r
      let s := (s.charge (.dispatches cls) 1).addEntry (taskQueue cls) e
      (s.setSession n { x.put 0 (.dispatched r) with timer := false }).unholdSession n
  | _ => s

/-- The request held in position 0 of a session belongs to a Bulk class (R42, R46). -/
def State.heldBulk (s : State) (n : Nat) : Bool :=
  match (s.session n).at 0 with
  | .queued r => s.bulkClass (r.hdr.cls.toNat % 64)
  | _ => false

/-- try_dispatch for the sessions of a list. -/
def State.dispatchEach (s : State) (l : List Nat) : State := l.foldl State.tryDispatch s

/-- At a boundary the held dispatches are released, those of Tick classes first, in the order in which they were held
(R46, R74). -/
def State.dispatchAll (s : State) : State :=
  let l := s.hamper.heldSess
  (s.dispatchEach (l.filter fun n => !s.heldBulk n)).dispatchEach (l.filter s.heldBulk)

/-! ## The window -/

/-- The abandon timer starts once NEXT is absent and a higher ID has been received (R82; log entry 120). -/
def Session.startTimer (x : Session) : Session :=
  if x.at 0 == Pos.absent && decide (0 < x.ahead) && x.closing.isNone then { x with timer := true } else x

/-- d of R74: REQID less NEXT as a signed 32-bit number. -/
def windowOffset (next reqid : Nat) : Int := toSigned 32 ((reqid + 2 ^ 32 - next) % 2 ^ 32)

/-- The Reply Log entry of an ID (R74). -/
def Session.logFind (x : Session) (id : Nat) : Option LogE := x.log.find? fun e => e.id = id

/-- A new request takes position `d` with its buffer, arrival tick and deadline (R74, R34). -/
def State.queueRequest (s : State) (n d : Nat) (i : InFrame) (b : Nat) : State :=
  let x := s.session n
  let r : Req := { hdr := i.frame.hdr, peer := i.peer, buf := b, arrival := s.tickNo,
                   deadline := s.tickNo + i.frame.hdr.deadline.toNat }
  let x' := { x.put d (.queued r) with ahead := max x.ahead d }
  (s.setSession n x'.startTimer).tryDispatch n

/-- on_request of R74, for a frame whose write into a buffer the Guard has decided. -/
def State.onRequest (s : State) (i : InFrame) (l : Landing) : State :=
  let h := i.frame.hdr
  let n := h.session.toNat
  let x := s.session n
  if !s.hamperReady then s.reply i.peer h 10
  else if !x.isOpen || x.peer != i.peer || h.epoch.toNat != x.epoch then s.reply i.peer h 11
  else
    let d := windowOffset x.next h.reqid.toNat
    if d < -48 || d > 15 then s.reply i.peer h 11
    else if d < 0 then
      match x.logFind h.reqid.toNat with
      | none => s.reply i.peer h 11
      | some e => s.reply i.peer h 2 e.lsn e.outcome
    else if x.closing.isSome && d > 0 then s.reply i.peer h 11
    else if (x.at d.toNat).inFlight then s.bump .HM_CNTDROP_DUPDROP
    else if s.ledgerFull then s.reply i.peer h 9
    else match l with
      | .lands b => (s.setBuf b .held).queueRequest n d.toNat i b
      | .refused _ => (s.reply i.peer h 10).bump .HM_CNTDISC_FAULTDISC
      | _ => s.reply i.peer h 10

/-- on_handover of R74: the Press has taken the record of position 0. -/
def State.onHandover (s : State) (n : Nat) (r : Req) : State :=
  s.setSession n ((s.session n).put 0 (.committing (some r)))

/-- The Reply Log keeps the newest 48 outcomes (R74). -/
def logInsert (x : Session) (e : LogE) : Session := { x with log := List.take 48 (e :: x.log) }

/-- The request that a position holds. -/
def Pos.req : Pos → Option Req
  | .absent => none
  | .queued r | .dispatched r => some r
  | .committing r => r

/-- on_durable of R74: the record of ID NEXT of session `n` is durable with the outcome and LSN. The request that
position 0 holds ends with it: the committing one, or, where a rebuild has come between (R88), its re-issue. A Closed
record closes the session instead, and CLOSED is sent (R72). -/
def State.onDurable (s : State) (n outcome lsn : Nat) : State :=
  let x := s.session n
  match x.closing with
  | some h =>
    (s.setSession n { x with isOpen := false, pos := [], log := [], timer := false, closing := none }).status
      x.peer h 1 x.epoch x.next
  | none =>
    let y := logInsert x ⟨x.next, outcome, lsn⟩
    let s := match (x.at 0).req with
      | some r =>
        let s := if outcome = 1 then s.reply r.peer r.hdr 1 lsn
                 else if outcome = 2 then s.reply r.peer r.hdr 12 lsn else s
        s.freeReq r
      | none => s
    let y := { y with next := (x.next + 1) % 2 ^ 32, pos := (x.positions.drop 1) ++ [Pos.absent]
                      ahead := x.ahead - 1, timer := false }
    ((s.unholdSession n).setSession n y.startTimer).tryDispatch n

/-! ## Discards -/

/-- Position `d` becomes absent and its buffer is freed. -/
def State.dropPos (s : State) (n d : Nat) (r : Req) : State :=
  let x := (s.session n).put d .absent
  if d = 0 then ((s.setSession n x.startTimer).freeReq r).unholdSession n else (s.setSession n x).freeReq r

/-- A queued or dispatched request is discarded at its deadline (R79). -/
def State.discardLate (s : State) (n d : Nat) : State :=
  match (s.session n).at d with
  | .queued r | .dispatched r =>
    if r.deadline < s.tickNo then
      ((s.dropPos n d r).reply r.peer r.hdr 8).bump .HM_CNTREP_NACKLATE
    else s
  | _ => s

/-- Every request past its deadline is discarded, session by session and position by position (R79). -/
def State.discardAllLate (s : State) : State :=
  s.hamper.sess.keys.foldl (fun s n => (numsFrom 0 16).foldl (fun s d => State.discardLate s n d) s) s

/-- A request is discarded by a fault: NACK-BUSY, counted in FAULTDISC (R81). -/
def State.discardFault (s : State) (n d : Nat) (r : Req) : State :=
  ((s.dropPos n d r).reply r.peer r.hdr 10).bump .HM_CNTDISC_FAULTDISC

/-- The request a task holds dispatched, if session `n` has it in position 0. -/
def State.heldBy (s : State) (n t : Nat) : Option Req :=
  match (s.session n).at 0 with
  | .dispatched r => if r.task = some t then some r else none
  | _ => none

/-- A task that stops loses the dispatched requests it holds (R81). -/
def State.discardTask (s : State) (t : Nat) : State :=
  s.hamper.sess.keys.foldl (fun s n => match s.heldBy n t with
    | some r => s.discardFault n 0 r
    | none => s) s

/-- A task has taken the entry of session `n`'s dispatched request from its task queue (R104 check 4); the entry of a
request discarded before (R79) stays on the queue and is not taken for a re-issue's (log entry 19). -/
def State.noteTaken (s : State) (t : Nat) (h : Hdr) : State :=
  let n := h.session.toNat
  let x := s.session n
  match x.at 0 with
  | .dispatched r =>
    if x.isOpen && r.hdr = h && r.task.isNone then
      s.setSession n (x.put 0 (.dispatched { r with task := some t }))
    else s
  | _ => s

/-- An abandon record is handed to the Press: position 0 is committing (R72, R82). -/
def State.abandonRecord (s : State) (n reason : Nat) : State :=
  let x := s.session n
  let t : Stamp := { session := n, epoch := x.epoch, reqid := x.next, peer := x.peer, cls := 0, retry := 0,
                     deadline := 0, task := 0, reason := reason, arrival := 0, handtick := s.tickNo }
  { s.setSession n { x.put 0 (.committing none) with timer := false } with
    press := { s.press with devSlots := s.press.devSlots ++ [{ body := .abandon t, src := .abandonRec n }] } }

/-- An abandon record that can never be written is withdrawn; a close in progress is answered BUSY
(R83, R72). -/
def State.withdraw (s : State) (n : Nat) : State :=
  let x := s.session n
  match x.at 0, x.closing with
  | .committing none, some h =>
    (s.setSession n { x.put 0 .absent with closing := none }).statusBusy x.peer h
  | .committing none, none => s.setSession n (x.put 0 .absent).startTimer
  | _, _ => s

/-- Every abandon record not yet durable is withdrawn (R83). -/
def State.withdrawAll (s : State) : State := s.hamper.sess.keys.foldl State.withdraw s

/-! ## Rebuild -/

/-- A held buffer waits for its RECYCLE. -/
def BufState.release : BufState → BufState
  | .held => .recycleDue
  | x => x

/-- All sessions closed, all Reply Logs empty, every request lost without reply (R88, R83). -/
def State.closeAll (s : State) : State :=
  let h := s.hamper
  { s with hamper := { h with
      sess := emptyMap, heldSess := [], bufs := h.bufs.mapVal BufState.release } }

/-- The stamp and outcome of an accept, reject or abandon record (R88). -/
def Body.terminal : Body → Option (Stamp × Nat)
  | .accept t _ => some (t, 1)
  | .reject t _ => some (t, 2)
  | .abandon t => some (t, 3)
  | _ => none

/-- What the rebuild knows of a session: restored, and whether it is done with it (R88). -/
structure Rebuilt where
  sess : Session
  done : Bool
  deriving DecidableEq, Repr

/-- One record of the rebuild's loop, newest first (R88). -/
def rebuildRec (m : AMap Nat Rebuilt) (r : Rec) : AMap Nat Rebuilt :=
  match r.body.terminal with
  | none => m
  | some (t, outcome) =>
    match m.find t.session with
    | none =>
      if outcome = 3 && t.reason = 2 then m.set t.session ⟨{}, true⟩
      else
        let x : Session := { isOpen := true, peer := t.peer, epoch := t.epoch
                             next := (t.reqid + 1) % 2 ^ 32, log := [⟨t.reqid, outcome, r.lsn⟩] }
        m.set t.session ⟨x, false⟩
    | some b =>
      if b.done then m
      else if t.epoch = b.sess.epoch && (b.sess.next + 2 ^ 32 - t.reqid) % 2 ^ 32 ≤ 48 then
        m.set t.session { b with sess := { b.sess with log := b.sess.log ++ [⟨t.reqid, outcome, r.lsn⟩] } }
      else m.set t.session { b with done := true }

/-- The sessions a rebuild restores from the ring (R88, R89): slots the validity map marks as failing
are skipped. -/
def State.rebuilt (s : State) : AMap Nat Rebuilt :=
  (s.newestFirst.filter fun r => s.press.valid.contains (slotIndex r.lsn)).foldl rebuildRec emptyMap

/-- The epoch of a session's newest record in the ring (R71). -/
def State.lastEpoch (s : State) (n : Nat) : Option Nat :=
  (s.newestFirst.filterMap fun r => r.body.terminal).findSome? fun x =>
    if x.1.session = n then some x.1.epoch else none

end Sys2Proof.Machine
end

