-- ==== Sys2Proof/Machine/CapCheck.lean ====
section
/-! DEFINITION. The ordered checks of an access through a capability (R171-R173), and Registry fills
(R168, R169). -/

namespace Sys2Proof.Machine

/-- The faults of R171, in the order of its checks; the tenth is the Guard's. -/
inductive CFault where
  | tag | format | sealed | index | generation (check : Nat) | rights | bounds | colour | tagStore
  | guard | refusal
  deriving DecidableEq, Repr

/-- The order number of the failing check (R171, R222 FINFO). -/
def CFault.check : CFault → Nat
  | .tag => 1
  | .format => 2
  | .sealed => 3
  | .index => 4
  | .generation n => n
  | .rights => 6
  | .bounds => 7
  | .colour => 8
  | .tagStore => 9
  | .guard => 10
  | .refusal => 10

/-- The kinds of access of R172, of R178 to R182, and of R253 and R261. -/
inductive AccKind where
  | load | store | fetch | capLoad | capStore (tagged lacksG : Bool)
  | enq | deq | derive_ | sealAuth | unsealAuth
  /-- Element accesses of block-repeat and vector instructions (R253, R261). -/
  | blkLoad | elemLoad | elemStore
  deriving DecidableEq, Repr

/-- A data store of any form. -/
def AccKind.isWrite : AccKind → Bool
  | .store | .capStore _ _ | .elemStore => true
  | _ => false

/-- The entry TYPEs an access kind admits (R172, R166, R181). -/
def AccKind.typeOk (k : AccKind) (ty : Nat) : Bool :=
  match k with
  | .load => ty = 1 || ty = 2 || ty = 5
  | .store => ty = 1 || ty = 5
  | .fetch => ty = 2
  | .capLoad => ty = 1
  | .capStore _ _ => ty = 1
  | .enq => ty = 3
  | .deq => ty = 3
  | .derive_ => ty = 1 || ty = 2
  | .sealAuth => ty = 4
  | .unsealAuth => ty = 4
  | .blkLoad => ty = 1 || ty = 2
  | .elemLoad => ty = 1
  | .elemStore => ty = 1

/-- The rights an access kind needs, as a mask (R172, R179, R181). -/
def AccKind.needs : AccKind → Nat
  | .load => 2 ^ rL
  | .store => 2 ^ rS
  | .fetch => 2 ^ rX
  | .capLoad => 2 ^ rL
  | .capStore tagged lacksG => 2 ^ rS + (if tagged then 2 ^ rSC + (if lacksG then 2 ^ rSL else 0) else 0)
  | .enq => 2 ^ rS
  | .deq => 2 ^ rL
  | .derive_ => 2 ^ rDR
  | .sealAuth => 2 ^ rSE
  | .unsealAuth => 2 ^ rUS
  | .blkLoad => 2 ^ rL
  | .elemLoad => 2 ^ rL
  | .elemStore => 2 ^ rS

/-- S, SC and SL, which a LEDGERONLY entry withholds from all but the Steward (R173). -/
def ledgerRights : Nat := 2 ^ rS + 2 ^ rSC + 2 ^ rSL

/-- The effective rights (R173). -/
def effRights (c : Cap) (e : Entry) (steward : Bool) : Nat :=
  let r := c.rights &&& e.maxRights
  if e.ledgerOnly && !steward then r &&& (0xFFFF - ledgerRights) else r

/-- Checks 1 to 3: tag, format, seal (R171); `sealedOk` for the operands R181 and R182 allow sealed. -/
def checks123 (c : Cap) (sealedOk : Bool) : Option CFault :=
  if !c.tag then some .tag
  else if c.reserved != 0 || c.rights ≥ 2 ^ 11 then some .format
  else if !sealedOk && c.sealType != 0 then some .sealed
  else none

/-- The effective offset: OFFSET plus the displacement, signed (R173). -/
def effOffset (c : Cap) (disp : Int) : Int := (c.offset : Int) + disp

/-- The physical address of an effective offset (R173). -/
def physAddr (e : Entry) (ofs : Int) : Nat := (e.base + ofs).toNat % 2 ^ 40

/-- Checks 5 to 7: generation, type and rights, alignment and bounds (R171). A size of 0 asks for no
bytes. -/
def checks567 (c : Cap) (e : Entry) (steward : Bool) (k : AccKind) (ofs : Int) (size : Nat) : Option CFault :=
  if c.gen != e.gen then some (.generation 5)
  else if !k.typeOk e.ty then some .rights
  else if effRights c e steward &&& k.needs != k.needs then some .rights
  else if (k = .capLoad || (match k with | .capStore _ _ => true | _ => false)) && ofs % 16 != 0 then some .bounds
  else if (k = .enq || k = .deq) && ofs != 0 then some .bounds
  else if ofs < 0 || ofs + size > e.limit + 1 then some .bounds
  else none

/-- Check 8: in a colour slot the capability claims the entry's colour (R171, R194). Where an access runs from one slot
into another, its first byte tells which slot the target lies in (DESIGN CHOICE, log entry 121). -/
def State.check8 (s : State) (c : Cap) (e : Entry) (a : Nat) : Option CFault :=
  if s.inColourSlot a && c.colour != e.colour then some .colour else none

/-- Check 9: a tagged value is stored only where tags are held (R171, R161). -/
def check9 (k : AccKind) (a : Nat) : Option CFault :=
  match k with
  | .capStore true _ => if hasTags a then none else some .tagStore
  | _ => none

/-- Checks 5 to 9 of an access to memory. -/
def State.checks59 (s : State) (c : Cap) (e : Entry) (steward : Bool) (k : AccKind) (ofs : Int) (size : Nat) :
    Option CFault :=
  (checks567 c e steward k ofs size).or ((s.check8 c e (physAddr e ofs)).or (check9 k (physAddr e ofs)))

/-! ## Fills -/

/-- A tile's Registry cache; the Steward has none (R168). -/
def State.tileFind (s : State) (k i : Nat) : Option CEntry :=
  if k = stewardCore then none else (s.registry.tile.get [] (tileOf k)).find? fun e => e.index = i

/-- An ancestor as a fill for core `k` reads it: the tile cache's copy where it has one, else the Registry's (R168). -/
def State.ancestorRead (s : State) (k i : Nat) : Entry := ((s.tileFind k i).map CEntry.entry).getD (s.entry i)

/-- The ancestors of an entry, nearest first, or none where the chain fails (R168); at most three. -/
def State.ancestry (s : State) (k : Nat) (e : Entry) : Nat → Option (List Nat)
  | 0 => some []
  | n + 1 =>
    if e.depth = 0 then some []
    else
      let p := s.ancestorRead k e.parent
      if !p.valid || p.gen != e.pgen then none
      else (s.ancestry k p n).map fun l => e.parent :: l

/-- What a fill of an INDEX for core `k` yields: the cached copy, or the fault it completes with (R168, R171 check 4,
R196 RW_CTRL.ENABLE). -/
def State.fillOf (s : State) (k i : Nat) : Except FillFail CEntry :=
  let e := s.entry i
  if !s.fb .RW_CTRL_ENABLE || i = 0 || !e.valid || e.quar then .error .index
  else match s.ancestry k e 3 with
    | none => .error .generation
    | some l => .ok ⟨i, e, l⟩

/-- The Walker holds an INDEX: fills for it wait (R184). -/
def State.indexHeld (s : State) (i : Nat) : Bool :=
  match s.registry.cmd with
  | some r => r.cmd.index = i
  | none => false

/-- The fault of a failed fill (R168, R171 check 4). -/
def FillFail.fault : FillFail → CFault
  | .index => .index
  | .generation => .generation 4

end Sys2Proof.Machine
end

