-- ==== Sys2Proof/Machine/Seal.lean ====
section
/-! DEFINITION. The Seal Engines and the key store (R145-R155, R463): choice of jobs, checks at the
start of a job, the operations, completions. -/

namespace Sys2Proof.Machine

/-- A Seal Engine. -/
def State.engine (s : State) (e : Nat) : EngineS := s.seals.eng.get {} e

/-- Sets a Seal Engine. -/
def State.setEngine (s : State) (e : Nat) (x : EngineS) : State :=
  { s with seals := { s.seals with eng := s.seals.eng.set e x } }

/-- A key slot. -/
def State.key (s : State) (k : Nat) : KeySlot := s.seals.keys.get {} k

/-- Sets a key slot. -/
def State.setKey (s : State) (k : Nat) (x : KeySlot) : State :=
  { s with seals := { s.seals with keys := s.seals.keys.set k x } }

/-- SE_STAT.READY (R157). -/
def State.engineReady (s : State) (e : Nat) : Bool :=
  s.fb .SE_CTRL_ENABLE e && !s.fb .SE_CTRL_OFFLINE e && !s.fb .SE_STAT_FAULT e

/-- The length of an engine's queue: descriptors waiting, plus one when a job runs (R154). -/
def State.queueLen (s : State) (e : Nat) : Nat :=
  (s.engine e).queue.length + (if (s.engine e).running.isSome then 1 else 0)

/-- Places of a Seal queue, and those not kept for the Press and the Steward (R131). -/
def sealDepth : Nat := 256
def sealTaskDepth : Nat := 240

/-- The READY engine with the shortest queue among those given, the first of equals (R154). -/
def State.shortest (s : State) : List Nat → Option Nat
  | [] => none
  | e :: l =>
    match s.shortest l with
    | none => if s.engineReady e then some e else none
    | some b => if s.engineReady e && decide (s.queueLen e ≤ s.queueLen b) then some e else some b

/-- Some engine is READY. -/
def State.anyReady (s : State) : Bool := (s.shortest (numsFrom 0 8)).isSome

/-- Press jobs that wait go to the engine with the shortest queue, where a place is free (R154, R463). -/
def State.assignJobs (s : State) : List PressJob → State
  | [] => s
  | j :: l =>
    match s.shortest (numsFrom 0 8) with
    | none => { s with press := { s.press with jobs := s.press.jobs ++ j :: l } }
    | some e =>
      if (s.engine e).queue.length < sealDepth then
        let x := s.engine e
        (s.setEngine e { x with queue := x.queue ++ [.press j] }).assignJobs l
      else { s with press := { s.press with jobs := s.press.jobs ++ j :: l } }

/-- The result of the last key command, 0x2C20:03 (R351). -/
def State.keyResult (s : State) (code : Nat) : State :=
  { s with dict := { s.dict with vals := s.dict.vals.set (0x2C20, 3) [BitVec.ofNat 8 code] } }

/-- The slot of a key command (R351). -/
def keyCmdSlot (v : Nat) : Nat := bitsOf v 8 10

/-- A key command ends without effect: its slot keeps the type, owner domain and VOLATILE flag it had, and the write
aborts (R463). -/
def State.dropKeyJob (s : State) (j : KeyJob) : State :=
  let k := keyCmdSlot j.cmd
  let s := s.setKey k { s.key k with ty := j.old.ty, owner := j.old.owner, isVolatile := j.old.isVolatile }
  (s.keyResult 13).abortWrite j.serves 0x08000000

/-- Key commands' jobs that wait go to the READY engine with the shortest queue, among `l`, where a place is free; with
no engine READY they end (R463). -/
def State.assignKeys (s : State) (l : List Nat) : List KeyJob → State
  | [] => s
  | j :: r =>
    match s.shortest l with
    | none => (s.dropKeyJob j).assignKeys l r
    | some e =>
      if (s.engine e).queue.length < sealDepth then
        (s.setEngine e { s.engine e with queue := (s.engine e).queue ++ [.key j] }).assignKeys l r
      else { s with seals := { s.seals with keyJobs := s.seals.keyJobs ++ j :: r } }

/-- The Press sends its waiting jobs, and the Steward its own (R154, R463). -/
def State.sendJobs (s : State) : State :=
  let l := s.press.jobs
  let s := ({ s with press := { s.press with jobs := [] } }).assignJobs l
  let r := s.seals.keyJobs
  ({ s with seals := { s.seals with keyJobs := [] } }).assignKeys (numsFrom 0 8) r

/-! ## The order of service -/

/-- An item's group in the order of R46: 0 Press and Steward, 1 Tick-class, 2 Bulk-class. -/
def State.itemGroup (s : State) : SealItem → Nat
  | .press _ => 0
  | .key _ => 0
  | .desc e => match e.by_ with
    | .task t _ => if (s.task t).isBulk then 2 else 1
    | _ => 0

/-- A task's item, which the engine's meter charges and may hold (R154, R45). -/
def SealItem.isTask : SealItem → Bool
  | .desc e => match e.by_ with
    | .task _ _ => true
    | _ => false
  | .press _ => false
  | .key _ => false

/-- An item that may be taken now: a task's item only while the meter admits it (R154). -/
def State.takable (s : State) (e : Nat) (i : SealItem) : Bool := !i.isTask || s.admits (.eng e)

/-- The next item of an engine's queue in the order of R46, and the queue without it. -/
def State.nextItem (s : State) (e : Nat) : Option (SealItem × List SealItem) :=
  let q := (s.engine e).queue
  let pick (n : Nat) := takeFirst (fun i => s.takable e i && s.itemGroup i = n) q
  (pick 0).or ((pick 1).or (pick 2))

/-- The CODE of an item (R145). -/
def SealItem.code : SealItem → Nat
  | .press j => if j.isEd then 2 else 4
  | .key j => 15 + j.cmd % 256
  | .desc e => e.hdr.code.toNat

/-! ## Descriptors and operands -/

/-- A job descriptor as R147 lays it out. -/
structure SealDesc where
  hdr : Hdr
  by_ : Submitter
  keyh : Nat
  len0 : Nat
  ctxlen : Nat
  dstSlot : Nat
  dstType : Nat
  rsv : Nat
  ops : List Cap
  deriving DecidableEq, Repr

/-- A queue entry read as a job descriptor (R147). -/
def sealDesc (e : QEnt) : SealDesc :=
  let p := e.payload
  { hdr := e.hdr, by_ := e.by_, keyh := fieldAt p 0 8, len0 := fieldAt p 8 4, ctxlen := fieldAt p 12 1
    dstSlot := fieldAt p 13 2 % 1024, dstType := fieldAt p 13 2 / 1024, rsv := fieldAt p 15 1
    ops := (e.grans.drop 3).take 4 }

/-- The codes of R145. -/
def sealCodes : List Nat := [1, 2, 3, 4, 5, 6, 7, 8, 9, 10, 11, 12, 13, 16, 17, 18, 19]

/-- The key type KEYH must have, 0 for any, and whether the operation uses KEYH (R148). -/
def keyNeed (code : Nat) : Option Nat :=
  match code with
  | 2 => some 1
  | 4 => some 2
  | 9 => some 0
  | 10 => some 4
  | 11 => some 4
  | 13 => some 3
  | 17 => some 4
  | 18 => some 0
  | 19 => some 0
  | _ => none

/-- The descriptor keeps R147's form; a KEYH that the operation ignores may hold anything (R148, R150). -/
def SealDesc.formOk (d : SealDesc) : Bool :=
  d.hdr.ver = 1 && d.hdr.kind = 1 && d.hdr.paylen = 80 && d.hdr.handle = 0 && d.hdr.flags = 0 &&
  d.hdr.lseq = 0 && d.hdr.lack = 0 && d.hdr.sack = 0 && d.hdr.meter = 0 && d.rsv = 0 &&
  d.len0 ≤ 16777216 && sealCodes.contains d.hdr.code.toNat &&
  ((keyNeed d.hdr.code.toNat).isNone || (d.keyh % 65536 < 1024 && d.keyh < 2 ^ 32))

/-- The submitter is the Steward. -/
def Submitter.isSteward : Submitter → Bool
  | .steward => true
  | _ => false

/-- The submitter may use a slot (R150). -/
def State.mayUse (s : State) (by_ : Submitter) (k : Nat) : Bool :=
  match by_ with
  | .steward => true
  | .press => k = 2 || k = 3
  | .task _ dom => 16 ≤ k && (s.key k).owner = dom
  | .device => false

/-- Slots whose key no job clears: the Cleared by column of R150 names Rinse and rotation alone (log entry 128). -/
def fixedKey (k : Nat) : Bool := k < 7

/-- Why a job ends at its start: status and detail (R149). -/
abbrev SealStop := Nat × Nat

/-- A key handle checked at the start of a job (R150, R151): the slot, or KEYDENIED or KEYSTALE. `ty` is
the key type the operation needs, 0 for any; for a slot of another type, as for PUBEXPORT of an AES-256 slot, no rule names
the status, and KEYDENIED is the model's choice (R148, R149; log entry 129). -/
def State.checkKey (s : State) (by_ : Submitter) (h ty : Nat) : Except SealStop Nat :=
  let k := h % 1024
  if !s.mayUse by_ k then .error (9, k)
  else if (s.key k).key.isNone || (s.key k).kgen != bitsOf h 16 16 then .error (10, k)
  else if ty != 0 && (s.key k).ty != ty then .error (9, k)
  else .ok k

/-- The key types a slot takes from a job (R150, R152): of slots 0 to 6 the one the table names, of the Steward's
working keys any, of an application slot the one its latest key command assigned (log entry 42). -/
def State.slotTakes (s : State) (k ty : Nat) : Bool :=
  if k < 6 then ty = 1 + k % 2 else if k = 6 then ty = 3 else if k < 16 then true else (s.key k).ty = ty

/-- DSTSLOT checked at the start of a job (R152): `ty` is the type of the key the job writes. -/
def State.checkDst (s : State) (by_ : Submitter) (k ty : Nat) : Except SealStop Nat :=
  if s.mayUse by_ k && 1 ≤ ty && ty ≤ 4 && s.slotTakes k ty && !(fixedKey k && (s.key k).key.isSome) then .ok k
  else .error (9, k)

/-- The start of a job that writes a slot: KGEN rises, and a slot with no key command has the new key's type (R152). -/
def State.openSlot (s : State) (k ty : Nat) : State :=
  s.setKey k { s.key k with kgen := ((s.key k).kgen + 1) % 65536, ty := if k < 16 then ty else (s.key k).ty }

/-- The master ID of an engine's operand path with the colour of the operand's entry (R194, R320). -/
def sealAgent (e : Nat) (x : Entry) : Agent := ⟨36 + e, x.colour⟩

/-- What checking an operand yields: its address, a failed check, a refusal by the Guard, or a wait. -/
inductive Operand where
  | ok (addr : Nat)
  | fail
  | refused (m : Agent) (addr : Nat)
  | hold
  deriving DecidableEq, Repr

/-- An operand of `n` bytes checked over its whole extent as an access of the submitter (R148, R171,
R176, R326). No byte is asked of an operand of length 0. A register of control space takes a single 64-bit access alone,
which an operand's burst is not (R21; log entry 125). -/
def State.checkOperand (s : State) (e : Nat) (by_ : Submitter) (c : Cap) (write : Bool) (n : Nat) : Operand :=
  if n = 0 then .ok 0
  else match checks123 c false with
    | some _ => .fail
    | none =>
      if s.indexHeld c.index then .hold
      else match s.fillOf stewardCore c.index with
      | .error _ => .fail
      | .ok x =>
        let k := if write then AccKind.store else AccKind.capLoad
        let ofs := effOffset c 0
        let bad := (c.gen != x.entry.gen) || x.entry.ty != 1 ||
          (effRights c x.entry by_.isSteward &&& k.needs) != k.needs || decide (c.offset + n > x.entry.limit + 1) ||
          (s.check8 c x.entry (physAddr x.entry ofs)).isSome
        if bad then .fail
        else match s.verdict (sealAgent e x.entry) write (physAddr x.entry ofs) n with
          | .allow => if inControl (physAddr x.entry ofs) then .fail else .ok (physAddr x.entry ofs)
          | .hold => .hold
          | .refuse _ _ => .refused (sealAgent e x.entry) (physAddr x.entry ofs)

/-- The operands a job checks, in order: number, written, length (R148). O3 of ED-VERIFY is ignored. The ciphertext of
KEM-DECAPS is 1,088 bytes whatever LEN0 says, where R148 names both lengths (the model's choice, log entry 129). -/
def opExtents (d : SealDesc) (aad outLen pubLen : Nat) : List (Nat × Bool × Nat) :=
  match d.hdr.code.toNat with
  | 1 => [(0, false, d.len0), (1, false, 32)]
  | 2 => [(0, false, d.len0), (2, true, 64)]
  | 3 => [(0, false, d.len0), (1, false, 1952), (3, false, 3309 + d.ctxlen)]
  | 4 => [(0, false, d.len0), (2, true, 3309), (3, false, d.ctxlen)]
  | 5 => [(0, false, d.len0), (1, false, 1984), (3, false, 3373 + d.ctxlen)]
  | 6 => [(0, false, d.len0), (2, true, 64)]
  | 7 => [(0, false, d.len0), (2, true, 32)]
  | 8 => [(0, false, d.len0), (2, true, outLen)]
  | 9 => [(0, false, d.len0), (2, true, 64)]
  | 10 => [(0, false, d.len0), (1, false, aad), (2, true, d.len0 + 16), (3, false, 16)]
  | 11 => [(0, false, d.len0), (1, false, aad), (2, true, d.len0 - 16), (3, false, 16)]
  | 12 => [(1, false, 1184), (2, true, 1088)]
  | 13 => [(0, false, 1088)]
  | 17 => [(0, false, d.len0), (3, false, 12)]
  | 19 => [(2, true, pubLen)]
  | _ => []

/-- The operand at which a job ends OPERAND, and the refused access, if the Guard refused it. -/
structure BadOperand where
  num : Nat
  access : Option (Agent × Bool × Nat × Nat) := none
  deriving DecidableEq, Repr

/-- The Guard's note of a refused operand (R326). -/
def State.noteOperand (s : State) (x : BadOperand) : State :=
  match x.access with
  | some (m, w, a, n) => s.guardNote m w false a n
  | none => s

/-- The addresses of a job's operands, or the first that fails or is held. -/
def State.checkOperands (s : State) (e : Nat) (d : SealDesc) :
    List (Nat × Bool × Nat) → Except (Option BadOperand) (List (Nat × Nat))
  | [] => .ok []
  | (i, w, n) :: l =>
    match s.checkOperand e d.by_ (d.ops.getD i nullCap) w n with
    | .fail => .error (some { num := i })
    | .refused m a => .error (some { num := i, access := some (m, w, a, n) })
    | .hold => .error none
    | .ok a => match s.checkOperands e d l with
      | .error x => .error x
      | .ok r => .ok ((i, a) :: r)

/-- The bytes of operand `i`, as its target answers (R148). -/
def State.operand (s : State) (addrs : List (Nat × Nat)) (i n : Nat) : Bytes :=
  match lookupIn i addrs with
  | some a => s.targetBytes a n
  | none => []

/-! ## The operations -/

/-- Bytes of a BitVec, least significant first. -/
def bvBytes (n : Nat) {w : Nat} (x : BitVec w) : Bytes := leBytes n x.toNat

/-- The bytes `f 0`, `f 1`, … (`n` of them). -/
def genBytes (n : Nat) (f : Nat → Byte) : Bytes := (numsFrom 0 n).map f

/-- A canonical encoding of a point: its y coordinate is below the prime and RFC 8032 decodes it (R146). -/
def edCanonical (p : Bytes) : Bool := (edDecode p).isSome

/-- ED-VERIFY (R146): public key, message, signature. -/
def edVerified (pk msg sig : Bytes) : Bool :=
  decide (leNat (sig.drop 32) < edOrder) && edCanonical pk && edCanonical (sig.take 32) &&
    edEquation pk msg sig

/-- ML-DSA-65 signature bytes (R146). -/
def mldsaSigned (key ctx msg : Bytes) (r : Nat) : Bytes :=
  genBytes 3309 (Config.mldsaSign key ctx msg ((Config.draw r).setWidth 256))

/-- AES-256-GCM encryption: ciphertext then tag (R148). -/
def gcmSeal (key iv aad pt : Bytes) : Bytes :=
  let ct := gcmCrypt key iv pt
  ct ++ gcmTag key iv aad ct

/-- AES-256-GCM decryption: the plaintext, or none where the tag does not match (R148, R149). -/
def gcmOpen (key iv aad ct : Bytes) : Option Bytes :=
  let body := ct.take (ct.length - 16)
  if gcmTag key iv aad body = ct.drop (ct.length - 16) then some (gcmCrypt key iv body) else none

/-- The length of a public key by key type (R148, R391). -/
def publicLen (ty : Nat) : Nat :=
  match ty with
  | 1 => 32
  | 2 => 1952
  | 3 => 1184
  | _ => 0

/-- The public key of a private key (R148 PUBEXPORT). -/
def publicOf (ty : Nat) (key : Bytes) : Bytes :=
  if ty = 1 then edPublic key else genBytes (publicLen ty) (Config.publicKey ty key)

/-- The key handle of a slot (R150). -/
def State.handleOf (s : State) (k : Nat) : Nat := k + (s.key k).kgen * 65536

/-- KGEN of a slot rises by one (R150). -/
def State.raiseKgen (s : State) (k : Nat) : State :=
  s.setKey k { s.key k with kgen := ((s.key k).kgen + 1) % 65536 }

/-- The key material of a slot, read over the key path by a job whose checks have passed (R318, R320). -/
def State.keyBytes (s : State) (k : Nat) : Bytes := if keyAdmits true k then ((s.key k).key).getD [] else []

/-- The operation needs randomness (R155). -/
def needsEntropy (code : Nat) : Bool := code = 4 || code = 12 || code = 16

/-- The outcome of a job whose checks pass: outputs computed from the operands at `addrs`, the key slot
`k` and the target slot (R148, R149, R152). The state given is that at the start of the job. -/
def State.jobOut (s : State) (d : SealDesc) (addrs : List (Nat × Nat)) (k : Nat) (aad outLen r : Nat) : JobOut :=
  let o (i n : Nat) := s.operand addrs i n
  let out (b : Bytes) : JobOut := match lookupIn 2 addrs with
    | some a => { status := 1, writes := [(a, b)] }
    | none => { status := 1 }
  let verdict (b : Bool) : JobOut := { status := if b then 1 else 2 }
  let msg := o 0 d.len0
  let key := s.keyBytes k
  match d.hdr.code.toNat with
  | 1 => verdict (edVerified (o 1 32) msg (bvBytes 64 (Config.edSignature r)))
  | 2 => out (edSign key msg)
  | 3 => verdict (Config.mldsaVerify (o 1 1952) (sliceAt (o 3 (3309 + d.ctxlen)) 3309 d.ctxlen) msg (o 3 3309))
  | 4 => out (mldsaSigned key (o 3 d.ctxlen) msg r)
  | 5 =>
    let sig := o 3 (3373 + d.ctxlen)
    let a := edVerified (o 1 32) msg (sig.take 64)
    let b := Config.mldsaVerify (sliceAt (o 1 1984) 32 1952) (sliceAt sig 3373 d.ctxlen) msg (sliceAt sig 64 3309)
    { status := if a && b then 1 else 2, detail := b2n a + 2 * b2n b }
  | 6 => out (bvBytes 64 (sha512 msg))
  | 7 => out (bvBytes 32 (sha3 msg))
  | 8 => out (shake256 msg outLen)
  | 9 => out (bvBytes 64 (hmac key msg))
  | 10 => out (gcmSeal key (sliceAt (o 3 16) 4 12) (o 1 aad) msg)
  | 11 => match gcmOpen key (sliceAt (o 3 16) 4 12) (o 1 aad) msg with
    | some p => out p
    | none => { status := 3 }
  | 12 =>
    let ek := o 1 1184
    let rnd := (Config.draw r).setWidth 256
    { out (genBytes 1088 (Config.kemCipher ek rnd)) with
      detail := s.handleOf d.dstSlot, key := some (d.dstSlot, some (bvBytes 32 (Config.kemSecret ek rnd))) }
  | 13 => { status := 1, detail := s.handleOf d.dstSlot,
            key := some (d.dstSlot, some (bvBytes 32 (Config.kemDecaps key (o 0 1088)))) }
  | 16 => { status := 1, detail := s.handleOf d.dstSlot,
            key := some (d.dstSlot, some (bvBytes 32 (Config.draw r))) }
  | 17 => match gcmOpen key (o 3 12) [] msg with
    | some p => { status := 1, detail := s.handleOf d.dstSlot, key := some (d.dstSlot, some p) }
    | none => { status := 3, key := some (d.dstSlot, none) }
  | 18 => { status := 1, key := some (d.keyh % 1024, none) }
  | _ => out (publicOf (s.key k).ty key)

/-- The operation writes a target slot (R152). -/
def writesSlot (code : Nat) : Bool := code = 12 || code = 13 || code = 16 || code = 17

/-- KEYGEN, KEYIMPORT and KEYDESTROY are the Steward's alone (R150). -/
def stewardOnly (code : Nat) : Bool := code = 16 || code = 17 || code = 18

/-- A job that ends at its start. -/
def stoppedJob (d : SealDesc) (x : SealStop) : Running :=
  { hdr := d.hdr, by_ := d.by_, out := { status := x.1, detail := x.2 } }

/-- The start of a descriptor's job on engine `e`: the checks in order, format, key, target slot,
operands, then the outcome; none while an operand lies in a held set (R148-R152, R155, R329). GCM-DEC and KEYIMPORT with
no room for the tag end FORMAT, for which no rule names a status (the model's choice, log entry 129). -/
def State.startDesc (s : State) (e : Nat) (d : SealDesc) : Option (Running × State) :=
  let code := d.hdr.code.toNat
  let stop (x : SealStop) : Option (Running × State) := some (stoppedJob d x, s)
  if !d.formOk || (code = 11 && d.len0 < 16) || (code = 17 && d.len0 < 16) then stop (14, 0)
  else if needsEntropy code && s.seals.entFail then stop (13, 0)
  else if stewardOnly code && !d.by_.isSteward then stop (9, if code = 18 then d.keyh % 1024 else d.dstSlot)
  else if code = 18 && fixedKey (d.keyh % 1024) then stop (9, d.keyh % 1024)
  else
    let keyRes : Except SealStop Nat := match keyNeed code with
      | none => .ok 0
      | some ty => s.checkKey d.by_ d.keyh ty
    match keyRes with
    | .error x => stop x
    | .ok k =>
      let ty := if code = 16 then d.dstType else if code = 17 then (s.key d.dstSlot).ty else 4
      let dstRes : Except SealStop Nat :=
        if writesSlot code then s.checkDst d.by_ d.dstSlot ty
        else if code = 19 && (s.key k).ty = 4 then .error (9, k)
        else .ok 0
      match dstRes with
      | .error x => stop x
      | .ok _ =>
        let o3 := match s.checkOperand e d.by_ (d.ops.getD 3 nullCap) false 16 with
          | .ok a => s.targetBytes a 4
          | _ => []
        let aad := if code = 10 || code = 11 then leNat o3 else 0
        let outLen := (d.ops.getD 1 nullCap).offset
        match s.checkOperands e d (opExtents d aad outLen (publicLen (s.key k).ty)) with
        | .error none => none
        | .error (some x) => some (stoppedJob d (8, x.num), s.noteOperand x)
        | .ok addrs =>
          let (r, s1) := s.draw
          let s2 := if writesSlot code then s1.openSlot d.dstSlot ty
                    else if code = 18 then s1.raiseKgen k else s1
          let started := if (keyNeed code).isSome then [k] else []
          some ({ hdr := d.hdr, by_ := d.by_, slots := started,
                  out := s2.jobOut d addrs k aad outLen r }, s2)

/-- The start of a Press signing job: the Device Evidence Key in slots 2 and 3 (R113, R150); an empty
slot or failed entropy ends it ENGFAULT. -/
def State.startPress (s : State) (j : PressJob) : Running × State :=
  let (r, s1) := s.draw
  let h := { blankHdr 1 with code := if j.isEd then 2 else 4 }
  let k := if j.isEd then 2 else 3
  let ctx : Bytes := [0x4A, 0x56, 0x37, 0x31, 0x32, 0x38, 0x2D, 0x54, 0x42]
  let out : JobOut :=
    if (s.key k).key.isNone then { status := 13 }
    else if j.isEd then { status := 1, sig := some (edSign (s.keyBytes 2) j.msg) }
    else if s.seals.entFail then { status := 13 }
    else { status := 1, sig := some (mldsaSigned (s.keyBytes 3) ctx j.msg r) }
  ({ hdr := h, by_ := .press, job := some j, slots := [k], out := out }, s1)

/-- The start of a key command's job: the type the command has assigned, the key the entropy source or the wrapped key
gives, or an empty slot (R150-R152, R155, R351; log entry 37). -/
def State.startKey (s : State) (j : KeyJob) : Running × State :=
  let k := keyCmdSlot j.cmd
  let code := 15 + j.cmd % 256
  let (r, s1) := s.draw
  let h := { blankHdr 1 with code := BitVec.ofNat 8 code }
  let run (o : JobOut) (t : State) : Running × State := ({ hdr := h, by_ := .steward, keyJob := some j, out := o }, t)
  if code = 16 then
    if s.seals.entFail then run { status := 13 } s1
    else
      let s2 := s1.raiseKgen k
      run { status := 1, detail := s2.handleOf k, key := some (k, some (bvBytes 32 (Config.draw r))) } s2
  else if code = 17 then
    let s2 := s1.raiseKgen k
    match Config.unwrapKey (s.dict.vals.get [] (0x2C20, 2)) with
    | some m => run { status := 1, detail := s2.handleOf k, key := some (k, some m) } s2
    | none => run { status := 3, key := some (k, none) } s2
  else if (s.key k).key.isNone then run { status := 10, detail := k } s1
  else run { status := 1, key := some (k, none) } (s1.raiseKgen k)

/-- SE_CUR while a job runs (R157); ELAPSED keeps the time of the start. -/
def State.showRunning (s : State) (e : Nat) : State :=
  match (s.engine e).running with
  | none => (((s.setF .SE_CUR_OP 0 e).setF .SE_CUR_TASK 0 e).setF .SE_CUR_STEWARD 0 e).setF .SE_CUR_PRESS 0 e
  | some r =>
    let s := (s.setF .SE_CUR_OP r.hdr.code.toNat e).setF .SE_CUR_ELAPSED (s.ns / 1000) e
    match r.by_ with
    | .task t _ => ((s.setF .SE_CUR_TASK t e).setF .SE_CUR_STEWARD 0 e).setF .SE_CUR_PRESS 0 e
    | .press => ((s.setF .SE_CUR_TASK 0 e).setF .SE_CUR_STEWARD 0 e).setF .SE_CUR_PRESS 1 e
    | _ => ((s.setF .SE_CUR_TASK 0 e).setF .SE_CUR_STEWARD 1 e).setF .SE_CUR_PRESS 0 e

/-- An engine takes its next job if it is READY and idle and the job's CODE is `code`, or no operation's, so that it ends
FORMAT (R154, R145, R149); a task's job is charged to the engine's meter. -/
def State.takeJob (s : State) (e code : Nat) : State :=
  let x := s.engine e
  if s.enginesOff || !s.engineReady e || x.running.isSome then s
  else match s.nextItem e with
    | none => (x.queue.filter SealItem.isTask).foldl (fun s _ => s.noteHeld (.eng e)) s
    | some (i, rest) =>
      if i.code != code && sealCodes.contains i.code then s
      else
        let s1 := if i.isTask then s.charge (.eng e) 1 else s
        let go : Option (Running × State) := match i with
          | .press j => some (s1.startPress j)
          | .key j => some (s1.startKey j)
          | .desc d => s1.startDesc e (sealDesc d)
        match go with
        | none => s
        | some (r, s2) => (s2.setEngine e { queue := rest, running := some r }).showRunning e

/-! ## Completions -/

/-- The completion's header (R149). -/
def sealCompletion (h : Hdr) (status detail : Nat) : Hdr :=
  { blankHdr 2 with session := h.session, epoch := h.epoch, reqid := h.reqid,
                    code := BitVec.ofNat 8 status, handle := BitVec.ofNat 64 detail }

/-- Posts a descriptor's completion to its REPLYQ (R149). -/
def State.postSeal (s : State) (h : Hdr) (status detail : Nat) : State :=
  s.postCompletion h.replyq.toNat (sealCompletion h status detail) []

/-- The counters of a completion (R157). -/
def State.countSeal (s : State) (e status : Nat) : State :=
  let s := s.bump .SE_CNTJOB_JOBS 1 e
  if status = 2 || status = 3 then s.bump .SE_CNTERR_NOTVER 1 e
  else if status = 8 || status = 9 || status = 10 || status = 14 then s.bump .SE_CNTERR_REFUSED 1 e
  else if status = 13 then s.bump .SE_CNTERR_FAULTS 1 e
  else s

/-- A job of an engine other than `e` still runs that started with slot `k` (R151, R152). -/
def State.slotInUse (s : State) (e k : Nat) : Bool :=
  (numsFrom 0 8).any fun f => f != e && match (s.engine f).running with
    | some r => r.slots.contains k
    | none => false

/-- Writes a key slot: the new key, or empty (R152, R151). -/
def State.storeKey (s : State) (k : Nat) (m : Option Bytes) : State := s.setKey k { s.key k with key := m }

/-- A key command's job that ended ENGFAULT is submitted once more, to another READY engine; then, or where none is, or
after Rinse, it ends (R463). -/
def State.resendKey (s : State) (e : Nat) (resend : Bool) (j : KeyJob) : State :=
  if resend && !j.again then s.assignKeys (removeNum e (numsFrom 0 8)) [{ j with again := true }] else s.dropKeyJob j

/-- An item ends ENGFAULT without running (R155): a descriptor's completion, a Press job that goes to
another engine, or a key command's. -/
def State.faultItem (s : State) (e : Nat) (resend : Bool) : SealItem → State
  | .desc d => (s.postSeal d.hdr 13 0).countSeal e 13
  | .key j => (s.countSeal e 13).resendKey e resend j
  | .press j =>
    if resend then { s with press := { s.press with jobs := s.press.jobs ++ [j] } } else s.countSeal e 13

/-- A command past its epoch waits for an engine no more. -/
def QuietRun.dropEngine (e : Nat) (x : QuietRun) : QuietRun := { x with engines := removeNum e x.engines }

/-- An engine's job is over: the engine is idle, and no epoch waits for its job any more (R184, R329). -/
def State.engineIdle (s : State) (e : Nat) : State :=
  let s := s.setEngine e { s.engine e with running := none }
  let s := { s with registry := { s.registry with quiet := s.registry.quiet.map (QuietRun.dropEngine e) },
                    guard := { s.guard with before := removeNum e s.guard.before } }
  s.showRunning e

/-- The job running ends ENGFAULT and writes no output; a slot it was to write stays empty (R155, R152). A
Press job goes to another engine if `resend` (R463). -/
def State.faultRunning (s : State) (e : Nat) (resend : Bool) : State :=
  match (s.engine e).running with
  | none => s
  | some r =>
    let s := s.engineIdle e
    let s := match r.out.key with
      | some (k, _) => s.storeKey k none
      | none => s
    match r.job with
    | some j =>
      let s := s.countSeal e 13
      if resend then { s with press := { s.press with jobs := s.press.jobs ++ [j] } } else s
    | none => match r.keyJob with
      | some j => (s.countSeal e 13).resendKey e resend j
      | none => (s.postSeal r.hdr 13 0).countSeal e 13

/-- An engine's running job and its queue end ENGFAULT (R155). -/
def State.faultEngine (s : State) (e : Nat) (resend : Bool) : State :=
  let s := s.faultRunning e resend
  let q := (s.engine e).queue
  q.foldl (fun s i => s.faultItem e resend i) (s.setEngine e { s.engine e with queue := [] })

end Sys2Proof.Machine
end

