-- ==== Sys2Proof/Machine/Tick.lean ====
section
/-! DEFINITION. The Tick Unit (R29-R41): the reference, the lock state, corrections, period changes,
and the commands that reach it. -/

namespace Sys2Proof.Machine

/-- The master ID of R320 of whoever presents a register access; the Steward is 32. -/
def Master.isSteward : Master → Bool
  | .core k => decide (k.val = stewardCore)
  | .dev id => decide (id.val = stewardId)

/-- The tick mark: the greatest of the mark cells (R31). -/
def State.tickMark (s : State) : Nat := s.press.tickMarks.foldl max 0

/-- A new tick mark, 2 s of ticks above the tick number, goes to the next of 16 cells (R31). -/
def State.writeMark (s : State) : State :=
  { s with press := { s.press with tickMarks := List.take 16 ((s.tickNo + 2 * s.ticksPerSecond) :: s.press.tickMarks) } }

/-- The Press writes a mark before the tick number would pass it (R31), unless the die is parked (R125). -/
def State.keepMark (s : State) (tick : Nat) : State := if tick ≤ s.tickMark || s.press.parked then s else s.writeMark

/-- Lock state codes (R39). -/
def lockFree : Nat := 0
def lockAcquiring : Nat := 1
def lockLocked : Nat := 2
def lockHoldover : Nat := 3

/-- LOCK (R39). -/
def State.lock (s : State) : Nat := s.f .TU_STAT_LOCK

/-- The boundary's time is valid: Locked with SRC = 1 (R112). -/
def State.timeValid (s : State) : Bool := s.lock = lockLocked && s.tick.src = 1

/-- The reference a SRC field selects; 3 acts as 0 (R37). -/
def srcOf (x : Nat) : Nat := if x = 3 then 0 else x

/-- The nominal length of the tick in force (R29). -/
def State.nominal (s : State) : Nat := nominalCc (s.f .TU_CTRL_PERIOD)

/-- The correction limit of a lock state (R39). -/
def corrLimit (lock nominal : Nat) : Nat :=
  if lock = lockAcquiring then nominal / 100 else if lock = lockLocked then nominal / 10000 else 0

/-- A mean rounded to the nearest, a half away from zero (R39). -/
def roundMean (sum : Int) (n : Nat) : Int :=
  if n = 0 then 0
  else if 0 ≤ sum then ((2 * sum.natAbs + n) / (2 * n) : Nat) else -(((2 * sum.natAbs + n) / (2 * n) : Nat) : Int)

/-- The mean correction Holdover repeats (R39). -/
def State.meanCorr (s : State) : Int := roundMean (s.tick.hist.foldl (· + ·) 0) s.tick.hist.length

/-- Acquiring is entered: its counts and its corrections start anew (R39). -/
def TickS.acquire (t : TickS) : TickS := { t with hist := [], good := 0, bad := 0 }

/-- Enters Acquiring (R37, R39). -/
def State.toAcquiring (s : State) : State :=
  { s.setF .TU_STAT_LOCK lockAcquiring with tick := s.tick.acquire }

/-- A change of SRC takes effect: Acquiring, or Free-run for SRC 0 (R37). -/
def State.takeSrc (s : State) : State :=
  let n := srcOf (s.f .TU_CTRL_SRC)
  if n = s.tick.src then s
  else
    let t := { s.tick.acquire with src := n, remaining := none, newOfs := none, miss := 0,
                                   seenLast := false, seenNext := false }
    let s := { s with tick := t }
    let s := if s.lock = lockHoldover then s.emcyEnd 0xFF08 else s
    s.setF .TU_STAT_LOCK (if n = 0 then lockFree else lockAcquiring)

/-- The reference is lost: Holdover (R39, R40, R356). -/
def State.loseReference (s : State) : State :=
  let s := { s with tick := { s.tick with holdCorr := s.meanCorr } }
  ((s.setF .TU_STAT_LOCK lockHoldover).setF .TU_STAT_REFLOST 1).emcy 0xFF08 lockHoldover

/-- The window of the latest boundary is judged at the next one (R40). -/
def State.judgeWindow (s : State) : State :=
  if s.tick.src = 2 then
    let t := { s.tick with miss := if s.tick.seenLast then 0 else s.tick.miss + 1,
                           seenLast := s.tick.seenNext, seenNext := false }
    let s := if s.tick.seenLast then s else s.setF .TU_STAT_TINMISS 1
    { s with tick := t }
  else s

/-- 1 µs and 5 µs in cc (R39). -/
def lockBand : Nat := 1000
def relockBand : Nat := 5000

/-- The remaining offset is judged (R39): Acquiring to Locked, Locked to Acquiring. Without an offset neither
count goes on (log entry 23). -/
def State.judgeLock (s : State) : State :=
  let within := s.tick.remaining.any fun x => x.natAbs ≤ lockBand
  let beyond := s.tick.remaining.any fun x => relockBand < x.natAbs
  let t := { s.tick with good := if within then s.tick.good + 1 else 0,
                         bad := if beyond then s.tick.bad + 1 else 0 }
  let s := { s with tick := t }
  if s.lock = lockAcquiring && 16 ≤ t.good then
    { s.setF .TU_STAT_LOCK lockLocked with tick := { t with good := 0, bad := 0 } }
  else if s.lock = lockLocked && 4 ≤ t.bad then (s.setF .TU_STAT_RELOCK 1).toAcquiring
  else s

/-- The correction of the tick that starts (R38, R39). -/
def State.nextCorr (s : State) : Int :=
  if s.lock = lockFree then 0
  else if s.lock = lockHoldover then s.tick.holdCorr
  else
    let l : Nat := corrLimit s.lock s.nominal
    clipInt (-(l : Int)) l (s.tick.remaining.getD 0)

/-- The tick that starts gets its correction and its length (R38, R39): a positive correction shortens. -/
def State.correct (s : State) : State :=
  let c := s.nextCorr
  let disciplined := (s.lock = lockAcquiring || s.lock = lockLocked) && s.tick.remaining.isSome
  let t := { s.tick with remaining := s.tick.remaining.map (· - c),
                         hist := if disciplined then List.take 64 (c :: s.tick.hist) else s.tick.hist }
  let s := { s with tick := t }
  (s.setF .TU_CORR_CORR (ofSigned 32 c)).setF .TU_CORR_LENGTH (s.nominal - c).toNat

/-- The Tick Unit's own work at a boundary: SRC, the window, the offset, the lock state, the
correction (R37-R40). -/
def State.discipline (s : State) : State :=
  let s := s.judgeWindow
  let s := { s with tick := { s.tick with remaining := s.tick.newOfs <|> s.tick.remaining, newOfs := none } }
  (s.takeSrc.judgeLock).correct

/-- An armed period change is applied at its boundary (R33). -/
def State.applyPeriod (s : State) : State :=
  if s.fb .TU_PEND_ARM && s.f .TU_PENDAT_ATTICK = s.tickNo then
    (s.setF .TU_CTRL_PERIOD (s.f .TU_PEND_NEWPERIOD)).setF .TU_PEND_ARM 0
  else s

/-- TICKOUT at a boundary (R41). -/
def State.raiseTickout (s : State) : State :=
  if s.fb .TU_CTRL_TOEN then { s with tick := { s.tick with tickout := true } }.emit (.tickout true) else s

/-- With TOEN 0, TICKOUT is held low (R41). -/
def State.holdTickout (s : State) : State :=
  if s.tick.tickout && !s.fb .TU_CTRL_TOEN then { s with tick := { s.tick with tickout := false } }.emit (.tickout false) else s

/-- An offset is received or measured (R38): it replaces the remaining offset from the next tick on, and
Holdover is left. An offset of the latest boundary has the current tick's correction behind it. -/
def State.takeOffset (s : State) (ofs : Int) (latest : Bool) : State :=
  let c := toSigned 32 (s.f .TU_CORR_CORR)
  let s := (s.setF .TU_OFFS_OFFSET (ofSigned 32 ofs))
  let s := { s with tick := { s.tick with newOfs := some (if latest then ofs - c else ofs) } }
  if s.lock = lockHoldover then (s.emcyEnd 0xFF08).toAcquiring else s

/-- A write to TU_PEND by the Steward (R33, R56); `v` is the 64-bit value. -/
def State.writePend (s : State) (v : Nat) : State :=
  let s := if bitOf v 9 then s.setF .TU_PEND_PENDERR 0 else s
  let armed := s.fb .TU_PEND_ARM
  let s := if armed then s else s.setF .TU_PEND_NEWPERIOD (bitsOf v 0 2)
  if !bitOf v 8 then s
  else if armed || s.f .TU_PENDAT_ATTICK ≤ s.tickNo then s.setF .TU_PEND_PENDERR 1
  else s.setF .TU_PEND_ARM 1

/-- A write to TU_REFOFS by the Steward (R38, R56): used only with SRC = 1. -/
def State.writeRefofs (s : State) (v : Nat) : State :=
  if s.tick.src = 1 then s.takeOffset (toSigned 32 (v % 2 ^ 32)) true else s

/-- TU_PEND_ARM: refused to any master but the Steward (R56). -/
def execTuPendArm (m : Master) (v : Word) (s : State) : Res :=
  .next (s.present m 0x40000018 fun s => if Master.isSteward m then s.writePend (setBitOf v.toNat 8) else s)

/-- TU_REFOFS_WRITE: refused to any master but the Steward (R56). -/
def execTuRefofsWrite (m : Master) (v : Word) (s : State) : Res :=
  .next (s.present m 0x40000028 fun s => if Master.isSteward m then s.writeRefofs v.toNat else s)

/-- Half the window around a boundary, in cc (R40). -/
def State.edgeWindow (s : State) : Nat := if s.lock = lockLocked then 25000 else s.nominal / 2

/-- TICKIN_EDGE: `dist` cc before the coming boundary (`early`) or after the latest one. The first edge
in a boundary's window is measured; any other is ignored (R40). -/
def execTickinEdge (early : Bool) (dist : Nat) (s : State) : Res :=
  .next (
    if s.tick.src != 2 || !s.tick.running || s.edgeWindow < dist then s
    else if early then
      if s.tick.seenNext then s
      else { s with tick := { s.tick with seenNext := true } }.takeOffset dist false
    else if s.tick.seenLast then s
    else { s with tick := { s.tick with seenLast := true } }.takeOffset (-(dist : Int)) true)

/-- REFERENCE_LOST: no offset for 4 s with SRC = 1, or 8 boundaries without an edge with SRC = 2 (R40). -/
def execReferenceLost (s : State) : Res :=
  .next (
    let due := s.tick.src = 1 || (s.tick.src = 2 && decide (8 ≤ s.tick.miss))
    if due && (s.lock = lockAcquiring || s.lock = lockLocked) then s.loseReference else s)

/-- TICKOUT_PULSE_END: TICKOUT falls 1 µs after it rose (R41). -/
def execTickoutPulseEnd (s : State) : Res :=
  .next (if s.tick.tickout then { s with tick := { s.tick with tickout := false } }.emit (.tickout false) else s)

end Sys2Proof.Machine
end

