-- ==== Sys2Proof/Machine/Press.lean ====
section
/-! DEFINITION. The Press's operations (R102-R119, R129): the write channel, handover, durability,
block closure, sealing, ring occupancy. -/

namespace Sys2Proof.Machine

/-- Changes the Press. -/
def State.onPress (s : State) (g : PressS → PressS) : State := { s with press := g s.press }

/-- PR_NEXTLSN. -/
def State.nextLsn (s : State) : Nat := s.f .PR_NEXTLSN_NEXTLSN

/-- Free slots (R119). -/
def State.freeSlots (s : State) : Nat := ringSlots - s.occupancy

/-- Slots kept for device-generated slots and tick blocks (R119). -/
def reserveSlots : Nat := 8192

/-- PR_STAT.FULL, RESERVE and PR_OCC after NEXTLSN or ARCHLSN has moved (R117, R119, R356). -/
def State.noteOcc (s : State) : State :=
  let n := s.occupancy
  let s := (s.setF .PR_OCC_OCC n).setF .PR_OCC_PEAK (max n (s.f .PR_OCC_PEAK))
  let s := s.setF .PR_STAT_RESERVE (b2n (s.freeSlots ≤ reserveSlots))
  if s.fb .PR_STAT_FULL then
    if n ≤ 891289 then (s.setF .PR_STAT_FULL 0).emcyEnd 0xFF09 else s
  else if 943719 ≤ n then (s.setF .PR_STAT_FULL 1).emcy 0xFF09 n
  else s

/-! ## Starting a write -/

/-- The write channel is free, the recovery has read the ring, and nothing forbids writing (R108, R109, R125, R126,
R129). -/
def State.mayWriteSlots (s : State) : Bool :=
  s.press.writing.isNone && s.press.recovered && !s.fb .PR_STAT_LFAULT && !s.fb .PR_STAT_SEALED && !s.press.parked

/-- The write channel can take a new slot: the ring has one as well (R116). -/
def State.channelFree (s : State) : Bool := s.mayWriteSlots && decide (s.occupancy < ringSlots)

/-- Starts a write: until it is verified, the slot holds no record (R24). -/
def State.writeRec (s : State) (r : Rec) (src : WSrc) : State :=
  s.onPress fun p => { p with writing := some { rec_ := r, src := src }, slots := p.slots.set (slotIndex r.lsn) (.bad r) }

/-- Starts the write of a slot: it takes the LSN PR_NEXTLSN and WTICK (R92, R96). -/
def State.startWrite (s : State) (b : Body) (src : WSrc) (wtick : Option Nat := none) : State :=
  s.writeRec ⟨s.nextLsn, wtick.getD (s.tickNo % 2 ^ 32), b⟩ src

/-- The queue of handover descriptors (R107). -/
def handoverQueue : Nat := 1008
/-- The device record queue (R107). -/
def deviceQueue : Nat := 1009

/-- A task record may be taken: R103. -/
def State.taskDue (s : State) : Bool :=
  s.fb .PR_CTRL_ENABLE && s.admits (.eng 9) && decide (reserveSlots < s.freeSlots) &&
  !(s.queue handoverQueue).ents.isEmpty && !s.press.tampering && s.press.finalHdr.isNone

/-- A device-generated slot is waiting. -/
def State.devDue (s : State) : Bool :=
  !s.press.devSlots.isEmpty || (!s.press.devQ.isEmpty && s.press.finalHdr.isNone && !s.press.tampering)

/-- What the write channel writes next (R108). -/
inductive PressNext where
  | none | recovery | header | task | dev | repair
  deriving DecidableEq, Repr

/-- A patrol repair is written where no new slot is due (R430; DESIGN CHOICE, log entry 131). -/
def State.repairNext (s : State) : PressNext :=
  if s.mayWriteSlots && !s.press.repairs.isEmpty then .repair else .none

/-- The choice of R108, after what ledger recovery writes (R126, R127). -/
def State.pressNext (s : State) : PressNext :=
  if !s.channelFree then s.repairNext
  else if !s.press.recQ.isEmpty then .recovery
  else if !s.press.hdrs.isEmpty then .header
  else if s.taskDue && s.devDue then (if s.press.altDev then .dev else .task)
  else if s.taskDue then .task
  else if s.devDue then .dev
  else s.repairNext

/-- Starts the next device-generated slot: those held in the Press, then queue 1,009 (log entry 17). -/
def State.startDev (s : State) : State :=
  match s.press.devSlots, s.press.devQ with
  | d :: r, _ => (s.onPress fun p => { p with devSlots := r, altDev := false }).startWrite d.body d.src
  | [], (r, v) :: q =>
    (s.onPress fun p => { p with devQ := q, devNow := some (r, v), altDev := false }).startWrite (.dev r) .devRec
  | [], [] => s

/-- Starts the header of the oldest closed block. -/
def State.startHeader (s : State) : State :=
  match s.press.hdrs with
  | h :: r => (s.onPress fun p => { p with hdrs := r }).writeRec h .header
  | [] => s

/-- Starts the next slot of ledger recovery (R127). -/
def State.startRecovery (s : State) : State :=
  match s.press.recQ with
  | d :: _ => s.startWrite d.body d.src d.wtick
  | [] => s

/-- Starts the rewrite of the slot that the patrol corrected first: its own bytes, in place (R92, R430). -/
def State.startRepair (s : State) : State :=
  match s.press.repairs with
  | i :: l =>
    match s.press.slots.find i with
    | some (.good r) => s.onPress fun p => { p with repairs := l, writing := some { rec_ := r, src := .repair } }
    | _ => s.onPress fun p => { p with repairs := l }
  | [] => s

/-- Ledger recovery runs: its writes are under way, or wait for the channel. It ends where the ring has no free slot for
them, and they wait on in the Press (R127, R130). -/
def State.recovering (s : State) : Bool := !s.press.recQ.isEmpty && decide (s.occupancy < ringSlots)

/-- Posts a handover's completion (R104, R105). -/
def State.postHandover (s : State) (h : Hdr) (code lsn : Nat) : State :=
  s.postCompletion h.replyq.toNat
    { blankHdr 2 with session := h.session, epoch := h.epoch, reqid := h.reqid,
                      code := BitVec.ofNat 8 code, handle := BitVec.ofNat 64 lsn } []

/-- Posts the completion of a record of queue 1,009, where ENQ put it there (R106, R107). -/
def State.postDev (s : State) (v : Serves) (code lsn : Nat) : State :=
  match v.desc with
  | some h => s.postHandover h code lsn
  | none => s

/-- Descriptors at the head of queue 1,009 that break the form of R106 are taken and refused (R104 check 2). -/
def State.refuseBad (s : State) : List (DevRec × Serves) → State
  | [] => s
  | x :: l =>
    if x.2.formed then s
    else (((s.onPress fun p => { p with devQ := l }).postDev x.2 14 0).bump .PR_CNTERR_REFUSED).refuseBad l

/-- The write channel starts a header or a device-generated slot when it is their turn (R108); a task
record starts as its descriptor is taken (R103). -/
def State.pressPump (s : State) : State :=
  let s := if s.channelFree then s.refuseBad s.press.devQ else s
  match s.pressNext with
  | .recovery => s.startRecovery
  | .header => s.startHeader
  | .dev => s.startDev
  | .repair => s.startRepair
  | _ => s

/-! ## Refusals -/

/-- Refuses a handover descriptor (R104). -/
def State.refuseHandover (s : State) (h : Hdr) (code : Nat) : State :=
  (s.postHandover h code 0).bump .PR_CNTERR_REFUSED

/-- The Steward's records that will not be written: each dictionary write aborts with 0x0800_0105 (R106,
R109). -/
def State.failDev (s : State) (l : List (DevRec × Serves)) : State :=
  let s := l.foldl (fun (s : State) x => s.abortWrite x.2 0x08000105) s
  s.onPress fun p => { p with devFailed := p.devFailed ++ l }

/-- While the ledger is sealed, every descriptor on the handover queue, and every record on the device
record queue, is taken and refused (R103, R106, R129). -/
def State.refuseAll (s : State) : State :=
  if s.fb .PR_STAT_SEALED then
    let l := (s.queue handoverQueue).ents
    let q := s.press.devQ
    let s := s.setQueue handoverQueue {}
    let s := l.foldl (fun (s : State) e => s.refuseHandover e.hdr 15) s
    let s := q.foldl (fun (s : State) x => s.postDev x.2 15 0) s
    (s.onPress fun p => { p with devQ := [] }).failDev q
  else s

/-! ## Taking a handover -/

/-- The descriptor keeps R102's form. -/
def handoverForm (h : Hdr) : Bool :=
  h.ver = 1 && h.kind = 1 && h.flags = 0 && h.lseq = 0 && h.lack = 0 && h.sack = 0 && h.meter = 0 &&
  (h.code = 1 || h.code = 12) && h.paylen = 256 && h.handle = 0

/-- The request a descriptor names is still in its session's window (R104 check 3). -/
def State.inWindow (s : State) (h : Hdr) : Bool :=
  let x := s.session h.session.toNat
  let d := windowOffset x.next h.reqid.toNat
  x.isOpen && x.epoch = h.epoch.toNat && decide (0 ≤ d) && decide (d ≤ 15) && (x.at d.toNat).inFlight

/-- The dispatched request at NEXT that a descriptor of task `t` hands over (R104 check 4). -/
def State.handoverReq (s : State) (h : Hdr) (t : Option Nat) : Option Req :=
  let x := s.session h.session.toNat
  if windowOffset x.next h.reqid.toNat != 0 then none
  else match x.at 0 with
    | .dispatched r => if r.task = t && t.isSome then some r else none
    | _ => none

/-- The submitting task of an entry. -/
def QEnt.taskOf (e : QEnt) : Option Nat :=
  match e.by_ with
  | .task t _ => some t
  | _ => none

/-- The status with which a descriptor is refused, or the request it ends (R104). -/
def State.checkHandover (s : State) (e : QEnt) : Except Nat Req :=
  let h := e.hdr
  if s.fb .PR_STAT_SEALED then .error 15
  else if !handoverForm h then .error 14
  else if !s.inWindow h then .error 8
  else match s.handoverReq h e.taskOf with
    | none => .error 11
    | some r => .ok r

/-- The request stamp of a handover (R99). -/
def State.stampOf (s : State) (n : Nat) (r : Req) (t : Nat) : Stamp :=
  { session := n, epoch := (s.session n).epoch, reqid := (s.session n).next, peer := r.peer,
    cls := r.hdr.cls.toNat, retry := r.hdr.retry.toNat, deadline := r.hdr.deadline.toNat, task := t, reason := 0,
    arrival := r.arrival, handtick := s.tickNo }

/-- CONTENT of a handover: bytes 48 to 251 of the task's record (R99). -/
def QEnt.content (e : QEnt) : Bytes := sliceAt e.payload 48 204

/-- The descriptor at the head of the handover queue is taken (R103, R104): refused, or its record's write
starts and its request is committing. -/
def State.takeHandover (s : State) : State :=
  match (s.queue handoverQueue).ents with
  | [] => s
  | e :: rest =>
    let h := e.hdr
    let s1 := s.setQueue handoverQueue { s.queue handoverQueue with ents := rest }
    match s.checkHandover e with
    | .error c => s1.refuseHandover h c
    | .ok r =>
      let n := h.session.toNat
      let t := e.taskOf.getD 0
      let b : Body := if h.code = 1 then .accept (s.stampOf n r t) e.content else .reject (s.stampOf n r t) e.content
      let s2 := (s1.charge (.eng 9) 1).onHandover n r
      (s2.onPress fun p => { p with altDev := s.devDue }).startWrite b (.taskRec h.replyq.toNat h t)

/-! ## Sealing -/

/-- The Press's signing jobs are discarded, on the engines' queues as well (R109). -/
def State.dropSigJobs (s : State) : State :=
  let s := s.onPress fun p => { p with sigs := [], jobs := [] }
  { s with seals := { s.seals with eng := s.seals.eng.mapVal fun e => { e with queue := e.queue.filter fun i => match i with
      | .press _ => false
      | .desc _ => true
      | .key _ => true } } }

/-- The ledger becomes sealed (R129). -/
def State.sealLedger (s : State) : State :=
  let s := (s.setF .PR_STAT_SEALED 1).withdrawAll
  let s := (s.onPress fun p => { p with devSlots := [], recQ := [], repairs := [], hdrs := [], tampering := false }).dropSigJobs
  (s.emcy 0xFF0B 0).refuseAll

/-- The newest header's TICK and hash input, for the next header (R112). -/
def State.prevHash (s : State) : BitVec 512 :=
  match s.press.newest with
  | some r => sha512 r.head
  | none => 0

/-- The TICK of a header's record. -/
def Rec.hdrTick (r : Rec) : Nat :=
  match r.body with
  | .header h => h.tick
  | _ => 0

/-- The LSN of the next slot that ledger recovery queues: behind those it has queued, the one being written among
them (R127). -/
def State.recLsn (s : State) : Nat := s.nextLsn + s.press.recQ.length

/-- A new slot is being written, under the LSN PR_NEXTLSN (R92). -/
def State.newSlot (s : State) : Bool := s.press.writing.any fun w => w.src != .repair

/-- The LSN the next header takes: after the write in progress, what recovery has yet to write and the headers that
wait (R110, R127). -/
def State.hdrLsn (s : State) : Nat :=
  s.nextLsn + (if s.press.recQ.isEmpty then b2n s.newSlot else s.press.recQ.length) + s.press.hdrs.length

/-- KEYGEN of the headers that close now (R112, R405). -/
def State.keygenNow (s : State) : Nat := s.trust.keygen

/-- A header over leaves (R112). -/
def State.header (s : State) (tick : Nat) (leaves : List Nat) (recovered isSealed : Bool) (keygen : Nat) : BlockHdr :=
  { tick := tick, prevtick := (s.press.newest.map Rec.hdrTick).getD 0,
    first := leaves.headD 0, last := leaves.getLastD 0, count := leaves.length, period := s.f .TU_CTRL_PERIOD,
    recovered := recovered, timevalid := !recovered && s.timeValid, isSealed := isSealed,
    root := if leaves.isEmpty then 0 else s.rootOf leaves, prev := s.prevHash,
    tai := if !recovered && s.timeValid then s.tick.tai else 0, keygen := keygen }

/-- The two signing jobs of a header. -/
def sigJobs (lsn : Nat) (m : Bytes) : List PressJob := [⟨lsn, m, true⟩, ⟨lsn, m, false⟩]

/-- The signing jobs of a header with KEYGEN 1 or more are submitted (R110, R113); while the keys of its generation
are not made yet, they wait (R405). -/
def State.submitSigs (s : State) (lsn : Nat) (m : Bytes) : State :=
  (s.onPress fun p => { p with sigs := p.sigs ++ [{ lsn := lsn, msg := m }],
                               jobs := if s.trust.rotating.isSome then p.jobs else p.jobs ++ sigJobs lsn m }).sendJobs

/-- A header is closed: it waits to be written, and its signing jobs are submitted (R110). Its bytes are fixed and
signed here, so its WTICK is the tick of the closure, also where a full ring lets its write start in a later tick
(DESIGN CHOICE, log entry 118). -/
def State.closeHeader (s : State) (h : BlockHdr) (sign : Bool) : State :=
  let r : Rec := ⟨s.hdrLsn, s.tickNo % 2 ^ 32, .header h⟩
  let s := s.onPress fun p => { p with hdrs := p.hdrs ++ [r], newest := some r, leaves := [] }
  if sign && 0 < h.keygen then s.submitSigs r.lsn r.head else s

/-- Block closure at the boundary that ends tick `t` (R110, R408). -/
def State.closeBlock (s : State) (t : Nat) : State :=
  let final := s.press.sealNext
  if s.fb .PR_STAT_LFAULT || s.fb .PR_STAT_SEALED || s.press.finalHdr.isSome || !s.press.recovered then s
  else if s.press.leaves.isEmpty && !final then s
  else
    let h := s.header t s.press.leaves false final s.keygenNow
    let n := s.hdrLsn
    let s := s.closeHeader h (!s.press.tampering)
    let s := if final then s.onPress fun p => { p with sealNext := false, finalHdr := some n, devSlots := [] } else s
    s.pressPump

/-! ## Durability -/

/-- The unsigned SEALED header of the tamper sequence, over every leaf after the newest header (R129). -/
def State.sealHeader (s : State) : State :=
  s.closeHeader (s.header s.tickNo s.press.leaves false true s.keygenNow) false

/-- PR_LASTSIG after a signature record is complete. -/
def State.noteSigned (s : State) (lsn : Nat) : State :=
  if s.f .PR_LASTSIG_LASTSIG = noLsn || s.f .PR_LASTSIG_LASTSIG < lsn then s.setF .PR_LASTSIG_LASTSIG lsn else s

/-- A part of a signature record is durable (R114). -/
def State.noteSigPart (s : State) (block part : Nat) : State :=
  let parts := part :: removeNum part (s.press.sigParts.get [] block)
  if parts.length = 15 then
    let s := (s.onPress fun p => { p with sigParts := p.sigParts.erase block }).noteSigned block
    if s.press.finalHdr = some block then s.sealLedger else s
  else s.onPress fun p => { p with sigParts := p.sigParts.set block parts }

/-- The Hamper is told of a durable record of ID NEXT of its session (R74, R105); where a rebuild has come between
(R88), a record of another ID tells it nothing, and a Closed record leaves the session closed. -/
def State.tellHamper (s : State) (b : Body) (lsn : Nat) : State :=
  match b.terminal with
  | none => s
  | some (t, out) =>
    let x := s.session t.session
    if x.isOpen && x.epoch = t.epoch && x.next = t.reqid then
      if t.reason = 2 && x.closing.isNone then s.setSession t.session {} else s.onDurable t.session out lsn
    else s

/-- What a durable slot does beyond the ring, by where it came from (R105, R106, R109, R114, R129). -/
def State.durableEffect (s : State) (r : Rec) (src : WSrc) : State :=
  match src, r.body with
  | .taskRec _ h _, b =>
    let out := if b.kind = 1 then 1 else 2
    let s := (s.bump .PR_CNTREC_TASKREC).postHandover h (if out = 1 then 1 else 12) r.lsn
    s.tellHamper b r.lsn
  | .abandonRec _, b => (s.bump .PR_CNTREC_DEVREC).tellHamper b r.lsn
  | .devRec, _ =>
    let s := s.bump .PR_CNTREC_DEVREC
    let s := s.press.devNow.toList.foldl (fun (s : State) x => s.postDev x.2 0 r.lsn) s
    s.onPress fun p => { p with devDone := p.devDone ++ p.devNow.toList, devNow := none }
  | .header, .header h =>
    let s := s.setF .PR_LASTBLK_LASTBLK r.lsn
    if h.isSealed && s.press.finalHdr.isNone then s.sealLedger
    else if h.isSealed && h.keygen = 0 then s.sealLedger
    else s
  | .sigPart, .sig block part _ => (s.bump .PR_CNTREC_DEVREC).noteSigPart block part
  | .ownRec, .tamper _ _ _ => (s.bump .PR_CNTREC_DEVREC).sealHeader
  | .ownRec, .recovery _ _ _ _ _ _ _ _ =>
    let s := s.bump .PR_CNTREC_DEVREC
    if s.fb .TT_TSTAT_LATCH && s.press.recQ.isEmpty && !s.press.tampering then s.sealHeader else s
  | _, _ => s.bump .PR_CNTREC_DEVREC

/-- The ring after a slot has become durable: its content, the validity map, the leaves of the tick and
PR_NEXTLSN (R92, R95, R109, R110). -/
def State.storeSlot (s : State) (r : Rec) : State :=
  let i := slotIndex r.lsn
  let s := s.onPress fun p => { p with
    slots := p.slots.set i (.good r), valid := i :: removeNum i p.valid,
    leaves := if r.body.isLeaf then p.leaves ++ [r.lsn] else p.leaves }
  (s.setF .PR_NEXTLSN_NEXTLSN (r.lsn + 1)).noteOcc

/-- A slot rewritten in place is complete: it holds the record it held, and no LSN, leaf or counter of records changes
(R92, R430). -/
def State.repaired (s : State) : State := s.onPress fun p => { p with writing := none }

/-- A slot becomes durable (R24, R109). -/
def State.durable (s : State) (r : Rec) (src : WSrc) : State :=
  if src = .repair then s.repaired
  else ((s.onPress fun p => { p with writing := none, recQ := p.recQ.drop 1 }).storeSlot r).durableEffect r src

/-- Failure without recourse (R109, R83). -/
def State.ledgerFault (s : State) (w : Writing) : State :=
  let i := slotIndex w.rec_.lsn
  let s := s.onPress fun p => { p with
    writing := none, slots := p.slots.set i (.bad w.rec_), valid := removeNum i p.valid, hdrs := [],
    devSlots := [], recQ := [], repairs := [], tampering := false }
  let s := s.dropSigJobs.setF .PR_STAT_LFAULT 1
  let s := match w.src with
    | .taskRec _ h _ =>
      let s := s.postHandover h 9 0
      match (s.session h.session.toNat).at 0 with
      | .committing (some r) => s.discardFault h.session.toNat 0 r
      | _ => s
    | _ => s
  let s := s.press.devNow.toList.foldl (fun (s : State) x => s.postDev x.2 9 0) s.withdrawAll
  let l := s.press.devNow.toList ++ s.press.devQ
  let s := (s.onPress fun p => { p with
    devNow := none, devQ := p.devQ.map fun x => (x.1, { desc := x.2.desc, formed := x.2.formed }) }).failDev l
  s.emcy 0xFF01 (w.rec_.lsn % 2 ^ 40)

/-- Spares of the die (R93). -/
def spareCount : Nat := 8192

/-- A write-verify attempt fails (R109): a second attempt on the same physical slot, then up to two on a
spare, then failure without recourse. -/
def State.attemptFailed (s : State) (w : Writing) : State :=
  let s := s.bump .PR_CNTERR_VRETRY
  if w.tries = 0 then s.onPress fun p => { p with writing := some { w with tries := 1 } }
  else if !w.spare && decide (s.press.sparesUsed < spareCount) then
    let s := s.onPress fun p => { p with
      writing := some { w with tries := 0, spare := true }, sparesUsed := p.sparesUsed + 1,
      remapped := slotIndex w.rec_.lsn :: removeNum (slotIndex w.rec_.lsn) p.remapped }
    (s.bump .PR_CNTERR_REMAP).setF .PR_SPARE_USED s.press.sparesUsed
  else s.ledgerFault w

/-- The parts of a block's signature record are queued (R113, R114). -/
def State.queueSigParts (s : State) (lsn : Nat) (ed ml : Bytes) : State :=
  let stream := fitTo 3420 (ed ++ ml)
  s.onPress fun p => { p with
    sigs := p.sigs.filter fun j => j.lsn != lsn,
    devSlots := p.devSlots ++ (numsFrom 0 15).map fun i =>
      { body := .sig lsn i (sliceAt stream (228 * i) 228), src := .sigPart } }

/-- A signature of a block is complete: the Press holds it until both are, then writes the signature
record (R113). -/
def State.noteSignature (s : State) (lsn : Nat) (isEd : Bool) (b : Bytes) : State :=
  match s.press.sigs.find? fun j => j.lsn = lsn with
  | none => s
  | some j =>
    let j := if isEd then { j with ed := some b } else { j with ml := some b }
    match j.ed, j.ml with
    | some e, some m => (s.queueSigParts lsn e m).pressPump
    | _, _ => s.onPress fun p => { p with sigs := p.sigs.map fun k => if k.lsn = lsn then j else k }

/-- The Steward's records on the device record queue at a time, and the queue's places (R107). -/
def stewardRecords : Nat := 16
def devicePlaces : Nat := 64

/-- The Steward submits a record on queue 1,009 (R106, R107): 0x0800_0105 where the ledger is sealed or
LFAULT is set, 0x0800_0109 where 16 of its records are there. -/
def State.submitDev (s : State) (r : DevRec) (v : Serves) : Except Nat State :=
  if s.fb .PR_STAT_SEALED || s.fb .PR_STAT_LFAULT || s.press.tampering then .error 0x08000105
  else if stewardRecords ≤ (s.press.devQ.filter fun x => x.2.formed).length || devicePlaces ≤ s.press.devQ.length then
    .error 0x08000109
  else .ok ((s.onPress fun p => { p with devQ := p.devQ ++ [(r, v)] }).pressPump)

/-- The tamper record waits for the write channel; the Press takes no further descriptor (R129, R411). -/
def State.startSealing (s : State) (source : Nat) : State :=
  if s.fb .PR_STAT_SEALED || s.fb .PR_STAT_LFAULT || s.press.tampering then s
  else
    let b : Body := .tamper source s.tickNo (s.f .PR_LASTSIG_LASTSIG)
    ((s.onPress fun p => { p with tampering := true, devSlots := [{ body := b, src := .ownRec }] }).dropSigJobs).pressPump

end Sys2Proof.Machine
end

