-- ==== Sys2Proof/Machine/HamperCmd.lean ====
section
/-! DEFINITION. The commands of the link layer and the Hamper (R60-R90, R464). -/

namespace Sys2Proof.Machine

/-! ## Received frames -/

/-- The peer a source belongs to: the VALID entry with its address and port (R63, R353). -/
def State.peerOf (s : State) (x : Source) : Option Nat :=
  (s.peers.entries.find? fun e => e.2.valid && e.2.addr = x.addr && e.2.udp = x.udp).map Prod.fst

/-- A management message's data length as PAYLEN must have it (R344). -/
def mgmtPaylen (p : Bytes) : Nat := if fieldAt p 0 1 = 1 then 32 else 32 + fieldAt p 16 4

/-- The Tag Header's own fields break R63. -/
def badHeader (h : Hdr) (udpLen : Nat) (pay : Bytes) (mgmt : Bool) : Bool :=
  h.ver != 1 || !(h.kind = 1 || h.kind = 3 || h.kind = 4 || h.kind = 5 || h.kind = 7) ||
  4 ≤ h.flags.toNat || 64 ≤ h.cls.toNat ||
  ((h.kind = 1 || h.kind = 4 || h.kind = 5) && (h.meter != 0 || h.code != 0)) ||
  (h.kind = 7 && (h.session != 0 || h.epoch != 0 || h.reqid != 0 || h.cls != 0 || h.deadline != 0 || h.retry != 0 ||
    h.meter != 0 || h.code != 0 || h.handle != 0 || !mgmt || h.paylen.toNat != mgmtPaylen pay)) ||
  2 ^ 54 ≤ h.handle.toNat || udpLen < 32 || 4064 < h.paylen.toNat || h.paylen.toNat + 32 != udpLen

/-- What the link layer makes of LSEQ (R68). -/
inductive LinkClass where
  | fresh | skip | dup
  deriving DecidableEq, Repr

/-- New, skipping or duplicate, against LACK and SACK (R68). -/
def classify (lack sack q : Nat) : LinkClass :=
  let d := (q + 65536 - lack) % 65536
  if d = 0 then .fresh
  else if d ≤ 16 then (if bitOf sack (d - 1) then .dup else .fresh)
  else if d ≤ 32767 then .skip
  else .dup

/-- LACK and SACK moved past frames held in order: at most 17 steps. -/
def slideAck : Nat → Nat → Nat → Nat × Nat
  | 0, lack, sack => (lack, sack)
  | n + 1, lack, sack => if bitOf sack 0 then slideAck n ((lack + 1) % 65536) (sack / 2) else (lack, sack)

/-- LACK and SACK after a frame has been taken (R60, R68). -/
def noteSeq (lack sack q : Nat) : Nat × Nat :=
  let d := (q + 65536 - lack) % 65536
  if d = 0 then
    let r := slideAck 17 lack sack
    ((r.1 + 1) % 65536, r.2 / 2)
  else (lack, setBitOf sack (d - 1))

/-- The receive side after LRST, or at the first sequenced frame: LACK becomes LSEQ, SACK clear (R68). -/
def Link.restart (l : Link) (q : Nat) : Link := { l with known := true, lack := q, sack := 0 }

/-- The receive side takes a sequenced frame: its class, and the link after it (R68). -/
def Link.take (l : Link) (h : Hdr) : LinkClass × Link :=
  let q := h.lseq.toNat
  let l := if bitOf h.flags.toNat 1 || !l.known then l.restart q else l
  match classify l.lack l.sack q with
  | .fresh =>
    let r := noteSeq l.lack l.sack q
    (.fresh, { l with lack := r.1, sack := r.2, ackDue := true })
  | .skip =>
    let n := (q + 65536 - 16 - l.lack) % 65536
    let r := noteSeq ((q + 65536 - 16) % 65536) (l.sack >>> n) q
    (.skip, { l with lack := r.1, sack := r.2, ackDue := true })
  | .dup => (.dup, { l with ackDue := true })

/-- The frame's port becomes the peer's current port (R66). -/
def Link.arrive (l : Link) (port : Nat) (src : Source) : Link := { l with port := some port, src := some src }

/-- Passes a frame up to the Hamper; management frames go to the Steward instead (R61, R344). -/
def State.passUp (s : State) (peer port : Nat) (f : Frame) : State :=
  if f.hdr.kind = 7 then s
  else { s with hamper := { s.hamper with inbox := s.hamper.inbox ++ [⟨peer, f, port⟩] } }

/-- Unsent copies go out on the peer's current port, once it can carry them (R464). -/
def State.sendUnsent (s : State) (p : Nat) : State :=
  let l := s.link p
  match l.port with
  | none => s
  | some port =>
    if !s.laneUp port then s
    else
      let due := l.out.filter fun c => !c.sent
      let l' := { l with
        ackDue := if due.isEmpty then l.ackDue else false
        out := l.out.map fun c => if c.sent then c else
          { c with sent := true, port := port, frame := { c.frame with hdr := l.ackFields c.frame.hdr } } }
      due.foldl (fun (s : State) c =>
        s.sendPlp port p { c.frame with hdr := l.ackFields c.frame.hdr })
        (s.setLink p l')

/-! ## Frames the Hamper takes -/

/-- The frame at the head of the Hamper's inbox if it is of a kind, and the state without it. -/
def State.takeInbox (s : State) (kind : Nat) : Option (InFrame × State) :=
  match s.hamper.inbox with
  | [] => none
  | i :: r => if i.frame.hdr.kind.toNat = kind then some (i, { s with hamper := { s.hamper with inbox := r } })
              else none

/-- A frame of a kind is taken from the inbox and written into a buffer (R65); it waits while an update holds the
buffer (R329). -/
def State.takeFrame (s : State) (kind : Nat) (g : State → InFrame → Landing → State) : State :=
  match s.takeInbox kind with
  | none => s
  | some (i, t) => if s.landing i = .waits then s else g (t.landFrame i (s.landing i)) i (s.landing i)

/-- REQUEST_FRAME: on_request of R74. -/
def execRequestFrame (s : State) : Res := .next (s.takeFrame 1 State.onRequest)

/-- The epoch of an opening: the tick's low 16 bits, plus one where that is the previous epoch, known from
the Reply Log or the ledger (R71). -/
def State.openEpoch (s : State) (n : Nat) : Nat :=
  let e := s.tickNo % 65536
  let used := (if (s.session n).log.isEmpty && !(s.session n).isOpen then s.lastEpoch n else some (s.session n).epoch)
  if used = some e then (e + 1) % 65536 else e

/-- An open frame of a session that is not ready for it, is closed, or is open (R70, R71, R72). -/
def State.onOpen (s : State) (i : InFrame) : State :=
  let h := i.frame.hdr
  let n := h.session.toNat
  let x := s.session n
  if !s.hamperReady then s.statusBusy i.peer h
  else if !x.isOpen then
    let e := s.openEpoch n
    (s.setSession n { isOpen := true, peer := i.peer, epoch := e }).status i.peer h 0 e 0
  else if x.peer != i.peer then s.status i.peer h 2 0 0
  else if x.closing.isSome then s.statusBusy i.peer h
  else s.status i.peer h 0 x.epoch x.next

/-- SESSION_OPEN. -/
def execSessionOpen (s : State) : Res := .next (s.takeFrame 4 fun t i _ => t.onOpen i)

/-- No abandon record can ever be written: LFAULT or a sealed ledger (R83, R109, R129). -/
def State.noRecords (s : State) : Bool := s.fb .PR_STAT_LFAULT || s.fb .PR_STAT_SEALED

/-- A close frame (R70, R72). -/
def State.onClose (s : State) (i : InFrame) : State :=
  let h := i.frame.hdr
  let n := h.session.toNat
  let x := s.session n
  if !s.hamperReady then s.statusBusy i.peer h
  else if !x.isOpen then s.status i.peer h 4 0 0
  else if x.peer != i.peer then s.status i.peer h 2 0 0
  else if x.closing.isSome || x.busy || s.noRecords then s.statusBusy i.peer h
  else ((s.setSession n { x with closing := some h }).abandonRecord n 2).pressPump

/-- SESSION_CLOSE. -/
def execSessionClose (s : State) : Res := .next (s.takeFrame 5 fun t i _ => t.onClose i)

/-! ## Link timers -/

/-- LINK_ACK_TIMER: a due acknowledgement goes in a link-only frame (R67). -/
def execLinkAckTimer (peer : Nat) (s : State) : Res :=
  .next (if (s.link peer).ackDue then s.sendLinkOnly peer else s)

/-- LINK_RETRANSMIT: an unacknowledged frame is repeated with current acknowledgement, at most 3 times, on
the peer's current port; where that port cannot carry it, it waits unsent (R66, R67, R464). -/
def execLinkRetransmit (peer : Nat) (lseq : BitVec 16) (s : State) : Res :=
  .next (
    let l := s.link peer
    match l.port, l.out.find? fun c => c.frame.hdr.lseq = lseq && c.sent with
    | some port, some c =>
      if 3 ≤ c.tries then s
      else
        let up := s.laneUp port
        let c' := { c with sent := up, tries := c.tries + 1, port := port,
                           frame := { c.frame with hdr := l.ackFields { c.frame.hdr with
                             flags := BitVec.ofNat 8 (clearBitOf c.frame.hdr.flags.toNat 0) } } }
        let s := s.setLink peer { l with ackDue := if up then false else l.ackDue
                                         out := l.out.map fun d => if d.frame.hdr.lseq = lseq then c' else d }
        let s := s.bump .HM_CNTLINK_LRETX
        if up then s.sendPlp port peer c'.frame else s
    | _, _ => s)

/-- LINK_GIVE_UP: a frame retransmitted 3 times is abandoned and counted (R67). -/
def execLinkGiveUp (peer : Nat) (lseq : BitVec 16) (s : State) : Res :=
  .next (
    let l := s.link peer
    if l.out.any fun c => c.frame.hdr.lseq = lseq && c.sent && decide (3 ≤ c.tries) then
      ((s.setLink peer { l with out := l.out.filter fun c => !(c.frame.hdr.lseq = lseq) }).bump
        .HM_CNTLINK_LGIVEUP).sendWaiting peer linkWindow
    else s)

/-- HELD_FRAME_TRANSMIT: frames removed from a transmit queue go out once a Lane Port can carry them
(R464). -/
def execHeldFrameTransmit (peer : Nat) (s : State) : Res := .next (s.sendUnsent peer)

/-! ## Dispatch, discards, abandonment -/

/-- TASK_QUEUE_DISPATCH: try_dispatch runs again for the sessions held by a class's task queue, in the
order they were held (R74). -/
def execTaskQueueDispatch (cls : Fin 64) (s : State) : Res :=
  .next (s.dispatchEach (s.hamper.heldSess.filter fun n => match (s.session n).at 0 with
      | .queued r => decide (taskQueue (r.hdr.cls.toNat % 64) = taskQueue cls.val)
      | _ => false))

/-- DEADLINE_DISCARD: a queued or dispatched request past its deadline tick is discarded (R79). -/
def execDeadlineDiscard (session : Nat) (d : Fin 16) (s : State) : Res := .next (s.discardLate session d.val)

/-- An abandon record handed to a Press that takes none any more is withdrawn at once (R83, R109). -/
def State.handAbandon (s : State) (n reason : Nat) : State :=
  let t := s.abandonRecord n reason
  if s.noRecords then (t.onPress fun p => { p with devSlots := s.press.devSlots }).withdraw n else t.pressPump

/-- ABANDON_TIMEOUT: the abandon timer expires with NEXT absent (R82). -/
def execAbandonTimeout (session : Nat) (s : State) : Res :=
  .next (
    let x := s.session session
    if x.isOpen && x.timer && x.at 0 == Pos.absent && !s.hamper.rebuilding then
      (s.bump .HM_CNTDISC_ABANDONS).handAbandon session 1
    else s)

/-! ## Rebuild -/

/-- An abandon record that waits in the Press. -/
def DevSlot.isAbandon (d : DevSlot) : Bool :=
  match d.src with
  | .abandonRec _ => true
  | _ => false

/-- A rebuild starts: every session closed, every request lost, and with them the abandon records whose write has not
started, so that no stale one ends an ID that is taken again (R83, R84, R88). -/
def State.startRebuild (s : State) : State :=
  let s := (s.closeAll.onPress fun p => { p with devSlots := p.devSlots.filter fun d => !d.isAbandon }).setF .HM_CTRL_START 1
  { s with hamper := { s.hamper with rebuilding := true } }

/-- HAMPER_REBUILD: the Steward sets HM_CTRL.START (R88, R90). -/
def execHamperRebuild (m : Master) (s : State) : Res :=
  .next (s.present m 0x40100000 fun s =>
    if Master.isSteward m && !s.hamper.rebuilding then s.startRebuild else s)

/-- The sessions of a rebuild, restored (R88). -/
def State.restoreSessions (s : State) : State :=
  let m := s.rebuilt.mapVal fun b => b.sess
  { s with hamper := { s.hamper with sess := m, heldSess := [], rebuilding := false } }

/-- Sessions open now (R90 OPENSESS). -/
def State.openSessions (s : State) : Nat := (s.hamper.sess.entries.filter fun e => e.2.isOpen).length

/-- A rebuild completes: windows and Reply Logs stand as the ledger gives them (R88, R89, R90). -/
def State.finishRebuild (s : State) (us : Nat) : State :=
  let s := s.restoreSessions
  ((s.setF .HM_CTRL_START 0).setF .HM_RBINFO_RESTORED s.openSessions).setF .HM_RBINFO_RBTIME us

/-- The Steward enables the Press once the boot's ledger recovery has ended, and the Hamper once the boot's rebuild has
ended too (R89, R90, R130, R392 step 9). -/
def State.enableService (s : State) : State :=
  let s := if s.trust.pressDue && !s.recovering then
      { s.setF .PR_CTRL_ENABLE 1 with trust := { s.trust with pressDue := false } } else s
  if s.trust.enableDue && !s.recovering && !s.hamper.rebuilding then
    { s.setF .HM_CTRL_ENABLE 1 with trust := { s.trust with enableDue := false } }
  else s

/-- REBUILD_COMPLETE: the rebuild's reads finish; `us` is its duration (R89). -/
def execRebuildComplete (us : BitVec 32) (s : State) : Res :=
  .next (if s.hamper.rebuilding then (s.finishRebuild us.toNat).enableService else s)

/-! ## Request buffers -/

/-- The request that holds a buffer, by session and position. -/
def State.bufHolder (s : State) (buf : Nat) : Option (Nat × Nat × Req) :=
  s.hamper.sess.entries.findSome? fun e =>
    ((numsFrom 0 16).zip e.2.positions).findSome? fun dp => match dp.2 with
      | .queued r => if r.buf = buf then some (e.1, dp.1, r) else none
      | .dispatched r => if r.buf = buf then some (e.1, dp.1, r) else none
      | .committing (some r) => if r.buf = buf then some (e.1, dp.1, r) else none
      | _ => none

/-- SETLIM has completed for a buffer: its request may be dispatched (R65). -/
def State.limSet (s : State) (buf : Nat) : State :=
  match s.bufHolder buf with
  | some (n, d, r) =>
    match (s.session n).at d with
    | .queued _ => (s.setSession n ((s.session n).put d (.queued { r with lim := true }))).tryDispatch n
    | _ => s
  | none => s

end Sys2Proof.Machine
end

