-- ==== Sys2Proof/Machine/Level.lean ====
section
/-! DEFINITION. A core's view of itself: status word, level, domain, windows, control registers, and where
each named register is kept (R199-R206, R222, R274-R277). -/

namespace Sys2Proof.Machine

/-- The value of a control register after CRR (R222). -/
def crReset (n : Nat) : Nat := if n = 24 then 0x7D0 else if n = 27 then 0x1000 else 0

/-- A core-scope control register, as it stands in force (R222). -/
def CoreS.cr (c : CoreS) (n : Nat) : Nat := ((c.crs.find n).map BitVec.toNat).getD (crReset n)

/-- Sets a core-scope control register. -/
def CoreS.setCr (c : CoreS) (n v : Nat) : CoreS := { c with crs := c.crs.set n (BitVec.ofNat 64 v) }

/-- The shape of a core; the Steward's is fixed (R203, R206). -/
def CoreS.shape (c : CoreS) (k : Nat) : Nat := if k = stewardCore then 0 else c.cr 5 % 4

/-- Task sets of a core, and windows of a task set, by shape (R203). -/
def slotsOf (shape : Nat) : Nat := 8 * 2 ^ shape
/-- W (R203). -/
def windowsOf (shape : Nat) : Nat := 16 / 2 ^ shape

/-- Changes the running task set. -/
def CoreS.onTask (c : CoreS) (g : TaskSet → TaskSet) : CoreS :=
  match c.running with
  | some i => c.setSlot i (g (c.slot i))
  | none => c

/-- Sets the status word. -/
def CoreS.setStatus (c : CoreS) (v : Nat) : CoreS :=
  match c.running with
  | some i => c.setSlot i { c.slot i with st := BitVec.ofNat 64 v }
  | none => { c with idleM := c.idleM.map fun _ => BitVec.ofNat 64 v }

/-- A status word with a field replaced. -/
def stPut (st lo n v : Nat) : Nat := st % 2 ^ lo + (v % 2 ^ n) * 2 ^ lo + (st >>> (lo + n)) * 2 ^ (lo + n)

/-- st.CWP (R222). -/
def stCwp (st : Nat) : Nat := bitsOf st 8 4
/-- st.RESW (R222). -/
def stResw (st : Nat) : Nat := bitsOf st 12 4
/-- st.VEN (R222). -/
def stVen (st : Nat) : Bool := bitOf st 3
/-- st.CLASS: true for Bulk (R222). -/
def stBulk (st : Nat) : Bool := bitOf st 4

/-- The core issues for a task, or runs an M handler on no task (R277). -/
def CoreS.active (c : CoreS) : Bool := c.running.isSome || c.idleM.isSome

/-- pcc of the current level (R275). -/
def CoreS.pcc (c : CoreS) : Cap :=
  match c.level, c.running with
  | 0, some i => (c.slot i).pcc
  | 1, some i => (c.slot i).sb.pcc
  | _, _ => c.mb.pcc

/-- Sets pcc of the current level. -/
def CoreS.setPcc (c : CoreS) (v : Cap) : CoreS :=
  match c.level with
  | 0 => c.onTask fun t => { t with pcc := v }
  | 1 => c.onTask fun t => { t with sb := { t.sb with pcc := v } }
  | _ => { c with mb := { c.mb with pcc := v } }

/-- A core's copy of an entry if it has one, else the entry as the Registry holds it. -/
def State.entrySeen (s : State) (k i : Nat) : Entry :=
  match (s.core k).sdc.find? fun e => e.index = i with
  | some e => e.entry
  | none => s.entry i

/-- The domain of a core's accesses: OWNER of the entry pcc names (R167). -/
def State.domain (s : State) (k : Nat) : Nat := (s.entrySeen k (s.core k).pcc.index).owner

/-- A register access comes from level M of core `k` (R293). -/
def State.fromM (s : State) (m : Master) (k : Nat) : Bool :=
  match m with
  | .core j => decide (j.val = k) && (s.core k).level = 2
  | .dev _ => false

/-! ## Where registers are kept -/

/-- Where general register `n` is kept at the current level; none for g0 and for the shared registers of an
idle core (R199-R202, R275, R277). -/
def CoreS.gLoc (c : CoreS) (k n : Nat) : Option GLoc :=
  if n = 0 then none
  else match c.running with
    | none => if n < 16 then none else some (.mbank n)
    | some i =>
      if n < 16 then some (.task i n)
      else match c.level with
        | 0 => some (.win (i * windowsOf (c.shape k) + stCwp c.status) (n - 16))
        | 1 => some (.sbank i n)
        | _ => some (.mbank n)

/-- A capability register that a bank replaces (R275). -/
def bankedC (n : Nat) : Bool := (8 ≤ n && n ≤ 13) || n = 15

/-- Where capability register `n` is kept at the current level (R275, R277). -/
def CoreS.cLoc (c : CoreS) (n : Nat) : Option CLoc :=
  match c.running with
  | none => if bankedC n then some (.mbank n) else none
  | some i =>
    if bankedC n then
      match c.level with
      | 0 => some (.task i n)
      | 1 => some (.sbank i n)
      | _ => some (.mbank n)
    else some (.task i n)

/-- The value kept at a general register's place. -/
def CoreS.readLoc (c : CoreS) : GLoc → Word
  | .task i n => (c.slot i).g.get 0 n
  | .win w i => c.win.get 0 (w, i)
  | .sbank i n => (c.slot i).sb.g.get 0 n
  | .mbank n => c.mb.g.get 0 n

/-- Writes a general register's place. -/
def CoreS.writeLoc (c : CoreS) (v : Word) : GLoc → CoreS
  | .task i n => c.setSlot i { c.slot i with g := (c.slot i).g.set n v }
  | .win w i => { c with win := c.win.set (w, i) v }
  | .sbank i n => c.setSlot i { c.slot i with sb := { (c.slot i).sb with g := (c.slot i).sb.g.set n v } }
  | .mbank n => { c with mb := { c.mb with g := c.mb.g.set n v } }

/-- The value kept at a capability register's place. -/
def CoreS.readCLoc (c : CoreS) : CLoc → Cap
  | .task i n => (c.slot i).c.get nullCap n
  | .sbank i n => (c.slot i).sb.c.get nullCap n
  | .mbank n => c.mb.c.get nullCap n

/-- Writes a capability register's place. -/
def CoreS.writeCLoc (c : CoreS) (v : Cap) : CLoc → CoreS
  | .task i n => c.setSlot i { c.slot i with c := (c.slot i).c.set n v }
  | .sbank i n => c.setSlot i { c.slot i with sb := { (c.slot i).sb with c := (c.slot i).sb.c.set n v } }
  | .mbank n => { c with mb := { c.mb with c := c.mb.c.set n v } }

/-! ## Results under way -/

/-- Writes a result under way to its place (R232, R302). -/
def CoreS.land (c : CoreS) : Flight → CoreS
  | .g l v _ _ => c.writeLoc v l
  | .c l v _ => c.writeCLoc v l
  | .vec => c

/-- Every result under way is written (R302, R232). -/
def CoreS.landAll (c : CoreS) : CoreS := c.flights.foldl CoreS.land { c with flights := [] }

/-- A load's result under way. -/
def Flight.isLoad : Flight → Bool
  | .g _ _ l _ => l
  | .c _ _ _ => true
  | .vec => false

/-- The instruction that comes next is in the load's delay position (R232): only the load itself has been
executed since. -/
def Flight.delayed : Flight → Bool
  | .g _ _ l a => l && decide (a ≤ 1)
  | .c _ _ a => decide (a ≤ 1)
  | .vec => false

/-- The age of a load's result under way. -/
def Flight.loadAge : Flight → Option Nat
  | .g _ _ l a => if l then some a else none
  | .c _ _ a => some a
  | .vec => none

/-- One more instruction has been executed. -/
def Flight.older : Flight → Flight
  | .g l v d a => .g l v d (a + 1)
  | .c l v a => .c l v (a + 1)
  | .vec => .vec

/-- An instruction has been executed: the results under way are older by one. -/
def CoreS.aged (c : CoreS) : CoreS := { c with flights := c.flights.map Flight.older, seq := c.seq + 1 }

/-- The load results are written; long operations go on. -/
def CoreS.landLoads (c : CoreS) : CoreS :=
  (c.flights.filter Flight.isLoad).foldl CoreS.land { c with flights := c.flights.filter fun f => !f.isLoad }

/-- The newest result under way for a general register's place that the next instruction sees. -/
def seenG (l : GLoc) : List Flight → Option Word
  | [] => none
  | f :: r => (seenG l r).or (match f with
    | .g m v d a => if m = l && !(d && decide (a ≤ 1)) then some v else none
    | _ => none)

/-- The newest result under way for a capability register's place. -/
def seenC (l : CLoc) : List Flight → Option Cap
  | [] => none
  | f :: r => (seenC l r).or (match f with
    | .c m v a => if m = l && decide (1 < a) then some v else none
    | _ => none)

/-- A new write of a general register's place: earlier results under way for it are discarded (R232). -/
def dropG (l : GLoc) (fs : List Flight) : List Flight := fs.filter fun f => match f with
  | .g m _ _ _ => !decide (m = l)
  | _ => true

/-- A new write of a capability register's place. -/
def dropC (l : CLoc) (fs : List Flight) : List Flight := fs.filter fun f => match f with
  | .c m _ _ => !decide (m = l)
  | _ => true

end Sys2Proof.Machine
end

