-- ==== Sys2Proof/Machine/SealCmd.lean ====
section
/-! DEFINITION. The commands of the Seal Engines (R145-R155, R463): each operation's row is the start of a
job of that operation on an engine; SEAL_JOB_COMPLETE is its end. -/

namespace Sys2Proof.Machine

/-- ED_VERIFY (R145, R146, R148): an idle engine takes its next job, of this operation (R154). -/
def execEdVerify (e : Fin 8) (s : State) : Res := .next (s.takeJob e.val 1)

/-- ED_SIGN (R146, R148): an idle engine takes its next job, of this operation (R154). -/
def execEdSign (e : Fin 8) (s : State) : Res := .next (s.takeJob e.val 2)

/-- MLDSA_VERIFY (R146, R148): an idle engine takes its next job, of this operation (R154). -/
def execMldsaVerify (e : Fin 8) (s : State) : Res := .next (s.takeJob e.val 3)

/-- MLDSA_SIGN (R146, R148): an idle engine takes its next job, of this operation (R154). -/
def execMldsaSign (e : Fin 8) (s : State) : Res := .next (s.takeJob e.val 4)

/-- VERIFY2 (R153): an idle engine takes its next job, of this operation (R154). -/
def execVerify2 (e : Fin 8) (s : State) : Res := .next (s.takeJob e.val 5)

/-- SHA_512 (R148): an idle engine takes its next job, of this operation (R154). -/
def execSha512 (e : Fin 8) (s : State) : Res := .next (s.takeJob e.val 6)

/-- SHA3_256 (R148): an idle engine takes its next job, of this operation (R154). -/
def execSha3 (e : Fin 8) (s : State) : Res := .next (s.takeJob e.val 7)

/-- SHAKE256 (R148): an idle engine takes its next job, of this operation (R154). -/
def execShake256 (e : Fin 8) (s : State) : Res := .next (s.takeJob e.val 8)

/-- HMAC_SHA_512 (R148): an idle engine takes its next job, of this operation (R154). -/
def execHmacSha512 (e : Fin 8) (s : State) : Res := .next (s.takeJob e.val 9)

/-- GCM_ENC (R148): an idle engine takes its next job, of this operation (R154). -/
def execGcmEnc (e : Fin 8) (s : State) : Res := .next (s.takeJob e.val 10)

/-- GCM_DEC (R148): an idle engine takes its next job, of this operation (R154). -/
def execGcmDec (e : Fin 8) (s : State) : Res := .next (s.takeJob e.val 11)

/-- KEM_ENCAPS (R148, R152): an idle engine takes its next job, of this operation (R154). -/
def execKemEncaps (e : Fin 8) (s : State) : Res := .next (s.takeJob e.val 12)

/-- KEM_DECAPS (R148, R152): an idle engine takes its next job, of this operation (R154). -/
def execKemDecaps (e : Fin 8) (s : State) : Res := .next (s.takeJob e.val 13)

/-- KEYGEN (R152): an idle engine takes its next job, of this operation (R154). -/
def execKeygen (e : Fin 8) (s : State) : Res := .next (s.takeJob e.val 16)

/-- KEYIMPORT (R152): an idle engine takes its next job, of this operation (R154). -/
def execKeyimport (e : Fin 8) (s : State) : Res := .next (s.takeJob e.val 17)

/-- KEYDESTROY (R151): an idle engine takes its next job, of this operation (R154). -/
def execKeydestroy (e : Fin 8) (s : State) : Res := .next (s.takeJob e.val 18)

/-- PUBEXPORT (R148): an idle engine takes its next job, of this operation (R154). -/
def execPubexport (e : Fin 8) (s : State) : Res := .next (s.takeJob e.val 19)

/-- A Press job that ended ENGFAULT goes to another engine, or waits (R463). -/
def State.resendJob (s : State) (e : Nat) (j : PressJob) : State :=
  match s.shortest (removeNum e (numsFrom 0 8)) with
  | some f =>
    if (s.engine f).queue.length < sealDepth then
      s.setEngine f { s.engine f with queue := (s.engine f).queue ++ [.press j] }
    else s.onPress fun p => { p with jobs := p.jobs ++ [j] }
  | none => s.onPress fun p => { p with jobs := p.jobs ++ [j] }

/-- The output of a finished job: its bytes, then the key slot it writes (R148, R152). -/
def State.writeOutput (s : State) (o : JobOut) : State :=
  let s := o.writes.foldl (fun (s : State) w => s.putBytes w.1 w.2) s
  match o.key with
  | some (k, m) => s.storeKey k m
  | none => s

/-- The job that runs writes a slot that another job started with and still uses (R151, R152). -/
def State.mustWait (s : State) (e : Nat) (r : Running) : Bool :=
  match r.out.key with
  | some (k, _) => s.slotInUse e k
  | none => false

/-- A job of the Press ends: its signature is held, or the job is submitted again (R113, R463). -/
def State.finishPress (s : State) (e : Nat) (j : PressJob) (o : JobOut) : State :=
  let s := (s.engineIdle e).countSeal e o.status
  match o.sig with
  | some b => s.noteSignature j.lsn j.isEd b
  | none => s.resendJob e j

/-- A key command's job ends: its result is held and the write answered; one that ended ENGFAULT goes to another engine
(R351, R463). -/
def State.finishKey (s : State) (e : Nat) (j : KeyJob) (status : Nat) : State :=
  if status = 13 then s.resendKey e true j else (s.keyResult status).writeOk j.serves

/-- SEAL_JOB_COMPLETE: the running job ends; its output is written, and then its completion is posted (R148,
R149). A KEYDESTROY or a job that writes a slot waits for the jobs that started with the slot (R151). -/
def execSealJobComplete (e : Fin 8) (s : State) : Res :=
  .next (match (s.engine e.val).running with
    | none => s
    | some r =>
      if s.mustWait e.val r then s
      else match r.job with
        | some j => (s.finishPress e.val j r.out).sendJobs
        | none =>
          let s := ((s.writeOutput r.out).engineIdle e.val).countSeal e.val r.out.status
          match r.keyJob with
          | some j => (s.finishKey e.val j r.out.status).sendJobs
          | none => (s.postSeal r.hdr r.out.status r.out.detail).sendJobs)

/-- The running job is a signing job, whose engine checks its own signature (R155). -/
def State.signing (s : State) (e : Nat) : Bool :=
  match (s.engine e).running with
  | some r => r.hdr.code = 2 || r.hdr.code = 4
  | none => false

/-- SEAL_ENGINE_FAULT: a self-check fails, or an internal fault occurs (R155, R356, R463). -/
def execSealEngineFault (e : Fin 8) (selfCheck : Bool) (s : State) : Res :=
  .next (
    if selfCheck && !s.signing e.val then s
    else if selfCheck then
      ((((s.setF .SE_STAT_FAULT 1 e.val).bump .SE_CNTERR_SELFCHK 1 e.val).faultEngine e.val true).emcy 0xFF05 e.val).sendJobs
    else (((s.setF .SE_STAT_FAULT 1 e.val).faultEngine e.val true).emcy 0xFF05 e.val).sendJobs)

/-- ENTROPY_FAIL: ENTFAIL is set on every engine (R155). -/
def execEntropyFail (s : State) : Res :=
  .next ({ s with seals := { s.seals with entFail := true } }.emcy 0xFF06 0)

/-- ENTROPY_RECOVER: the health tests pass again (R155). -/
def execEntropyRecover (s : State) : Res :=
  .next ({ s with seals := { s.seals with entFail := false } }.emcyEnd 0xFF06)

/-- The Steward clears FAULT; Press jobs that wait may go to the engine (R155, R463). -/
def State.clearFault (s : State) (e : Nat) : State :=
  let s := s.setF .SE_STAT_FAULT 0 e
  let s := if (numsFrom 0 8).any fun f => s.fb .SE_STAT_FAULT f then s else s.emcyEnd 0xFF05
  s.sendJobs

/-- SE_FAULT_CLEAR: refused to any master but the Steward (R155, R157). -/
def execSeFaultClear (m : Master) (e : Fin 8) (s : State) : Res :=
  .next (s.present m (0x40400008 + 0x1000 * e.val) fun s => if Master.isSteward m then s.clearFault e.val else s)

end Sys2Proof.Machine
end

