-- ==== Sys2Proof/Machine/Walker.lean ====
section
/-! DEFINITION. The Registry Walker (R165-R198): the free list, commands and their epochs, caches, the
sweep, and the rows of the family. -/

namespace Sys2Proof.Machine

/-- Changes the registry. -/
def State.onRegistry (s : State) (g : RegistryS → RegistryS) : State := { s with registry := g s.registry }

/-! ## The free list -/

/-- Entries of the registry (R165). -/
def entryCount : Nat := 4194304

/-- Entries on the free list (R196 RW_FREE). -/
def State.freeCount (s : State) : Nat :=
  if s.registry.inited then entryCount - s.registry.freeFrom + s.registry.freed.length else 0

/-- RW_STAT.LOWFREE: the free list that INIT has built is down to RESERVE (R196, R197). -/
def State.lowFree (s : State) : Bool := s.registry.inited && decide (s.freeCount ≤ s.f .RW_CFG_RESERVE)

/-- Quarantined entries (R190, R196). -/
def State.quarantined (s : State) : List Nat :=
  (s.registry.entries.entries.filter fun e => e.2.quar).map Prod.fst

/-- The head of the free list, and the registry without it; freed entries stand behind those never used
(log entry 25). -/
def State.takeFree (s : State) : Option (Nat × State) :=
  if !s.registry.inited then none
  else if s.registry.freeFrom < entryCount then
    some (s.registry.freeFrom, s.onRegistry fun r => { r with freeFrom := r.freeFrom + 1 })
  else match s.registry.freed with
    | [] => none
    | i :: l => some (i, s.onRegistry fun r => { r with freed := l })

/-- Puts an entry on the free list. -/
def State.putFree (s : State) (i : Nat) : State := s.onRegistry fun r => { r with freed := r.freed ++ [i] }

/-! ## Caches -/

/-- Sizes of an SDC, and of a set of a Tile Registry cache (R168). -/
def sdcSize : Nat := 64
/-- Ways of a Tile Registry cache. -/
def tileWays : Nat := 4

/-- A copy that an invalidate of `i` removes (R170). -/
def CEntry.names (e : CEntry) (i : Nat) : Bool := e.index = i || e.ancestors.contains i

/-- A copy made the most recently used of a core's SDC (R168). -/
def State.sdcPut (s : State) (k : Nat) (e : CEntry) : State :=
  s.onCore k fun c => { c with sdc := List.take sdcSize (e :: c.sdc.filter fun x => x.index != e.index) }

/-- A copy put into a tile's Registry cache: at most four of its set (R168). -/
def tileInsert (e : CEntry) (l : List CEntry) : List CEntry :=
  let l := l.filter fun x => x.index != e.index
  let mine := (l.filter fun x => decide (x.index % 512 = e.index % 512)).take (tileWays - 1)
  e :: mine ++ l.filter fun x => !decide (x.index % 512 = e.index % 512)

/-- Puts a copy into the caches of a core (R168). -/
def State.cachePut (s : State) (k : Nat) (e : CEntry) : State :=
  let s := s.sdcPut k e
  if k = stewardCore then s
  else s.onRegistry fun r => { r with tile := r.tile.set (tileOf k) (tileInsert e (r.tile.get [] (tileOf k))) }

/-- An invalidate of `i` removes the copies of R170 from every cache. -/
def State.invalidate (s : State) (i : Nat) : State :=
  let s := { s with cores := s.cores.mapVal fun c =>
    { c with sdc := c.sdc.filter (fun e => !e.names i), fillFail := c.fillFail.filter fun x => x.1 != i } }
  s.onRegistry fun r => { r with tile := r.tile.mapVal fun l => l.filter fun e => !e.names i }

/-- What a core's look for an entry yields: it, a wait for the Walker, or the fault of check 4. -/
inductive Fetched where
  | hit (s : State) (e : Entry)
  | wait (s : State)
  | fail (s : State) (f : CFault)

/-- The INDEX of the fill a core waits for. -/
def CoreS.filling (c : CoreS) : Option Nat := c.fill.map FillReq.index

/-- A core waits for a fill of INDEX `i`, for a capability with GEN `g`; under a hold its read has not begun
(R168, R184). A fill it waits for already goes on. -/
def State.askFill (s : State) (k i g : Nat) : State :=
  if (s.core k).filling = some i then s
  else s.onCore k fun c => { c with fill := some { index := i, gen := g, waits := s.indexHeld i } }

/-- Check 4 of R171 for a capability with INDEX `i` and GEN `g`: the SDC, the tile cache, the answer of a
fill, or a fill to wait for (R168). -/
def State.entryFor (s : State) (k i g : Nat) : Fetched :=
  let c := s.core k
  match c.sdc.find? fun e => e.index = i with
  | some e => .hit (s.sdcPut k e) e.entry
  | none =>
    match s.tileFind k i with
    | some e => .hit (s.cachePut k e) e.entry
    | none =>
      match c.fillFail.find? fun x => x.1 = i with
      | some (_, f) => .fail (s.onCore k fun c => { c with fillFail := c.fillFail.filter fun x => x.1 != i }) f.fault
      | none => .wait (s.askFill k i g)

/-- The ancestors of an entry that a fill reads, nearest first: up to the root, or to the first whose check
fails (R168). -/
def State.chainRead (s : State) (k : Nat) (e : Entry) : Nat → List Nat
  | 0 => []
  | n + 1 =>
    if e.depth = 0 then []
    else
      let p := s.ancestorRead k e.parent
      e.parent :: (if !p.valid || p.gen != e.pgen then [] else s.chainRead k p n)

/-- Entry reads from DRAM that a fill makes: the entry, and the ancestors it reads that the tile cache
lacks (R168). -/
def State.fillReads (s : State) (k i : Nat) : Nat :=
  if !s.fb .RW_CTRL_ENABLE then 0
  else 1 + ((s.chainRead k (s.entry i) 3).filter fun a => (s.tileFind k a).isNone).length

/-- A fill for a core ends (R168, R169); one that finds a stale GEN or an orphan is counted (R197). -/
def State.finishFill (s : State) (k : Nat) (r : FillReq) (ecc : Bool) : State :=
  let i := r.index
  let s := s.bump .RW_CNTFILL_WALKS (s.fillReads k i)
  let done (s : State) (f : List (Nat × FillFail)) : State :=
    s.onCore k fun c => { c with fill := none, fillFail := f ++ c.fillFail }
  if ecc then done ((s.setF .RW_STAT_ECCERR 1).emcy 0xFF04 i) [(i, .index)]
  else match s.fillOf k i with
    | .ok e => done ((s.cachePut k e).bump .RW_CNTFILL_STALEFILL (b2n (e.entry.gen != r.gen))) []
    | .error .index => done s [(i, .index)]
    | .error .generation => done (s.bump .RW_CNTFILL_STALEFILL) [(i, .generation)]

/-- A fill whose read began before a hold is discarded, and repeated once the hold is released (R186). -/
def State.discardFill (s : State) (k : Nat) (r : FillReq) : State :=
  (s.onCore k fun c => { c with fill := some { r with stale := false, waits := s.indexHeld r.index } }).bump
    .RW_CNTFILL_RETRIED

/-- REGISTRY_FILL_COMPLETE: the fill a core waits for returns. One whose read began before a hold is discarded and
repeated, and one that waits under a hold has not begun its read (R168, R169, R184, R186). -/
def execRegistryFillComplete (k : CoreId) (index : BitVec 22) (ecc : Bool) (s : State) : Res :=
  .next (match (s.core k.val).fill with
    | some r =>
      if r.index != index.toNat then s
      else if r.stale then s.discardFill k.val r
      else if s.indexHeld index.toNat then s
      else s.finishFill k.val r ecc
    | none => s)

/-! ## Commands -/

/-- The statuses of R198. -/
def wOk : Nat := 0
def wWrapped : Nat := 1
def wDenied : Nat := 2
def wNoEntry : Nat := 3
def wFull : Nat := 4
def wFormat : Nat := 5

/-- The command comes from the Steward's block. -/
def WalkCmd.isSteward (c : WalkCmd) : Bool := c.by_ = .block stewardCore

/-- The command block whose registers a command uses. -/
def WalkCmd.blk (c : WalkCmd) : Nat :=
  match c.by_ with
  | .block b => b
  | _ => 0

/-- The fields of ARG0 to ARG2 keep R165 and R166. -/
def State.argsOk (s : State) (b : Nat) : Bool :=
  !s.registry.argBad.contains (b, 0) && !s.registry.argBad.contains (b, 2) &&
  let base := s.f .RW_ARG0_BASE b
  let limit := s.f .RW_ARG1_LIMIT b
  decide (s.f .RW_ARG1_MAXRIGHTS b < 2 ^ 11) &&
  match s.f .RW_ARG2_TYPE b with
  | 1 | 2 => base % 16 = 0 && decide (base + limit ≤ 0xFFFFFFFFFF)
  | 3 => decide (base < 1024) && limit = 0
  | 4 => decide (1 ≤ base) && decide (base + limit ≤ 0xFFFE)
  | 5 => base % 8 = 0 && decide (0x40000000 ≤ base) && decide (base + limit ≤ 0x40FFFFFF)
  | _ => false

/-- ALLOC's fields at level S (R189). -/
def State.allocS (s : State) (b dom : Nat) : Bool :=
  (s.f .RW_ARG2_TYPE b = 1 || s.f .RW_ARG2_TYPE b = 2) && s.f .RW_ARG2_COLOUR b = 0 &&
  !s.fb .RW_ARG2_PEGGED b && !s.fb .RW_ARG2_LEDGERONLY b && s.f .RW_ARG2_OWNER b = dom

/-- A MODIFY at level S that R189 denies. -/
def State.modifyTooMuch (s : State) (c : WalkCmd) : Bool :=
  (bitOf c.mask 3 && s.fb .RW_ARG2_PEGGED c.blk) || (bitOf c.mask 4 && s.fb .RW_ARG2_LEDGERONLY c.blk) ||
  (bitOf c.mask 2 && s.f .RW_ARG2_COLOUR c.blk != 0)

/-- A configuration record that names an application parameter, the content of the Steward's LEDGERONLY segment, is
durable (R100, R189, R352; log entry 90). -/
def State.changeNamed (s : State) : Bool :=
  s.records.any fun r => match r.body with
    | .dev (.config index _ _ _ _ _ _ _) => decide (0x4100 ≤ index.toNat) && decide (index.toNat ≤ 0x410F)
    | _ => false

/-- A REVOKE, FREE or MODIFY of an entry that R189 denies. -/
def State.changeDenied (s : State) (c : WalkCmd) (e : Entry) : Bool :=
  if c.level = 2 then e.ledgerOnly && !(c.isSteward && s.changeNamed)
  else e.pegged || e.ledgerOnly || e.owner != c.dom || (c.op = 4 && s.modifyTooMuch c)

/-- MODIFY's fields keep R165: the reserved bits of ARG2, and of MAXRIGHTS if that is to change. -/
def State.modifyOk (s : State) (c : WalkCmd) : Bool :=
  !s.registry.argBad.contains (c.blk, 2) && !(bitOf c.mask 0 && decide (2 ^ 11 ≤ s.f .RW_ARG1_MAXRIGHTS c.blk))

/-- The status a command ends with before it acts, or 0 (R189, R198; log entry 26 gives the order). -/
def State.walkStatus (s : State) (c : WalkCmd) : Nat :=
  let e := s.entry c.index
  if !(1 ≤ c.op && c.op ≤ 5) then wFormat
  else if 32 ≤ c.mask || (c.op = 4 && !s.modifyOk c) then wFormat
  else if c.op = 1 && !s.argsOk c.blk then wFormat
  else if c.level = 0 then wDenied
  else if c.op = 1 then
    if c.level = 1 && !s.allocS c.blk c.dom then wDenied
    else if s.freeCount = 0 then wFull else wOk
  else if c.index = 0 || !e.valid || e.quar then wNoEntry
  else if c.op = 5 then (if c.level = 1 && e.owner != c.dom then wDenied else wOk)
  else if s.changeDenied c e then wDenied
  else wOk

/-- A command completes: its RESULT, if it has one, and the counters (R197, R198). A command that changes nothing gives
the INDEX it named and the GEN that entry has (DESIGN CHOICE, log entry 123). -/
def State.walkDone (s : State) (c : WalkCmd) (index gen status : Nat) : State :=
  let s := (s.bump .RW_CNTCMD_COMMANDS).bump .RW_CNTCMD_DENIED (b2n (status = wDenied))
  match c.by_ with
  | .block b =>
    let s := ((s.setF .RW_RESULT_INDEX index b).setF .RW_RESULT_GEN gen b).setF .RW_RESULT_STATUS status b
    s.setF .RW_RESULT_DONE 1 b
  | .darner => s.bump .RW_CNTCMD_ORPHANS (b2n (status ≤ wWrapped))
  | .core k => s.onCore k fun c =>
      if c.walkWait = some index then { c with walkWait := none, walkDone := some index } else c
  | .hamper _ => s

/-- ALLOC: the head of the free list becomes a root entry with the fields of ARG0 to ARG2 (R198). -/
def State.doAlloc (s : State) (c : WalkCmd) : State :=
  match s.takeFree with
  | none => s.walkDone c 0 (s.entry 0).gen wFull
  | some (i, s1) =>
    let b := c.blk
    let e : Entry := {
      base := s.f .RW_ARG0_BASE b, limit := s.f .RW_ARG1_LIMIT b, gen := (s.entry i).gen,
      owner := s.f .RW_ARG2_OWNER b, ty := s.f .RW_ARG2_TYPE b, valid := true,
      pegged := s.fb .RW_ARG2_PEGGED b, ledgerOnly := s.fb .RW_ARG2_LEDGERONLY b,
      colour := s.f .RW_ARG2_COLOUR b, maxRights := s.f .RW_ARG1_MAXRIGHTS b, xseal := s.f .RW_ARG1_XSEAL b }
    (s1.setEntry i e).walkDone c i e.gen wOk

/-- READ: the entry's fields in ARG0 to ARG2 (R198, R197). -/
def State.doRead (s : State) (c : WalkCmd) : State :=
  let b := c.blk
  let e := s.entry c.index
  let s := ((s.setF .RW_ARG0_BASE e.base b).setF .RW_ARG1_LIMIT e.limit b).setF .RW_ARG1_XSEAL e.xseal b
  let s := ((s.setF .RW_ARG1_MAXRIGHTS e.maxRights b).setF .RW_ARG2_OWNER e.owner b).setF .RW_ARG2_TYPE e.ty b
  let s := ((s.setF .RW_ARG2_COLOUR e.colour b).setF .RW_ARG2_PEGGED (b2n e.pegged) b).setF .RW_ARG2_LEDGERONLY (b2n e.ledgerOnly) b
  (s.onRegistry fun r => { r with
    argExtra := r.argExtra.set b (e.pgen, e.depth), argBad := r.argBad.filter fun x => x.1 != b }).walkDone c c.index e.gen wOk

/-- GEN raised, or the entry quarantined (R183, R190). -/
def Entry.retire (e : Entry) : Entry :=
  if e.gen = 0xFFFF then { e with quar := true, valid := false } else { e with gen := e.gen + 1 }

/-- The entry after a REVOKE, FREE, MODIFY or RECYCLE (R183, R190, R198). -/
def State.changed (s : State) (c : WalkCmd) (e : Entry) : Entry :=
  match c.op with
  | 2 => e.retire
  | 3 => { e.retire with valid := false }
  | 7 => { e.retire with limit := 0 }
  | _ =>
    let b := c.blk
    let e := if bitOf c.mask 0 then { e with maxRights := s.f .RW_ARG1_MAXRIGHTS b } else e
    let e := if bitOf c.mask 1 then { e with xseal := s.f .RW_ARG1_XSEAL b } else e
    let e := if bitOf c.mask 2 then { e with colour := s.f .RW_ARG2_COLOUR b } else e
    let e := if bitOf c.mask 3 then { e with pegged := s.fb .RW_ARG2_PEGGED b } else e
    if bitOf c.mask 4 then { e with ledgerOnly := s.fb .RW_ARG2_LEDGERONLY b } else e

/-- The fills of an INDEX that cores wait for, changed. -/
def State.onFills (s : State) (i : Nat) (g : FillReq → FillReq) : State :=
  { s with cores := s.cores.mapVal fun c => { c with fill := c.fill.map fun r => if r.index = i then g r else r } }

/-- Steps 1 and 2 of R184: the hold, and the new entry written. The fills whose reads have begun are stale (R186). -/
def State.walkStart (s : State) (c : WalkCmd) : State :=
  let e := s.entry c.index
  let s := s.onFills c.index fun r => { r with stale := r.stale || !r.waits }
  let st := if c.op != 4 && e.gen = 0xFFFF then wWrapped else wOk
  let e := s.changed c e
  (s.setEntry c.index e).onRegistry fun r => { r with cmd := some ⟨c, st, e.gen⟩ }

/-- The Hamper's own commands (R65, R198): SETLIM acts at once and needs no epoch, RECYCLE starts; an entry that is not
VALID is NOENTRY for both. -/
def State.walkHamper (s : State) (c : WalkCmd) (buf : Nat) : State :=
  let e := s.entry c.index
  let here := c.index != 0 && e.valid && !e.quar
  if c.op = 6 then
    let s := if here then s.setEntry c.index { e with limit := c.mask } else s
    (s.walkDone c c.index e.gen (if here then wOk else wNoEntry)).limSet buf
  else if here then s.walkStart c
  else
    let s := s.walkDone c c.index e.gen wNoEntry
    { s with hamper := { s.hamper with bufs := s.hamper.bufs.erase buf } }

/-- The Walker takes the command at the head of those waiting: ALLOC, READ and those refused complete at
once, the others start (R184, R187). It reads ARG0 to ARG2 when it takes the command (DESIGN CHOICE, log entry 122). -/
def State.walkTake (s : State) (c : WalkCmd) : State :=
  match c.by_ with
  | .hamper buf => s.walkHamper c buf
  | _ =>
    let st := s.walkStatus c
    if st != wOk then s.walkDone c c.index (s.entry c.index).gen st
    else if c.op = 1 then s.doAlloc c
    else if c.op = 5 then s.doRead c
    else s.walkStart c

/-- The Walker takes waiting commands in arrival order until one is under way; while ENABLE is 0 it serves
none (R187, R197). -/
def State.walkPump (s : State) : Nat → State
  | 0 => s
  | n + 1 =>
    if s.registry.cmd.isSome || !s.fb .RW_CTRL_ENABLE then s
    else match s.registry.waiting with
      | [] => s
      | c :: l => ((s.onRegistry fun r => { r with waiting := l }).walkTake c).walkPump n

/-- A command joins those waiting, and the Walker takes what it can. -/
def State.walkAdd (s : State) (c : WalkCmd) : State :=
  let s := s.onRegistry fun r => { r with waiting := r.waiting ++ [c] }
  s.walkPump s.registry.waiting.length

/-- The block's earlier command has not completed (R197). -/
def State.blockBusy (s : State) (b : Nat) : Bool :=
  s.registry.waiting.any (fun c => c.by_ = .block b) ||
  (match s.registry.cmd with | some r => r.cmd.by_ = .block b | none => false) ||
  s.registry.quiet.any fun r => r.run.cmd.by_ = .block b

/-- A master that owns a command block (R197). -/
def ownsBlock (m : Master) (b : Nat) : Bool :=
  match m with
  | .core k => decide (k.val = b)
  | .dev _ => Master.isSteward m && b = stewardCore

/-- A write of RW_CMD[b]: stored, and the command starts (R197). -/
def State.writeCmd (s : State) (m : Master) (b op index mask : Nat) : State :=
  if !ownsBlock m b || s.blockBusy b then s
  else
    let s := ((s.setF .RW_CMD_OP op b).setF .RW_CMD_INDEX index b).setF .RW_CMD_MODMASK mask b
    let s := (s.setF .RW_RESULT_DONE 0 b).setF .RW_RESULT_EPOCH 0 b
    let lvl := if b = stewardCore then 2 else (s.core b).level
    s.walkAdd { by_ := .block b, op := op, index := index, mask := mask, level := lvl, dom := s.domain b }

/-- A master presents a write of RW_CMD[b] (R197). -/
def State.askCmd (s : State) (m : Master) (b op index mask : Nat) : State :=
  s.present m (0x40510000 + 64 * b) fun s => s.writeCmd m b op index mask

/-- ALLOC (R198). -/
def execAlloc (m : Master) (b : CoreId) (s : State) : Res := .next (s.askCmd m b.val 1 0 0)

/-- REVOKE (R183, R184). -/
def execRevoke (m : Master) (b : CoreId) (index : BitVec 22) (s : State) : Res :=
  .next (s.askCmd m b.val 2 index.toNat 0)

/-- FREE (R183, R184). -/
def execFree (m : Master) (b : CoreId) (index : BitVec 22) (s : State) : Res :=
  .next (s.askCmd m b.val 3 index.toNat 0)

/-- MODIFY (R183, R184). -/
def execModify (m : Master) (b : CoreId) (index : BitVec 22) (mask : BitVec 16) (s : State) : Res :=
  .next (s.askCmd m b.val 4 index.toNat mask.toNat)

/-- READ (R198). -/
def execRegistryRead (m : Master) (b : CoreId) (index : BitVec 22) (s : State) : Res :=
  .next (s.askCmd m b.val 5 index.toNat 0)

/-- SETLIM: the Hamper asks the Walker, over its own path, to make the LIMIT of a queued request's buffer entry PAYLEN - 1
(R65, R198). -/
def execSetlim (buf : Nat) (s : State) : Res :=
  .next (match s.bufHolder buf with
    | some (_, _, r) =>
      if r.hdr.paylen = 0 || r.lim || decide (bufferCount ≤ buf) || s.registry.waiting.any (fun c => c.by_ = .hamper buf) then s
      else s.walkAdd { by_ := .hamper buf, op := 6, index := s.f .HM_BUFIDX_FIRST + buf, mask := r.hdr.paylen.toNat - 1 }
    | none => s)

/-- RECYCLE: the Hamper revokes a freed buffer's entry with LIMIT 0 over its own path (R65, R198). -/
def execRecycle (buf : Nat) (s : State) : Res :=
  .next (
    if s.hamper.bufs.find buf = some .recycleDue && decide (buf < bufferCount) then
      (s.setBuf buf .recycling).walkAdd { by_ := .hamper buf, op := 7, index := s.f .HM_BUFIDX_FIRST + buf }
    else s)

/-! ## Epoch and quiet -/

/-- A core's accesses under way: its loads and its store buffer (R185). -/
def CoreS.accessing (c : CoreS) : Bool := !c.store.isEmpty || c.flights.any Flight.isLoad

/-- What a command waits for once its epoch has come: the engines and cores with accesses checked before this cycle
(R184, R185). -/
def State.quietRun (s : State) (r : WalkRun) : QuietRun where
  run := r
  engines := (numsFrom 0 8).filter fun e => (s.engine e).running.isSome
  cores := (s.cores.entries.filter fun e => e.2.accessing).map fun e => (e.1, e.2.seq, e.2.pushed)

/-- A core still has a load or a store buffer entry under way of those checked before it had completed `q` instructions
and made `p` entries. -/
def CoreS.since (c : CoreS) (q p : Nat) : Bool :=
  c.flights.any (fun f => match f.loadAge with | some a => decide (c.seq - q < a) | none => false) ||
  (!c.store.isEmpty && decide (c.pushed < p + c.store.length))

/-- What the epoch does for who asked (R65, R180, R183). -/
def State.epochEffect (s : State) (r : WalkRun) : State :=
  let s := if r.cmd.op = 3 && r.status = wOk then s.putFree r.cmd.index else s
  match r.cmd.by_ with
  | .block b => s.setF .RW_RESULT_EPOCH 1 b
  | .hamper buf =>
    if r.status = wWrapped then s.setBuf buf .quarantined
    else { s with hamper := { s.hamper with bufs := s.hamper.bufs.erase buf } }
  | .core k => s.onCore k fun c => { c with walkWait := none, walkDone := some r.cmd.index }
  | .darner => s

/-- Steps 3 and 4 of R184: the invalidate, and the epoch. -/
def State.epoch (s : State) (r : WalkRun) : State :=
  let s := (s.invalidate r.cmd.index).bump .RW_EPOCH_EPOCHS
  let w := s.quietRun r
  let s := s.onRegistry fun g => { g with cmd := none, quiet := g.quiet ++ [w] }
  let s := (s.epochEffect r).walkPump s.registry.waiting.length
  if s.indexHeld r.cmd.index then s else s.onFills r.cmd.index fun x => { x with waits := false }

/-- WALKER_EPOCH: the last acknowledgement arrives (R184). -/
def execWalkerEpoch (s : State) : Res :=
  .next (match s.registry.cmd with
    | none => s
    | some r => s.epoch r)

/-- An access checked before the epoch is still under way (R184, R185). -/
def State.underWay (s : State) (x : QuietRun) : Bool :=
  !x.engines.isEmpty || x.cores.any fun c => (s.core c.1).since c.2.1 c.2.2

/-- WALKER_QUIET: every access checked before the epoch has completed; the completion is posted (R184). -/
def execWalkerQuiet (s : State) : Res :=
  .next (match s.registry.quiet with
    | [] => s
    | x :: l =>
      if s.underWay x then s
      else (s.onRegistry fun g => { g with quiet := l }).walkDone x.run.cmd x.run.cmd.index x.run.gen x.run.status)

/-- A command past its epoch waits for a core no more. -/
def QuietRun.dropCore (k : Nat) (x : QuietRun) : QuietRun := { x with cores := x.cores.filter fun c => c.1 != k }

/-- A core's accesses have completed: no epoch waits for it any more (R184). -/
def State.settle (s : State) (k : Nat) : State :=
  if (s.core k).accessing then s else s.onRegistry fun g => { g with quiet := g.quiet.map (QuietRun.dropCore k) }

/-! ## The sweep -/

/-- SWEEPAT; 0 acts as 1,024 (R196). -/
def State.sweepAt (s : State) : Nat := if s.f .RW_CFG_SWEEPAT = 0 then 1024 else s.f .RW_CFG_SWEEPAT

/-- A sweep starts with the quarantined entries of now (R191). -/
def State.startSweep (s : State) (byStart : Bool) : State :=
  (s.setF .RW_STAT_SWEEPING 1).onRegistry fun r => { r with sweepSet := s.quarantined, sweepByStart := byStart }

/-- A write of 1 to RW_SWEEP.START (R196). -/
def State.askSweep (s : State) : State :=
  let s := s.setF .RW_SWEEP_START 1
  if s.fb .RW_STAT_SWEEPING then s else s.startSweep true

/-- SWEEP_START: the Steward writes START, or the Darner finds RW_FREE.QUAR at SWEEPAT (R191). -/
def execSweepStart (m : Master) (s : State) : Res :=
  .next (
    if Master.isSteward m then s.present m 0x40500028 State.askSweep
    else if m = .dev 46 && !s.fb .RW_STAT_SWEEPING && decide (s.sweepAt ≤ s.quarantined.length) then s.startSweep false
    else s)

/-- A value's tag is cleared where its INDEX is in the set. -/
def sweepCap (l : List Nat) (c : Cap) : Cap := if l.contains c.index then { c with tag := false } else c

/-- A bank swept. -/
def BankR.sweep (l : List Nat) (b : BankR) : BankR :=
  { b with c := b.c.mapVal (sweepCap l), pcc := sweepCap l b.pcc, spcc := sweepCap l b.spcc }

/-- A task set swept. -/
def TaskSet.sweep (l : List Nat) (t : TaskSet) : TaskSet :=
  { t with c := t.c.mapVal (sweepCap l), pcc := sweepCap l t.pcc, sb := t.sb.sweep l }

/-- A core swept: registers, banks, results under way, store buffer (R191; log entry 27). -/
def CoreS.sweep (l : List Nat) (c : CoreS) : CoreS :=
  { c with
    slots := c.slots.mapVal (TaskSet.sweep l), mb := c.mb.sweep l
    flights := c.flights.map fun f => match f with
      | .c p v a => .c p (sweepCap l v) a
      | x => x
    store := c.store.map fun e => match e with
      | .capab g v => .capab g (sweepCap l v)
      | x => x }

/-- A queue swept (log entry 27). -/
def Queue.sweep (l : List Nat) (q : Queue) : Queue :=
  { q with ents := q.ents.map fun e => { e with grans := e.grans.map (sweepCap l) } }

/-- Every tag whose value's INDEX is in the set is cleared, wherever it is held (R191). -/
def State.sweepTags (s : State) (l : List Nat) : State :=
  { s with
    tags := s.tags.filter fun g => !l.contains (Cap.index ⟨BitVec.ofNat 128 (leNat (s.bytes (16 * g) 16)), true⟩)
    cores := s.cores.mapVal (CoreS.sweep l)
    queues := s.queues.mapVal (Queue.sweep l) }

/-- The request buffer whose entry has INDEX `i` (R65). -/
def State.bufOfIndex (s : State) (i : Nat) : Option Nat :=
  let b := s.f .HM_BUFIDX_FIRST
  if b != 0 && decide (b ≤ i) && decide (i < b + bufferCount) then some (i - b) else none

/-- Step 4 of R191 for one entry: GEN 1, QUAR 0, and the free list. A request buffer whose entry the sweep has covered
is no longer out of use (R65; log entry 43). -/
def State.unquarantine (s : State) (i : Nat) : State :=
  let s := (s.setEntry i { s.entry i with gen := 1, quar := false }).putFree i
  match s.bufOfIndex i with
  | some b => { s with hamper := { s.hamper with bufs := s.hamper.bufs.erase b } }
  | none => s

/-- A sweep ends (R191, R196). -/
def State.finishSweep (s : State) (ms : Nat) : State :=
  let l := s.registry.sweepSet
  let by_ := s.registry.sweepByStart
  let s := l.foldl State.unquarantine (s.sweepTags l)
  let s := ((s.setF .RW_STAT_SWEEPING 0).setF .RW_SWEEP_LASTMS ms).bump .RW_SWEEP_SWEEPS
  let s := s.onRegistry fun r => { r with sweepSet := [], sweepByStart := false }
  if by_ then s.setF .RW_SWEEP_START 0
  else if s.fb .RW_SWEEP_START then s.startSweep true
  else s

/-- SWEEP_COMPLETE (R191). -/
def execSweepComplete (ms : BitVec 20) (s : State) : Res :=
  .next (if s.fb .RW_STAT_SWEEPING then s.finishSweep ms.toNat else s)

/-! ## Patrol and INIT -/

/-- An entry whose chain of ancestors fails (R168). -/
def State.isOrphan (s : State) (i : Nat) : Bool :=
  (s.entry i).valid && (s.ancestry stewardCore (s.entry i) 3).isNone

/-- REGISTRY_PATROL: the Darner visits an entry and frees it if it is an orphan (R193). -/
def execRegistryPatrol (index : BitVec 22) (s : State) : Res :=
  .next (if s.isOrphan index.toNat then s.walkAdd { by_ := .darner, op := 3, index := index.toNat } else s)

/-- INIT: every entry invalid with GEN 1, every tag cleared, the free list built (R195). -/
def State.registryInit (s : State) : State :=
  let s := s.onRegistry fun r => { r with
    entries := emptyMap, bufRun := none, inited := true, freeFrom := 1, freed := [], sweepSet := [] }
  { s.setF .RW_EPOCH_EPOCHS 0 with tags := [] }

/-- REGISTRY_INIT: refused to any master but the Steward (R195, R196). -/
def execRegistryInit (m : Master) (s : State) : Res :=
  .next (s.present m 0x40500000 fun s => if Master.isSteward m then s.registryInit else s)

end Sys2Proof.Machine
end

