-- ==== Sys2Proof/Machine/Entry.lean ====
section
/-! DEFINITION. Entry to levels S and M, return from them, escalation and check-stop, interrupts and NIB
budgets (R223, R277, R280-R292, R314, R315). -/

namespace Sys2Proof.Machine

/-! ## Cause codes -/

/-- Illegal Instruction (R280). -/
def cIllegal : Nat := 0x01
/-- Breakpoint. -/
def cBreak : Nat := 0x02
/-- Bounds fault. -/
def cBounds : Nat := 0x09
/-- Guard fault. -/
def cGuard : Nat := 0x0C
/-- Target Refusal. -/
def cRefusal : Nat := 0x0D
/-- Registry Full fault. -/
def cFull : Nat := 0x0E
/-- Arithmetic overflow. -/
def cOverflow : Nat := 0x0F
/-- Divide by zero. -/
def cDivZero : Nat := 0x10
/-- Spill fault. -/
def cSpill : Nat := 0x11
/-- Privilege Ceiling fault. -/
def cCeiling : Nat := 0x12
/-- Return Capability fault. -/
def cReturn : Nat := 0x13
/-- Machine Check. -/
def cMachine : Nat := 0x14
/-- System Call 0. -/
def cScall : Nat := 0x20
/-- Interrupts (R280). -/
def cStart : Nat := 0x40
def cDoorbell : Nat := 0x41
def cTick : Nat := 0x42
def cSreq : Nat := 0x48
def cStopped : Nat := 0x49

/-- The cause code of a failing check (R280). -/
def CFault.code : CFault → Nat
  | .tag => 0x03
  | .format => 0x04
  | .sealed => 0x05
  | .index => 0x06
  | .generation _ => 0x07
  | .rights => 0x08
  | .bounds => 0x09
  | .colour => 0x0A
  | .tagStore => 0x0B
  | .guard => 0x0C
  | .refusal => 0x0D

/-- FINFO.CHECK of a fault (R222, R280). -/
def CFault.finfoCheck : CFault → Nat
  | .refusal => 0
  | f => f.check

/-- Causes whose target is M (R280). -/
def targetsM (code : Nat) : Bool :=
  code = cGuard || code = cCeiling || code = cReturn || code = cMachine

/-- FINFO (R222). -/
def finfo (creg check : Nat) (half fetch : Bool) : Nat :=
  creg + 16 * check + 256 * b2n half + 1024 * b2n fetch

/-- FINFO of a vector element's fault (R222). -/
def finfoVec (creg check elem : Nat) : Nat := creg + 16 * check + 512 + 65536 * elem

/-- An exception: its cause code, FINFO, FOFS. -/
structure Exc where
  code : Nat
  finfo : Nat := 0
  fofs : Int := 0
  deriving DecidableEq, Repr

/-- A capability fault as an exception: which register, the fault, the effective offset, which half (R222). -/
def capExc (creg : Nat) (f : CFault) (ofs : Int) (half : Bool := false) (fetch : Bool := false) : Exc :=
  ⟨f.code, finfo creg f.finfoCheck half fetch, ofs⟩

/-! ## Pending control-register writes -/

/-- The bits a control register of core scope stores (R222, R223). -/
def crMask (n : Nat) : Nat :=
  if n = 5 then 3 else if n = 24 then 0x7FF else if n = 27 then 0x1FFF
  else if 14 ≤ n && n ≤ 23 then 0x3FFFFFFFFFFFFFFC else 2 ^ 64 - 1

/-- SDCINV drops copies from the core's own SDC (R170, R222). -/
def CoreS.dropCopies (c : CoreS) (v : Nat) : CoreS :=
  if bitOf v 63 then { c with sdc := [] } else { c with sdc := c.sdc.filter fun e => !e.names (bitsOf v 0 22) }

/-- A control register takes a written value (R205, R221, R222). -/
def CoreS.putCr (c : CoreS) (w : Nat × Word) : CoreS :=
  let v := w.2.toNat
  match w.1 with
  | 5 => { c.setCr 5 (v % 4) with win := emptyMap }
  | 6 => c.onTask fun t => { t with arith := BitVec.ofNat 64 (v % 8) }
  | 26 => c.dropCopies v
  | 27 => { c.setCr 27 (v % 2 ^ 13) with vreqOff := c.vreqOff || bitOf v 13 }
  | n => c.setCr n (v &&& crMask n)

/-- The pending writes take effect (R314, R315). -/
def CoreS.applyWrites (c : CoreS) : CoreS := c.csync.foldl CoreS.putCr { c with csync := [] }

/-- What every entry, return and switch does first: the operations under way write their results, and the
pending writes take effect (R302, R315); no failed fill is kept for an instruction. -/
def CoreS.settleAll (c : CoreS) : CoreS := { c.landAll.applyWrites with fillFail := [], woken := false }

/-! ## NIB -/

/-- A budget runs (R289). -/
def CoreS.nibActive (c : CoreS) : Bool := bitOf (c.cr 25) 11

/-- NIBSTAT with REMAIN and ACTIVE set (R222). -/
def CoreS.setNib (c : CoreS) (remain : Nat) (active : Bool) : CoreS :=
  c.setCr 25 ((c.cr 25 >>> 32) * 2 ^ 32 + remain % 2048 + 2048 * b2n active)

/-- The budget ends (R289). -/
def CoreS.endNib (c : CoreS) : CoreS := if c.nibActive then c.setNib 0 false else c

/-! ## Entry -/

/-- The capability an entry point names (R223). -/
def entryCap (v : Nat) : Cap :=
  mkCap (bitsOf v 40 22) (bitsOf v 24 16) (2 ^ rX + 2 ^ rL) 0 0 (bitsOf v 2 22 * 4)

/-- CAUSE (R222). -/
def causeWord (code : Nat) (intr : Bool) : Word := BitVec.ofNat 64 (code + 2 ^ 63 * b2n intr)

/-- SST: the status before entry and ORIGIN (R281). -/
def sstWord (st origin : Nat) : Word := BitVec.ofNat 64 (st % 2 ^ 17 + origin * 2 ^ 17)

/-- What a bank holds after an entry (R281). -/
def BankR.entered (b : BankR) (e : Exc) (intr : Bool) (resume : Cap) (st origin entry : Nat) : BankR :=
  { b with spcc := resume, sst := sstWord st origin, cause := causeWord e.code intr,
           finfo := BitVec.ofNat 64 e.finfo, fofs := BitVec.ofInt 64 e.fofs, pcc := entryCap entry }

/-- st after an entry to S: LEVEL S, IE 1 (R281). -/
def statusAtS (st : Nat) : Nat := stPut (stPut st 0 2 1) 2 1 1

/-- st after an entry to M: LEVEL M; IE reads 0 there (R281, R290). -/
def statusAtM (st : Nat) : Nat := stPut (stPut st 0 2 2) 2 1 0

/-- Entry to S from T, through the control register `cr` (R281, R282). -/
def CoreS.enterS (c : CoreS) (e : Exc) (intr : Bool) (resume : Cap) (cr : Nat) : CoreS :=
  let c := c.settleAll
  let st := c.status
  (c.onTask fun t => { t with sb := t.sb.entered e intr resume st 0 (c.cr cr) }).setStatus (statusAtS st)

/-- Entry to M from T, S or an idle core, through ENTRY_M (R281, R277). -/
def CoreS.enterM (c : CoreS) (e : Exc) (intr : Bool) (resume : Cap) : CoreS :=
  let c := c.settleAll.endNib
  let st := c.status
  match c.running with
  | some _ => ({ c with mb := c.mb.entered e intr resume st (st % 4) (c.cr 15) }).setStatus (statusAtM st)
  | none => { c with mb := c.mb.entered e intr nullCap 2 2 (c.cr 15), idleM := some 2 }

/-! ## Stopping tasks -/

/-- A task set stops (R268, R272). -/
def TaskSet.halt (t : TaskSet) (why : Nat) (info : Word) : TaskSet :=
  { t with state := .stopped, stopWhy := why, stopInfo := info, stopDue := false }

/-- Task Stopped becomes pending at M, and LASTSTOP names the task (R279, R293). -/
def State.noteSpill (s : State) (k t : Nat) : State :=
  (s.onCore k fun c => { c with pStopped := true }).setF .TC_CORE_LASTSTOP t k

/-- The task number of the task set under a core's current level; 0x3FFF for none (R277). -/
def CoreS.taskNo (c : CoreS) (k : Nat) : Nat :=
  match c.running with
  | some i => 64 * k + i
  | none => 0x3FFF

/-- A byte of a store reaches its target: a bank of the Firmware Store, or memory (R17, R317). -/
def State.storeByte (s : State) (a : Nat) (v : Byte) : State :=
  if inBank a then { s with trust := { s.trust with fwStores := s.trust.fwStores.set a v } } else s.putByte a v

/-- A string of bytes of a store reaches its target. -/
def State.storeBytes (s : State) (a : Nat) : Bytes → State
  | [] => s
  | v :: l => (s.storeByte a v).storeBytes (a + 1) l

/-- A granule that is written has no uncorrectable error any more (log entry 30). -/
def State.mendGran (s : State) (g : Nat) : State :=
  { s with power := { s.power with badGrans := removeNum g s.power.badGrans } }

/-- The granule of a store buffer entry. -/
def StoreEnt.gran : StoreEnt → Nat
  | .data g _ => g
  | .capab g _ => g

/-- The Darner counts an uncorrectable error that a drain meets (R296). -/
def State.meetError (s : State) (g : Nat) : State :=
  if s.power.badGrans.contains g then s.bump .DN_CNTTAG_DRAINUE else s

/-- A store buffer entry reaches memory (R307). -/
def State.drainEnt (s : State) (e : StoreEnt) : State :=
  let s := s.meetError e.gran
  match e with
  | .data g l => (l.foldl (fun s b => s.storeByte (16 * g + b.1) b.2) s).mendGran g
  | .capab g v =>
    if inBank (16 * g) then s.storeBytes (16 * g) (leBytes 16 v.bits.toNat)
    else (s.putGranule (16 * g) v).mendGran g

/-- A core's whole store buffer drains, in order (R307). -/
def State.drainAll (s : State) (k : Nat) : State :=
  ((s.core k).store.foldl State.drainEnt (s.onCore k fun c => { c with store := [] })).settle k

/-- A check-stop (R292): the store buffer drains, every task set stops, the record is made, the Steward is
told; the Steward's own is a device fault, which nobody is left to tell of (R417). -/
def State.checkStop (s : State) (k code : Nat) : State :=
  let c := s.core k
  let at_ := c.pcc.offset
  let t := c.taskNo k
  let s := s.drainAll k
  let mine := (c.slots.entries.filter fun e => e.2.state != .absent).map Prod.fst
  let s := s.onCore k fun c => { c.landAll with
    cstop := true, running := none, idleM := none,
    slots := c.landAll.slots.mapVal fun t => if t.state = .absent then t else t.halt 3 (BitVec.ofNat 64 code) }
  let s := ((s.setF .TC_CSINFO_CODE code k).setF .TC_CSINFO_LEVEL 2 k).setF .TC_CSINFO_TASK t k
  let s := s.setF .TC_CSINFO_OFFSET at_ k
  let s := mine.foldl (fun s i => s.discardTask (64 * k + i)) s
  if k = stewardCore then s else s.emcy 0xFF07 (k + 256 * code)

/-! ## Exceptions -/

/-- Takes the pending imprecise arithmetic trap at T: SPCC names the next unexecuted instruction, AEPC the
trapping one (R280, R288). -/
def State.takeTrap (s : State) (k : Nat) (a : ArithTrap) : State :=
  s.onCore k fun c =>
    let resume := c.pcc
    let c := { c with stepping := false }
    (c.onTask fun t => { t with trap := none, aepc := BitVec.ofNat 64 (a.offset + a.index * 2 ^ 32) }).enterS
      ⟨a.code, 0, 0⟩ false resume 14

/-- The imprecise arithmetic trap pending in the running task. -/
def CoreS.trapPending (c : CoreS) : Option ArithTrap :=
  match c.running with
  | some i => (c.slot i).trap
  | none => none

/-- An exception (R281, R291): at T to S or M, at S to M, at M a check-stop; a pending imprecise trap is
taken instead. `resume` is the OFFSET that SPCC names (R280). A step of R436 has ended. -/
def State.raise (s : State) (k : Nat) (e : Exc) (resume : Nat) : State :=
  let s := s.onCore k fun c => { c with stepping := false }
  let c := s.core k
  match c.level, c.trapPending with
  | 0, some a => s.takeTrap k a
  | 0, none =>
    let p := c.pcc.withOffset resume
    s.onCore k fun c => if targetsM e.code then c.enterM e false p else c.enterS e false p 14
  | 1, _ => s.onCore k fun c => c.enterM e false (c.pcc.withOffset resume)
  | _, _ => s.checkStop k e.code

/-- A Spill fault (R279): the S bank's registers, the task stopped, Task Stopped at M. -/
def State.spill (s : State) (k : Nat) (e : Exc) (under : Bool) : State :=
  let c := s.core k
  let t := c.taskNo k
  let info := cSpill + bitsOf e.finfo 4 4 * 2 ^ 8 + b2n under * 2 ^ 12 + c.pcc.offset * 2 ^ 32
  let s := s.onCore k fun c =>
    let st := c.status
    let resume := c.pcc
    let c := c.settleAll.onTask fun t => { (t.halt 2 (BitVec.ofNat 64 info)) with
      sb := { t.sb with cause := causeWord cSpill false, finfo := BitVec.ofNat 64 e.finfo,
                        fofs := BitVec.ofInt 64 e.fofs, spcc := resume, sst := sstWord st 0 } }
    { c with running := none, last := t % 64, stepping := false }
  (s.noteSpill k t).discardTask t

/-- SCALL n (R282, R291): at T through SYSENTn, at S to M, at M a check-stop. -/
def State.sysCall (s : State) (k n : Nat) : State :=
  let c := s.core k
  let p := c.pcc.withOffset ((c.pcc.offset + 4) % 2 ^ 32)
  let e : Exc := ⟨cScall + n, 0, 0⟩
  match c.level with
  | 0 => s.onCore k fun c => c.enterS e false p (16 + n)
  | 1 => s.onCore k fun c => c.enterM e false p
  | _ => s.checkStop k e.code

/-! ## Interrupts -/

/-- The interrupt directed at S that is taken first, pending in a task set (R287). -/
def TaskSet.pendingS (t : TaskSet) : Option Nat :=
  if t.pStart then some cStart else if t.pDoor then some cDoorbell else if t.pTick then some cTick else none

/-- The interrupt directed at M that is taken first (R287). -/
def CoreS.pendingM (c : CoreS) : Option Nat :=
  if c.pSreq then some cSreq else if c.pStopped then some cStopped else none

/-- An interrupt's pending bit clears as it is taken (R281). -/
def CoreS.clearPending (c : CoreS) (code : Nat) : CoreS :=
  if code = cSreq then { c with pSreq := false }
  else if code = cStopped then { c with pStopped := false }
  else c.onTask fun t =>
    if code = cStart then { t with pStart := false }
    else if code = cDoorbell then { t with pDoor := false }
    else { t with pTick := false }

/-- A point at which the core may take an interrupt (R47): no load in its delay position, the vector unit
neither Waking nor waiting to execute the instruction that woke it (R221). -/
def CoreS.interruptible (c : CoreS) : Bool :=
  !c.flights.any Flight.delayed && c.vunit != .waking && !c.woken && c.walkWait.isNone && c.walkDone.isNone

/-- A core that issues nothing: check-stopped, or halted with no step asked for. -/
def CoreS.held (c : CoreS) : Bool := c.cstop || c.halted

/-- A JTAG instruction that drives the pins: EXTEST, CLAMP, HIGHZ (R435, R436). -/
def drivesPins (ir : Nat) : Bool := ir = 0 || ir = 4 || ir = 5

/-- A JTAG instruction that drives the pins holds the device (R436). -/
def State.pinsHeld (s : State) : Bool := drivesPins s.power.jtagIr

/-- The device issues nothing: a power-fail warning has stopped all issue, or a pin-driving JTAG
instruction holds it (R428, R436). -/
def State.issueOff (s : State) : Bool := s.press.parked || s.pinsHeld

/-- A core's tile is in Tile Doze or Tile Sleep: its clocks stand until it wakes (R421). -/
def State.tileDown (s : State) (k : Nat) : Bool :=
  decide (k < stewardCore) && (bitOf (s.f .PW_STATE_DOZING) (tileOf k) || bitOf (s.f .PW_STATE_ASLEEP) (tileOf k))

/-- The S-directed interrupt the running task takes now: at T (R287, R291). -/
def CoreS.dueS (c : CoreS) : Option Nat :=
  match c.running with
  | some i => if c.level = 0 then (c.slot i).pendingS else none
  | none => none

/-- The M-directed interrupt the core takes now: at T, at S with no budget, or idle (R291, R289). -/
def CoreS.dueM (c : CoreS) : Option Nat :=
  if c.level = 2 && c.active then none
  else if c.level = 1 && c.nibActive then none
  else c.pendingM

/-- The running task has not started: Task Start is the first thing it does (R271). -/
def CoreS.startDue (c : CoreS) : Bool :=
  match c.running with
  | some i => c.level = 0 && (c.slot i).pStart
  | none => false

/-- The interrupt due: Task Start of a task that first runs (R271; log entry 115), else M-directed ones first
(R287). -/
def CoreS.due (c : CoreS) : Option Nat := if c.startDue then some cStart else c.dueM.or c.dueS

/-- The TC_ENTRY capability of a task (R271). -/
def State.startCap (s : State) (t : Nat) : Cap :=
  mkCap (s.f .TC_ENTRY_INDEX t) (s.f .TC_ENTRY_GEN t) (2 ^ rX + 2 ^ rL) 0 0 (s.f .TC_ENTRY_OFFSET t * 4)

/-- Takes an interrupt (R281, R271, R277). -/
def State.takeInterrupt (s : State) (k code : Nat) : State :=
  let start := match (s.core k).running with
    | some i => s.startCap (taskNo k i)
    | none => nullCap
  s.onCore k fun c =>
    let c := c.clearPending code
    let e : Exc := ⟨code, 0, 0⟩
    if code = cSreq || code = cStopped then c.enterM e true c.pcc
    else c.enterS e true (if code = cStart then start else c.pcc) 14

/-- INTERRUPT_ENTRY: at an interruptible point the core takes what is due; a pending imprecise trap goes
first (R281, R288). -/
def execInterruptEntry (k : CoreId) (s : State) : Res :=
  .next (
    let c := s.core k.val
    if c.held || s.issueOff || s.tileDown k.val || !c.interruptible then s
    else match c.due, c.trapPending with
      | none, _ => s
      | some _, some a => s.takeTrap k.val a
      | some code, none => s.takeInterrupt k.val code)

/-- ARITH_TRAP_TAKE: the pending imprecise arithmetic trap is taken (R288). -/
def execArithTrapTake (k : CoreId) (s : State) : Res :=
  .next (
    let c := s.core k.val
    if c.held || s.issueOff then s
    else match c.trapPending with
      | some a => s.takeTrap k.val a
      | none => s)

/-! ## What an instruction does -/

/-- What executing an instruction comes to: it completes, and pcc goes on or has been set; it waits and is
presented again, with no effect yet or with what it has done so far; it raises an exception, with SPCC's
OFFSET; or a window trap ends in a Spill fault, of an underflow if so marked (R225, R226, R253, R279). -/
inductive Act where
  | done (s : State)
  | jump (s : State)
  | wait (s : State)
  | stall (s : State)
  | spill (s : State) (e : Exc) (under : Bool)
  | fault (s : State) (e : Exc) (resume : Nat)

/-- The entry pcc names at a return, or the fault of the check that fails (R283 step 2). -/
def checkReturn (c : Cap) (e : Entry) (steward : Bool) : Option CFault :=
  if c.gen != e.gen then some (.generation 5)
  else if e.ty != 2 || !bitOf (effRights c e steward) rX then some .rights
  else none

/-- The status word that SST[16:0] restores, each field within its range (R222, R202, R204, R220; log entry 114):
the reserved bits are 0, CWP counts windows modulo W, RESW is at most W - 1, VEN is 1 only where a vector context
is bound. -/
def restoredSt (sst w : Nat) (bound : Bool) : Nat :=
  let st := stPut (sst % 2 ^ 17) 5 3 0
  let st := stPut (stPut st 8 4 (stCwp st % w)) 12 4 (min (stResw st) (w - 1))
  stPut st 3 1 (b2n (stVen st && bound))

/-- The status the running task set of core `k` returns to from a bank's SST (R283 step 5). -/
def CoreS.backTo (c : CoreS) (k i : Nat) (sst : Word) : Nat :=
  restoredSt sst.toNat (windowsOf (c.shape k)) (c.slot i).vctx.isSome

/-- The return of level x, from the bank it returns through (R283 step 5). -/
def CoreS.leave (c : CoreS) (k : Nat) : CoreS :=
  let c := c.settleAll
  match c.running with
  | none => { c with idleM := none }
  | some i =>
    if c.level = 2 then (c.setStatus (c.backTo k i c.mb.sst)).setPcc c.mb.spcc
    else
      let b := (c.slot i).sb
      ((c.endNib.onTask fun t => { t with nibDue := false }).setStatus (c.backTo k i b.sst)).setPcc b.spcc

/-- The handler chain: the bank's cause registers are written for the interrupt, and pcc is the entry point
(R285). -/
def CoreS.chain (c : CoreS) (code : Nat) : CoreS :=
  let c := c.settleAll.clearPending code
  let w (b : BankR) (entry : Nat) : BankR :=
    { b with cause := causeWord code true, finfo := 0, fofs := 0, pcc := entryCap entry }
  if c.level = 2 then { c with mb := w c.mb (c.cr 15) }
  else c.endNib.onTask fun t => { t with nibDue := false, sb := w t.sb (c.cr 14) }

/-- The bank of the current level. -/
def CoreS.bank (c : CoreS) : BankR :=
  match c.level, c.running with
  | 1, some i => (c.slot i).sb
  | _, _ => c.mb

/-- The interrupt an ERET chains to: pending for its own level (R283 step 4). -/
def CoreS.chainDue (c : CoreS) : Option Nat :=
  if c.level = 2 then c.pendingM
  else match c.running with
    | some i => (c.slot i).pendingS
    | none => none

/-- ERET and SRET (R283-R285): the ceiling, the return capability, its alignment, the chain, the return.
Faults of the first two steps are raised at M. -/
def State.eret (s : State) (k : Nat) (chains : Bool) : Act :=
  let c := s.core k
  let b := c.bank
  let l := b.sst.toNat % 4
  let origin := bitsOf b.sst.toNat 17 2
  let here := c.pcc.offset
  let go (s : State) : Act :=
    if b.spcc.offset % 4 != 0 then
      .fault s ⟨cBounds, finfo 15 7 false true, b.spcc.offset⟩ here
    else match chains, c.chainDue with
      | true, some code => .jump (s.onCore k fun c => c.chain code)
      | _, _ => .jump (s.onCore k fun c => c.leave k)
  if l = 3 || origin < l then .fault s ⟨cCeiling, 0, 0⟩ here
  else if l = 2 && origin = 2 then go s
  else match checks123 b.spcc false with
    | some f => .fault s ⟨cReturn, finfo 0 f.check false false, 0⟩ here
    | none => match s.entryFor k b.spcc.index b.spcc.gen with
      | .wait t => .wait t
      | .fail t f => .fault t ⟨cReturn, finfo 0 f.check false false, 0⟩ here
      | .hit t e => match checkReturn b.spcc e (k = stewardCore) with
        | some f => .fault t ⟨cReturn, finfo 0 f.check false false, 0⟩ here
        | none => go t

/-- A NIB budget has expired in the S handler of the running task (R289). -/
def CoreS.nibDue (c : CoreS) : Bool :=
  match c.running with
  | some i => (c.slot i).nibDue
  | none => false

/-- The budget of a NIB (R289): min(b, CEIL); while one runs, the lesser; none after it has expired. -/
def CoreS.startNib (c : CoreS) (b : Nat) : CoreS :=
  if b = 0 then c.endNib
  else if c.nibDue then c
  else
    let m := min b (min (c.cr 24) 2000)
    if c.nibActive then c.setNib (min m (bitsOf (c.cr 25) 0 11)) true else c.setNib m true

/-- The budget reaches zero: held events are due, OVERRUNS rises (R289). -/
def CoreS.expireNib (c : CoreS) : CoreS :=
  let n := satAdd 32 (c.cr 25 >>> 32) 1
  (c.setCr 25 (n * 2 ^ 32)).onTask fun t => { t with nibDue := true }

end Sys2Proof.Machine
end

