-- ==== Sys2Proof/Machine/Sched.lean ====
section
/-! DEFINITION. Task states, creation and end of tasks, switches, deschedules, and the cores' own events
(R42, R47, R221, R246, R268-R273, R287-R289, R295, R302, R307, R436). -/

namespace Sys2Proof.Machine

/-! ## Writes to the task control registers -/

/-- The address of TC_CTRL[t] (R293). -/
def ctrlAddr (t : Nat) : Nat := 0x40E80000 + 32 * t

/-- Who may write TC_CTRL[t] and TC_ENTRY[t] (R293): the Steward, or level M of the core that holds `t`. -/
def State.mayControl (s : State) (m : Master) (t : Nat) : Bool := Master.isSteward m || s.fromM m (coreOf t)

/-- The slot of a task number exists under its core's shape (R203, R206). -/
def State.slotExists (s : State) (t : Nat) : Bool :=
  decide (coreOf t ≤ stewardCore) && decide (slotOf t < slotsOf ((s.core (coreOf t)).shape (coreOf t)))

/-- Task sets of a core that are not Absent. -/
def CoreS.created (c : CoreS) : List (Nat × TaskSet) := c.slots.entries.filter fun e => e.2.state != .absent

/-- Vector contexts bound (R220, R222 VSTAT). -/
def CoreS.boundCtx (c : CoreS) : List Nat := c.created.filterMap fun e => e.2.vctx

/-- The lowest-numbered free vector context (R270). -/
def CoreS.freeCtx (c : CoreS) : Option Nat := (numsFrom 0 16).find? fun n => !c.boundCtx.contains n

/-- A fresh task set (R270). -/
def freshTask (bulk : Bool) (ctx : Option Nat) : TaskSet :=
  { state := .ready, st := BitVec.ofNat 64 (8 * b2n ctx.isSome + 16 * b2n bulk), vctx := ctx, pStart := true }

/-- The registers of a slot's windows are cleared (R270; log entry 28). -/
def CoreS.clearWindows (c : CoreS) (k slot : Nat) : CoreS :=
  let w := windowsOf (c.shape k)
  { c with win := c.win.keep fun x => !(decide (slot * w ≤ x.1) && decide (x.1 < slot * w + w)) }

/-- A bound vector context is cleared (R270). -/
def CoreS.clearCtx (c : CoreS) (n : Nat) : CoreS :=
  { c with vregs := c.vregs.keep fun x => x.1 != n, vl := c.vl.erase n }

/-- The class and the context that R206 fixes for a Steward task set: slots 4 to 7 are Bulk, and every one is
vector-enabled. -/
def stewardBulk (t : Nat) : Bool := decide (4 ≤ slotOf t)

/-- The task set made by a CREATE that passes its checks (R270). -/
def State.makeTask (s : State) (t : Nat) (bulk : Bool) (ctx : Option Nat) : State :=
  s.onCore (coreOf t) fun c =>
    let c := match ctx with
      | some n => c.clearCtx n
      | none => c
    (c.clearWindows (coreOf t) (slotOf t)).setSlot (slotOf t)
      { freshTask bulk ctx with stopInfo := (c.slot (slotOf t)).stopInfo }

/-- CREATE (R270): the checks in order, RESULT, the task. A Steward task set has the class and the context of R206,
and no class meter to agree with (R55). -/
def State.createTask (s : State) (t : Nat) : State :=
  let bulk := if metered t then s.fb .TC_CTRL_CLASS t else stewardBulk t
  let vec := !metered t || s.fb .TC_CTRL_VEC t
  if !s.slotExists t then s.setF .TC_CTRL_RESULT 1 t
  else if (s.task t).state != .absent then s.setF .TC_CTRL_RESULT 2 t
  else if metered t && s.live .CLASS_CFG_KIND (s.classOf t) != b2n bulk then s.setF .TC_CTRL_RESULT 3 t
  else if !vec then (s.makeTask t bulk none).setF .TC_CTRL_RESULT 0 t
  else match (s.core (coreOf t)).freeCtx with
    | none => s.setF .TC_CTRL_RESULT 4 t
    | some n => (s.makeTask t bulk (some n)).setF .TC_CTRL_RESULT 0 t

/-- The RW fields of a write to TC_CTRL[t] are stored where the slot exists; VEC and CLASS are ignored while the
task exists (R293). -/
def State.storeCtrl (s : State) (t v : Nat) : State :=
  if !s.slotExists t then s
  else
    let s := s.setF .TC_CTRL_TICKIE (bitsOf v 6 1) t
    if (s.task t).state = .absent then (s.setF .TC_CTRL_VEC (bitsOf v 5 1) t).setF .TC_CTRL_CLASS (bitsOf v 4 1) t else s

/-- A task set that leaves the Running state: one that a STOP waits for stops, any other takes the state `x`
(R268, R272). -/
def TaskSet.leaveRunning (t : TaskSet) (x : TState) : TaskSet := if t.stopDue then t.halt 1 0 else { t with state := x }

/-- Takes a running task off its core (R269). -/
def State.offCore (s : State) (t : Nat) : State :=
  let k := coreOf t
  if (s.core k).running = some (slotOf t) then
    s.onCore k fun c => { c.settleAll with running := none, last := slotOf t }
  else s

/-- The task stops with STOPWHY `why` (R272). -/
def State.stopTask (s : State) (t why : Nat) : State :=
  let s := s.offCore t
  s.setTask t ((s.task t).halt why 0)

/-- A running task may be switched out, descheduled or stopped: at T or S, at an interruptible point, with
no NIB budget (R269, R272, R289). -/
def CoreS.mayLeave (c : CoreS) : Bool := c.interruptible && c.level < 2 && !c.nibActive

/-- A STOP that is due takes effect if the core is at a point where it may. -/
def State.tryStop (s : State) (k : Nat) : State :=
  let c := s.core k
  match c.running with
  | some i => if (c.slot i).stopDue && c.mayLeave then s.stopTask (taskNo k i) 1 else s
  | none => s

/-- STOP (R272): at once, or at the next interruptible point for a Running task. -/
def State.askStop (s : State) (t : Nat) : State :=
  let x := s.task t
  match x.state with
  | .ready | .waiting | .descheduled => s.stopTask t 1
  | .running => (s.setTask t { x with stopDue := true }).tryStop (coreOf t)
  | _ => s

/-- DESTROY (R272). -/
def State.destroyTask (s : State) (t : Nat) : State :=
  if (s.task t).state = .stopped then
    (s.setTask t { (s.task t) with state := .absent, vctx := none, stopWhy := 0 }).setF .TC_CTRL_RESULT 0 t
  else s.setF .TC_CTRL_RESULT 5 t

/-- A write to TC_CTRL[t] (R293): its RW fields, then its actions. -/
def State.writeCtrl (s : State) (t v : Nat) : State :=
  let s := s.storeCtrl t v
  let s := if bitOf v 0 then s.createTask t else s
  if !s.slotExists t then s
  else
    let s := if bitOf v 1 then s.askStop t else s
    if bitOf v 2 then s.destroyTask t else s

/-- CREATE (R270): the write's value carries CLASS, VEC and TICKIE. -/
def execCreate (m : Master) (t : Nat) (v : Word) (s : State) : Res :=
  .next (s.present m (ctrlAddr t) fun s => if s.mayControl m t then s.writeCtrl t (setBitOf v.toNat 0) else s)

/-- STOP (R272). -/
def execStop (m : Master) (t : Nat) (s : State) : Res :=
  .next (s.present m (ctrlAddr t) fun s => if s.mayControl m t && s.slotExists t then s.askStop t else s)

/-- DESTROY (R272). -/
def execDestroy (m : Master) (t : Nat) (s : State) : Res :=
  .next (s.present m (ctrlAddr t) fun s => if s.mayControl m t && s.slotExists t then s.destroyTask t else s)

/-- A task with an interrupt pending does not wait (R287). -/
def TaskSet.rouse (t : TaskSet) : TaskSet := if t.state = .waiting then { t with state := .ready } else t

/-- Doorbell becomes pending in a task (R287). -/
def State.ringDoorbell (s : State) (t : Nat) : State :=
  if s.slotExists t && (s.task t).state != .absent then s.setTask t { (s.task t).rouse with pDoor := true } else s

/-- DOORBELL: taken from any master the Guard admits (R287, R293). -/
def execDoorbell (m : Master) (t : Nat) (s : State) : Res :=
  .next (s.present m (ctrlAddr t + 16) fun s => s.ringDoorbell t)

/-- STEWARD_REQUEST: a write of TC_CORE.SREQ, taken only from the Steward (R287, R293). -/
def execStewardRequest (m : Master) (k : CoreId) (s : State) : Res :=
  .next (s.present m (0x40ED0000 + 16 * k.val) fun s =>
    if Master.isSteward m then s.onCore k.val fun c => { c with pSreq := true } else s)

/-! ## Switches -/

/-- Ready task sets of a class in rotation, starting after the slot that ran last (R269). -/
def CoreS.rotation (c : CoreS) (k : Nat) (bulk : Bool) : List Nat :=
  let n := slotsOf (c.shape k)
  let order := (numsFrom 1 n).map fun d => (c.last + d) % n
  order.filter fun i => (c.slot i).state = .ready && (c.slot i).isBulk = bulk

/-- A Ready task whose meter reads zero moves to Descheduled at once (R269). -/
def State.setAside (s : State) (t : Nat) : State :=
  let s := if s.admits (.task t) then s else s.noteHeld (.task t)
  let s := if s.admits (.cycles (s.classOf t)) then s else s.noteHeld (.cycles (s.classOf t))
  s.setTask t { s.task t with state := .descheduled }

/-- The first candidate that may run, the ineligible ones before it set aside. -/
def State.choose (s : State) (k : Nat) : List Nat → Option Nat × State
  | [] => (none, s)
  | i :: l => if s.eligible (taskNo k i) then (some i, s) else (s.setAside (taskNo k i)).choose k l

/-- The next task of a core: a Tick-class task while any is Ready, else a Bulk-class one (R42, R269). -/
def State.pick (s : State) (k : Nat) (ticksOnly : Bool) : Option Nat × State :=
  let (r, s) := s.choose k ((s.core k).rotation k false)
  match r with
  | some i => (some i, s)
  | none => if ticksOnly then (none, s) else s.choose k ((s.core k).rotation k true)

/-- The task becomes Running; the switch's 4 cc are charged to it (R269, R44). -/
def State.runTask (s : State) (k i : Nat) : State :=
  let t := taskNo k i
  let s := s.onCore k fun c => { c.settleAll with running := some i }
  (s.setTask t { s.task t with state := .running }).chargeTask t 4

/-- A switch on an idle core (R269). -/
def State.switchIn (s : State) (k : Nat) : State :=
  match s.pick k false with
  | (some i, t) => t.runTask k i
  | (none, t) => t

/-- A Bulk-class task is displaced by a Tick-class one (R42). -/
def State.displace (s : State) (k i : Nat) : State :=
  match s.pick k true with
  | (some j, t) =>
    let t := t.offCore (taskNo k i)
    (t.setTask (taskNo k i) ((t.task (taskNo k i)).leaveRunning .ready)).runTask k j
  | (none, t) => t

/-- TASK_SWITCH: an idle core takes the next Ready task; a running Bulk-class task gives way to a Tick-class
one (R42, R269). -/
def execTaskSwitch (k : CoreId) (s : State) : Res :=
  .next (
    let c := s.core k.val
    if c.held || s.issueOff || s.tileDown k.val || c.idleM.isSome then s
    else match c.running with
      | none => s.switchIn k.val
      | some i =>
        if !c.mayLeave || !(c.slot i).isBulk || (c.rotation k.val false).isEmpty then s
        else match c.trapPending with
          | some a => s.takeTrap k.val a
          | none => s.displace k.val i)

/-! ## Deschedules -/

/-- The meter of a CYCLE_METER_EXHAUST or TASK_DESCHEDULE. -/
def cycleMeter (isClass : Bool) (i : Nat) : Meter := if isClass then .cycles i else .task i

/-- A cycle meter limits a task (R44, R47). -/
def State.limits (s : State) (m : Meter) (t : Nat) : Bool := metered t && (m = .task t || m = .cycles (s.classOf t))

/-- The Ready tasks that a meter at zero limits move to Descheduled at once (R47, R269). -/
def State.setAsideAll (s : State) (m : Meter) : State :=
  (s.wanting.filter fun t => s.limits m t && (s.task t).state = .ready).foldl State.setAside s

/-- CYCLE_METER_EXHAUST: a cycle meter reaches zero; its deschedule is due, and its Ready tasks are Descheduled
(R47, R269). A tick is an overrun where a task of the meter still wants to run (R57). -/
def execCycleMeterExhaust (isClass : Bool) (i : Nat) (s : State) : Res :=
  .next (
    let m := cycleMeter isClass i
    if s.admits m || s.meters.due.contains m || (!isClass && !metered i) then s
    else
      let s := if s.wanted m then s.noteHeld m else s
      ({ s with meters := { s.meters with due := m :: s.meters.due } }).setAsideAll m)

/-- Deschedules a task: it resumes at the same instruction at a later boundary (R47). -/
def State.deschedule (s : State) (t : Nat) : State :=
  let s := s.offCore t
  s.setTask t ((s.task t).leaveRunning .descheduled)

/-- Deschedules the running task of a core at an interruptible point, if the meter is its own (R47); a
pending imprecise trap goes first (R288). -/
def State.descheduleRunning (s : State) (m : Meter) (k : Nat) : State :=
  let c := s.core k
  match c.running with
  | none => s
  | some i =>
    let t := taskNo k i
    if !s.limits m t || !c.mayLeave then s
    else match c.trapPending with
      | some a => s.takeTrap k a
      | none => s.deschedule t

/-- The KIND of its class meter holds the task from the boundary on (R273). -/
def State.kindDiffers (s : State) (t : Nat) : Bool :=
  metered t && s.live .CLASS_CFG_KIND (s.classOf t) != b2n (s.task t).isBulk

/-- A deschedule is due: the meter is at zero, or the KIND of the task's class meter holds it (R47, R54, R273). -/
def State.dueNow (s : State) (m : Meter) : Bool :=
  s.meters.due.contains m && (!s.admits m || match m with
    | .task t => s.kindDiffers t
    | _ => false)

/-- TASK_DESCHEDULE: the exhausted task, or every task of the class, is descheduled, a running one where its core
is at an interruptible point (R47, R49); nothing is descheduled while nothing is enforced (R54). -/
def execTaskDeschedule (isClass : Bool) (i : Nat) (s : State) : Res :=
  .next (
    let m := cycleMeter isClass i
    if !s.dueNow m then s
    else
      let s := s.setAsideAll m
      if isClass then s.cores.keys.foldl (fun s k => s.descheduleRunning m k) s
      else s.descheduleRunning m (coreOf i))

/-- A task held Descheduled at a boundary (R273): a running one at the next point where it may be (R47, R269). -/
def State.holdDescheduled (s : State) (t : Nat) : State :=
  if (s.task t).state = .running then
    ({ s with meters := { s.meters with due := .task t :: s.meters.due } }).descheduleRunning (.task t) (coreOf t)
  else s.deschedule t

/-- A task at a boundary: Tick becomes pending in every one whose TICKIE is 1, it no longer waits, its deschedule
ends, a KIND that differs holds it (R32, R246, R268, R273, R287). -/
def State.taskBoundary (s : State) (t : Nat) : State :=
  let x := s.task t
  let x := if s.fb .TC_CTRL_TICKIE t && x.state != .absent then { x with pTick := true } else x
  if x.state = .absent then s
  else if x.state = .stopped then s.setTask t x
  else
    let x := if x.state = .waiting || x.state = .descheduled then { x with state := .ready } else x
    let s := s.setTask t x
    if s.kindDiffers t then (s.holdDescheduled t).bump .TASK_OVR_OVRTICKS 1 t else s

/-- Every created task at a boundary. -/
def State.tasksBoundary (s : State) : State :=
  (s.cores.entries.flatMap fun e => e.2.created.map fun x => taskNo e.1 x.1).foldl State.taskBoundary s

/-- The running task leaves the core at its next interruptible point: its meter or its class's is at zero or its class
meter's KIND holds it (R47, R273), or it is a Bulk-class task while a Tick-class one is ready and eligible (R42). -/
def State.leaving (s : State) (k : Nat) : Bool :=
  let c := s.core k
  match c.running with
  | none => false
  | some i => !s.eligible (taskNo k i) || s.dueNow (.task (taskNo k i)) ||
      ((c.slot i).isBulk && (c.rotation k false).any fun j => s.eligible (taskNo k j))

/-- It leaves at this point. -/
def State.leaveDue (s : State) (k : Nat) : Bool := (s.core k).mayLeave && s.leaving k

/-! ## Events of a core -/

/-- LOAD_COMPLETE: the oldest load's answer is written for later readers; one in its delay position waits
for the next instruction (R232, R295). -/
def execLoadComplete (k : CoreId) (s : State) : Res :=
  .next (match takeFirst (fun f : Flight => f.isLoad && !f.delayed) (s.core k.val).flights with
    | none => s
    | some (f, r) => (s.onCore k.val fun c => { c with flights := r }.land f).settle k.val)

/-- LONG_OP_COMPLETE: the oldest operation beside the pipe writes its result (R302). -/
def execLongOpComplete (k : CoreId) (s : State) : Res :=
  .next (match takeFirst (fun f : Flight => !f.isLoad) (s.core k.val).flights with
    | none => s
    | some (f, r) => s.onCore k.val fun c => { c with flights := r }.land f)

/-- STORE_DRAIN: the oldest store buffer entry drains (R307); an uncorrectable error it meets is counted by
the Darner and is no Machine Check (R296). -/
def execStoreDrain (k : CoreId) (ecc : Bool) (s0 : State) : Res :=
  .next (match (s0.core k.val).store with
    | [] => s0
    | e :: r =>
      let s := ((s0.onCore k.val fun c => { c with store := r }).drainEnt e).settle k.val
      if ecc && !s0.power.badGrans.contains e.gran then s.bump .DN_CNTTAG_DRAINUE else s)

/-- NIB_EXPIRE: the cycles that remain of the running budget have passed, within the commands before it, and REMAIN
reaches 0 (R289; log entry 116). -/
def execNibExpire (k : CoreId) (s : State) : Res :=
  .next (if (s.core k.val).nibActive then (s.onCore k.val CoreS.expireNib).tryStop k.val else s)

/-- VECTOR_WAKE_COMPLETE: the wake wait ends, and the instruction that woke the unit executes next (R221). -/
def execVectorWakeComplete (k : CoreId) (s : State) : Res :=
  .next (if (s.core k.val).vunit = .waking then s.onCore k.val fun c => { c with vunit := .on, woken := true } else s)

/-- A vector instruction is under way on the core, or waits to execute now that the unit has woken for it. -/
def CoreS.vectorBusy (c : CoreS) : Bool := c.woken || c.flights.any fun f => f = .vec

/-- VECTOR_IDLE_OFF: after IDLECC idle cycles; an IDLECC of 0 keeps the unit On (R221). -/
def execVectorIdleOff (k : CoreId) (s : State) : Res :=
  .next (
    let c := s.core k.val
    if c.vunit = .on && !c.vectorBusy && c.cr 27 % 2 ^ 13 != 0 then s.onCore k.val fun c => { c with vunit := .off }
    else s)

/-- VPWR_OFF: the unit is Off as soon as no vector instruction is under way (R221). -/
def execVpwrOff (k : CoreId) (s : State) : Res :=
  .next (
    let c := s.core k.val
    if c.vreqOff && !c.vectorBusy && c.vunit != .waking then
      s.onCore k.val fun c => { c with vunit := .off, vreqOff := false }
    else s)

end Sys2Proof.Machine
end

