-- ==== Sys2Proof/Machine/Clock.lean ====
section
/-! DEFINITION. What a core clock does by itself (log entry 1): the clock counts of the device and of the tick, the
cycles charged to running tasks, the NIB budgets (R29, R44, R50, R56, R289). -/

namespace Sys2Proof.Machine

/-- A core occupied by a task, whose cycles are charged: not at level M, not halted, not stopped by a check-stop
(R44, R50, R292, R436). -/
def CoreS.charged (c : CoreS) : Option Nat :=
  if c.halted || c.cstop || c.level = 2 then none else c.running

/-- One cycle of a core is charged to its task's meter and to the class's (R44, R55). -/
def State.chargeCycle (s : State) (k : Nat) : State :=
  match (s.core k).charged with
  | none => s
  | some i => s.chargeTask (taskNo k i) 1

/-- One cycle of a running NIB budget; it expires as REMAIN reaches 0 (R289). -/
def CoreS.nibCycle (c : CoreS) : CoreS :=
  if !c.nibActive then c
  else if bitsOf (c.cr 25) 0 11 ≤ 1 then c.expireNib
  else c.setNib (bitsOf (c.cr 25) 0 11 - 1) true

/-- One core clock with no command. -/
def State.clockTick (s : State) : State :=
  let s := { s with ns := s.ns + 1 }
  let s := if s.tick.running then s.bump .TU_PHASE_PHASE else s
  s.cores.keys.foldl (fun (s : State) k => ((s.chargeCycle k).onCore k CoreS.nibCycle).tryStop k) s

end Sys2Proof.Machine
end

