-- ==== Sys2Proof/Machine/PressCmd.lean ====
section
/-! DEFINITION. The commands of the Press and of the archive (R102-R124). -/

namespace Sys2Proof.Machine

/-- HANDOVER_TAKE: the Press takes the descriptor at the head of the handover queue in the cycle in which
its write channel chooses a task record, or refuses it on a sealed ledger (R103, R104). A refused
descriptor starts no write, so the channel chooses again. -/
def execHandoverTake (s : State) : Res :=
  .next (
    if s.fb .PR_STAT_SEALED then s.refuseAll
    else if s.pressNext = .task then s.takeHandover.pressPump
    else if !(s.queue handoverQueue).ents.isEmpty && !s.admits (.eng 9) then s.noteHeld (.eng 9)
    else s)

/-- DEVICE_RECORD_SUBMIT: the Steward places a record on queue 1,009 (R106, R107). -/
def execDeviceRecordSubmit (r : DevRec) (s : State) : Res :=
  .next (match s.submitDev r {} with
    | .ok t => t
    | .error _ => s)

/-- TICK_MARK_WRITE: a new tick mark once the tick comes within 1 s of the mark (R31). -/
def execTickMarkWrite (s : State) : Res :=
  .next (
    if s.tick.running && !s.press.parked && decide (s.tickMark ≤ s.tickNo + s.ticksPerSecond) then s.writeMark else s)

/-- ARCHIVE_MARK_WRITE: PR_ARCHLSN goes to the next archive mark cell (R123). -/
def execArchiveMarkWrite (s : State) : Res :=
  .next (
    if s.press.recovered && !s.press.parked then
      s.onPress fun p => { p with archMarks := List.take 64 (s.f .PR_ARCHLSN_ARCHLSN :: p.archMarks) }
    else s)

/-! ## The archive -/

/-- Archive enable, 0x2801:01 (R121). -/
def State.archiveEnabled (s : State) : Bool := fieldAt (s.dict.vals.get [0] (0x2801, 1)) 0 1 = 1

/-- The archive is stalled or its drive refused: ASTALL, FAULT of the port, and, while archive enable is 1, the EMCY with
its cause (R121, R124, R356, R372). -/
def State.archiveStall (s : State) (cause : Nat) : State :=
  let s := (s.setF .PR_STAT_ASTALL 1).setF .P_STAT_FAULT 1 9
  if s.archiveEnabled then s.emcy 0xFF02 cause else s

/-- The stall ends (R124). -/
def State.archiveResume (s : State) : State :=
  let s := (s.setF .PR_STAT_ASTALL 0).setF .P_STAT_FAULT 0 9
  (s.onPress fun p => { p with retrying := false }).emcyEnd 0xFF02

/-- Slots of a logical block (R120). -/
def State.blockSlots (s : State) : Nat := if s.fb .PR_ACFG_LBAS then 16 else 2

/-- Slots of the archive's slot area (R120). -/
def State.areaSlots (s : State) : Nat := 4096 * s.f .PR_ACFG_CAPSEG

/-- The place of an LSN in the slot area (R120): LSNs below BINDLSN lie before its end. -/
def State.areaPlace (s : State) (n : Nat) : Nat := (((n : Int) - s.f .PR_ABIND_BINDLSN) % (s.areaSlots : Int)).toNat

/-- Places of its logical block before the slot of LSN `n`. -/
def State.blockOfs (s : State) (n : Nat) : Nat := s.areaPlace n % s.blockSlots

/-- The first LSN of the logical block that holds the slot of LSN `n` (R122). -/
def State.blockStart (s : State) (n : Nat) : Nat := n - s.blockOfs n

/-- The slots of a segment from LSN `n`: its Write takes up to 256 places, to the end of the area (R122). -/
def State.segCount (s : State) (n : Nat) : Nat :=
  min (s.nextLsn - n) (min (256 - s.blockOfs n) (s.areaSlots - s.areaPlace n))

/-- The bytes of the ring slots of `n` LSNs; the place of an archived one may have been taken since (R91, R116). -/
def State.ringBytes (s : State) (lsn : Nat) : Nat → Bytes
  | 0 => []
  | n + 1 => (((s.recAt lsn).map Rec.bytes).getD (tornBytes lsn)) ++ s.ringBytes (lsn + 1) n

/-- The zero slots behind a segment whose Write has taken `count` places, to the end of its last logical block (R122). -/
def State.padSlots (s : State) (count : Nat) : Nat := (s.blockSlots - count % s.blockSlots) % s.blockSlots

/-- The places of a segment's Write: whole logical blocks (R122). -/
def State.segPlaces (s : State) (n count : Nat) : Nat := s.blockOfs n + count + s.padSlots (s.blockOfs n + count)

/-- A segment's NVMe Write: its slots, and zero slots in the unfilled places of its first and last logical blocks (R120,
R122). The first block has unfilled places only where it would hold LSNs below 0. -/
def State.writeSegment (s : State) (n count : Nat) : State :=
  s.emit (.nvmeWrite (32768 + 256 * (s.areaPlace n - s.blockOfs n))
    (zeros (256 * s.blockOfs n) ++ s.ringBytes n count ++ zeros (256 * s.padSlots (s.blockOfs n + count))))

/-- The next segment's command is charged to the Archive Port's meters, or held (R44, R462): the state
with what was charged, and whether it may be issued. -/
def State.chargeArchive (s : State) (bytes : Nat) : Bool × State :=
  let r : Bool × State :=
    if s.press.segCharged then (true, s)
    else if s.admits (.eng 19) then (true, (s.charge (.eng 19) 1).onPress fun p => { p with segCharged := true })
    else (false, s.noteHeld (.eng 19))
  if !r.1 then r
  else if r.2.admits (.eng 35) then
    (true, (r.2.charge (.eng 35) bytes).onPress fun p => { p with segCharged := false })
  else (false, r.2.noteHeld (.eng 35))

/-- Segments outstanding at a time (R122). -/
def segLimit : Nat := 8

/-- The archive may take commands: enabled, bound, its link up (R121, R371). -/
def State.archiveOpen (s : State) : Bool := s.fb .PR_CTRL_ARCHEN && s.press.bound && s.ports.archiveLink

/-- Segments that the drive has. -/
def Seg.outstanding (g : Seg) : Bool := !g.drained && !g.reissue

/-- The list with `g` applied to its first element that passes `p`. -/
def onFirst (p : Seg → Bool) (g : Seg → Seg) : List Seg → List Seg
  | [] => []
  | x :: l => if p x then g x :: l else x :: onFirst p g l

/-- A segment that waits to be issued again from LSN `n`. -/
def Seg.waitsAt (n : Nat) (g : Seg) : Bool := g.reissue && decide (g.first = n)

/-- The segment from LSN `first` that the drive has had longest (R123). -/
def Seg.outAt (first : Nat) (g : Seg) : Bool := g.outstanding && decide (g.first = first)

/-- Issues a segment from LSN `n`, replacing the one that waits to be issued again from it. -/
def State.issueFrom (s : State) (n count tries : Nat) : State :=
  match s.chargeArchive (256 * s.segPlaces n count) with
  | (false, s) => s
  | (true, s) =>
    let g : Seg := { first := n, count := count, tries := tries }
    (s.onPress fun p => { p with segs := ((takeFirst (Seg.waitsAt n) p.segs).map Prod.snd).getD p.segs ++ [g]
                                 issued := max p.issued (n + count) }).writeSegment n count

/-- Issues the next segment: one that waits to be issued again, else one of new slots (R122, R124). -/
def State.issueSegment (s : State) (atBoundary : Bool) : State :=
  if !s.archiveOpen || segLimit ≤ (s.press.segs.filter Seg.outstanding).length then s
  else match s.press.segs.find? fun g => g.reissue with
    | some g => s.issueFrom g.first g.count g.tries
    | none =>
      let left := s.nextLsn - s.press.issued
      if s.press.retrying || left = 0 || (left < 256 && !atBoundary) then s
      else
        let n := s.blockStart s.press.issued
        s.issueFrom n (s.segCount n) 0

/-- ARCHIVE_SEGMENT_ISSUE. -/
def execArchiveSegmentIssue (atBoundary : Bool) (s : State) : Res := .next (s.issueSegment atBoundary)

/-- PR_ARCHLSN moved past the longest run of drained segments from it (R123). -/
def advanceArch : Nat → Nat → List Seg → Nat × List Seg
  | 0, a, l => (a, l)
  | n + 1, a, l =>
    match takeFirst (fun g => g.drained && decide (g.first ≤ a) && decide (a < g.first + g.count)) l with
    | some (g, r) => advanceArch n (g.first + g.count) r
    | none => (a, l.filter fun g => !g.drained || decide (a < g.first + g.count))

/-- A segment is drained (R123, R124). A completion names its segment by its first LSN; of two Writes from one LSN (a
partly filled block, written again) it is the older that completes (DESIGN CHOICE, log entry 36). -/
def State.drain (s : State) (first : Nat) : State :=
  let segs := onFirst (Seg.outAt first) (fun g => { g with drained := true }) s.press.segs
  let r := advanceArch segs.length (s.f .PR_ARCHLSN_ARCHLSN) segs
  let s := (s.onPress fun p => { p with segs := r.2 }).setF .PR_ARCHLSN_ARCHLSN r.1
  let s := (s.bump .PR_CNTARC_AWRITES).noteOcc
  let s := if s.fb .PR_STAT_ASTALL then s.archiveResume else s.onPress fun p => { p with retrying := false }
  s.pressPump

/-- Nothing is outstanding: the next segment is the one from PR_ARCHLSN (R371). -/
def State.archiveAbandon (s : State) : State :=
  s.onPress fun p => { p with segs := [], issued := s.f .PR_ARCHLSN_ARCHLSN, segCharged := false }

/-- The archive starts again from PR_ARCHLSN, every 1 s until a segment drains (R124). -/
def State.archiveRestart (s : State) : State := s.archiveAbandon.onPress fun p => { p with retrying := true }

/-- A port reset of the Archive Port clears its link and its counters (R359); at the next link-up the Steward binds the
drive again (R121, R371; log entry 44). -/
def State.archivePortReset (s : State) : State :=
  let s := ((s.setF .AP_CNT_CMDS 0 0).setF .AP_CNT_UR 0 0).setF .AP_CNT_LINKDOWN 0 0
  let s := (s.setF .P_STAT_LINK 0 9).setF .P_STAT_RATE 0 9
  { s with ports := { s.ports with archiveLink := false }, press := { s.press with bound := false } }

/-- A segment fails: ASTALL, a port reset of the Archive Port, and re-issue from PR_ARCHLSN (R124). -/
def State.failSegment (s : State) (cause : Nat) : State :=
  (s.archivePortReset.archiveRestart).archiveStall cause

/-- SEGMENT_COMPLETE: a drive completes a Write (R123, R124). -/
def execSegmentComplete (first : Nat) (ok : Bool) (s : State) : Res :=
  .next (match s.press.segs.find? (Seg.outAt first) with
    | none => s
    | some g =>
      let s := s.bump .AP_CNT_CMDS
      if ok then s.drain first
      else
        let s := s.bump .PR_CNTARC_AERR
        if g.tries < 3 then
          (s.onPress fun p => { p with
            segs := onFirst (Seg.outAt first) (fun h => { h with reissue := true, tries := h.tries + 1 }) p.segs }).issueSegment
              false
        else s.failSegment 2)

/-- SEGMENT_TIMEOUT: no completion after 10 s (R124). -/
def execSegmentTimeout (first : Nat) (s : State) : Res :=
  .next (if s.press.segs.any (Seg.outAt first) then
      (s.bump .PR_CNTARC_ATMO).failSegment 3
    else s)

/-- ARCHIVE_RETRY_TIMER: while stalled, a segment from PR_ARCHLSN is issued again (R124). -/
def execArchiveRetryTimer (s : State) : Res :=
  .next (
    if s.press.retrying && s.archiveOpen && (s.press.segs.filter Seg.outstanding).isEmpty then
      let a := s.f .PR_ARCHLSN_ARCHLSN
      if s.nextLsn ≤ a then s
      else
        let n := s.blockStart a
        (s.onPress fun p => { p with segs := [] }).issueFrom n (s.segCount n) 0
    else s)

/-! ## Binding -/

/-- The device identity keys' hash, DEVKEY (R399): of the identity certificate's two public keys. -/
def State.devKey (s : State) : BitVec 512 :=
  match s.trust.idCert with
  | some c => sha512 (sliceAt c 64 1984)
  | none => 0

/-- The bytes of the label for this device (R120). -/
def State.labelBytes (s : State) (lbas : Bool) (bindLsn capseg : Nat) : Bytes :=
  let b := [0x50, 0x4F, 0x52, 0x54, 0x55, 0x4D, 0x41, 0x52] ++ leBytes 1 1 ++ leBytes 1 (b2n lbas) ++ zeros 6 ++
    leBytes 8 bindLsn ++ leBytes 4 capseg ++ zeros 4 ++ leBytes 64 s.devKey.toNat ++ zeros 32668
  b ++ leBytes 4 (crc32c b)

/-- MAGIC of a label (R120). -/
def labelMagic (b : Bytes) : Bool := b.take 8 = [0x50, 0x4F, 0x52, 0x54, 0x55, 0x4D, 0x41, 0x52]

/-- A label is valid (R121). -/
def labelValid (b : Bytes) : Bool :=
  labelMagic b && fieldAt b 8 1 = 1 && fieldAt b 10 6 = 0 && fieldAt b 28 4 = 0 &&
  (sliceAt b 96 32668).all (· = 0) && fieldAt b 32764 4 = crc32c (b.take 32764)

/-- CAPSEG of a drive (R370). -/
def capsegOf (d : Drive) : Nat := (d.nsze * (if d.lbas then 4096 else 512) - 32768) / 1048576

/-- The drive is bound: the archive continues from PR_ARCHLSN (R121). -/
def State.bindDrive (s : State) (d : Drive) (bindLsn : Nat) : State :=
  let s := ((s.setF .PR_ACFG_LBAS (b2n d.lbas)).setF .PR_ACFG_CAPSEG (capsegOf d)).setF .PR_ABIND_BINDLSN bindLsn
  let s := s.setF .PR_CTRL_ARCHEN 1
  s.onPress fun p => { p with bound := true, binding := false, segs := [], issued := s.f .PR_ARCHLSN_ARCHLSN }

/-- Binding ends without a drive (R121). -/
def State.refuseDrive (s : State) (cause : Nat) : State :=
  (s.onPress fun p => { p with binding := false, bound := false }).archiveStall cause

/-- Binding with what the Steward finds (R121, R369). -/
def State.bindWith (s : State) (d : Option Drive) : State :=
  if !s.archiveEnabled then s
  else match d with
    | none => s.refuseDrive 7
    | some d =>
      let l := fitTo 32768 d.label
      if !d.suitable then s.refuseDrive 5
      else if l.all (· = 0) then
        let b := s.f .PR_ARCHLSN_ARCHLSN
        (s.emit (.nvmeWrite 0 (s.labelBytes d.lbas b (capsegOf d)))).bindDrive d b
      else if labelValid l then
        if fieldAt l 32 64 != s.devKey.toNat then s.refuseDrive 1
        else if fieldAt l 9 1 = b2n d.lbas && fieldAt l 24 4 = capsegOf d then s.bindDrive d (fieldAt l 16 8)
        else s.refuseDrive 4
      else s.refuseDrive 4

/-- The NVMe commands of a binding (R370, log entry 35): Identify twice; for a suitable drive also Set
Features, the two Create commands and the Read of the label; and the Write of a label. -/
def bindCommands (d : Drive) : Nat :=
  if !d.suitable then 2 else if (fitTo 32768 d.label).all (· = 0) then 7 else 6

/-- DRIVE_BIND: its commands are charged to the Archive Port's meter, or held (R44, R121). -/
def execDriveBind (d : Option Drive) (s : State) : Res :=
  .next (match d with
    | none => s.bindWith none
    | some x =>
      if !s.archiveEnabled || !s.ports.archiveLink then s
      else if !s.admits (.eng 19) then s.noteHeld (.eng 19)
      else ((s.charge (.eng 19) (bindCommands x)).bump .AP_CNT_CMDS (bindCommands x)).bindWith d)

/-- The Steward starts binding, while archive enable is 1 (R121). -/
def State.startBinding (s : State) : State :=
  if s.archiveEnabled then s.onPress fun p => { p with binding := true } else s

/-- ARCHIVE_LINK_UP (R121). -/
def execArchiveLinkUp (s : State) : Res :=
  .next (
    if s.fb .P_CTRL_ENABLE 9 && !s.portDown 9 then
      let s := s.setF .P_STAT_LINK 1 9
      { s with ports := { s.ports with archiveLink := true } }.startBinding
    else s)

/-- The Archive Port's link is lost: every outstanding segment fails (R371). -/
def State.archiveLinkLost (s : State) : State :=
  let n := (s.press.segs.filter Seg.outstanding).length
  let s := (s.bump .AP_CNT_LINKDOWN).setF .P_STAT_LINK 0 9
  let s := { s with ports := { s.ports with archiveLink := false } }
  let s := (s.bump .PR_CNTARC_AERR n).onPress fun p => { p with bound := false }
  s.archiveRestart.archiveStall 2

/-- ARCHIVE_LINK_DOWN (R371). -/
def execArchiveLinkDown (s : State) : Res := .next (if s.ports.archiveLink then s.archiveLinkLost else s)

/-- BIND_LINK_TIMEOUT: no link-up within 1 s of binding starting (R121). -/
def execBindLinkTimeout (s : State) : Res :=
  .next (if s.press.binding && !s.ports.archiveLink && s.archiveEnabled then s.refuseDrive 7 else s)

end Sys2Proof.Machine
end

