-- ==== Sys2Proof/Machine/Steward.lean ====
section
/-! DEFINITION. What the Steward checks for every channel: the lifecycle state, role sessions, VERIFY2 for
its own use (R153, R342, R343, R347, R390, R407, R463). -/

namespace Sys2Proof.Machine

/-- Role codes (R390). -/
def roleOperator : Nat := 1
def roleInstaller : Nat := 2
def roleAuditor : Nat := 3
def roleVendor : Nat := 4

/-- Lifecycle state codes (R390). -/
def lcManufactured : Nat := 1
def lcEnrolled : Nat := 2
def lcCommissioned : Nat := 3
def lcService : Nat := 4
def lcRetired : Nat := 5

/-- The lifecycle state: fuses and the state cell (R390, R407, R414). -/
def State.lifecycle (s : State) : Nat :=
  if s.trust.retired then lcRetired
  else if s.trust.commissioned then (if s.trust.service then lcService else lcCommissioned)
  else if s.trust.enrolled then lcEnrolled
  else lcManufactured

/-- Changes the trust state. -/
def State.onTrust (s : State) (g : TrustS → TrustS) : State := { s with trust := g s.trust }

/-- Changes the dictionary's state. -/
def State.onDict (s : State) (g : DictS → DictS) : State := { s with dict := g s.dict }

/-- The role session open on an instance (R343). -/
def State.roleOf (s : State) (i : Inst) : Option RoleSess := s.trust.roles.find i

/-- A session of exactly this role is open on the instance (R337, R347 check 4). -/
def State.hasRole (s : State) (i : Inst) (role : Nat) : Bool :=
  match s.roleOf i with
  | some r => r.role = role
  | none => false

/-- The instance is a CAN port's server. -/
def Inst.isCan (i : Inst) : Bool := (instCan i).isSome

/-- Checks 3 to 5 of R347 for a domain object: whether the instance reaches it, the role it needs, the
lifecycle states that allow it. -/
def State.admitWrite (s : State) (i : Inst) (reach : Bool) (role : Nat) (states : List Nat) : Except Nat Unit :=
  if !reach then .error 0x0800010B
  else if !s.hasRole i role then .error 0x08000101
  else if !states.contains s.lifecycle then .error 0x08000108
  else .ok ()

/-- VERIFY2 for the Steward (R153, R463): public keys, message, both signatures, context. A job that ends
for want of a READY engine aborts with 0x0800_0000; anything but VERIFIED with 0x0800_0103. -/
def State.verify2 (s : State) (edPub mlPub msg edSig mlSig ctx : Bytes) : Except Nat Unit :=
  if !s.anyReady then .error 0x08000000
  else if edVerified edPub msg edSig && Config.mldsaVerify mlPub ctx msg mlSig then .ok ()
  else .error 0x08000103

/-- The bytes of an ASCII string. -/
def ascii (x : String) : Bytes := x.toList.map fun c => BitVec.ofNat 8 c.toNat

/-- The answer to a request's write, by its result (R347). -/
def State.answerWrite (s : State) (v : Serves) : Except Nat State → State
  | .ok t => t.writeOk v
  | .error c => s.abortWrite v c

end Sys2Proof.Machine
end

