-- ==== Sys2Proof/Machine/Ports.lean ====
section
/-! DEFINITION. The ports' own operations and commands (R359-R387): Ethernet frames, PTP, the mailbox, the
Ledger window, the drive's requests, sensor loops, GPIO, limiters, port resets. -/

namespace Sys2Proof.Machine

/-- Changes the ports. -/
def State.onPorts (s : State) (g : PortsS → PortsS) : State := { s with ports := g s.ports }

/-! ## Lane Ports: received frames -/

/-- MAXFRM in force (R365). -/
def State.maxFrame (s : State) (p : Nat) : Nat := min 9216 (max 1518 (s.f .LP_CFG_MAXFRM p))

/-- A Lane Port's IPv6 address, first octet lowest (R365). -/
def State.laneIp6 (s : State) (p : Nat) : Nat := s.f .LP_IP6LO_ADDR p + 2 ^ 64 * s.f .LP_IP6HI_ADDR p

/-- The destination address is one that the port takes (R361); a solicited-node address holds the last three
octets of the address. -/
def State.laneDst (s : State) (p : Nat) : EthDst → Bool
  | .mac a => a.toNat = s.f .LP_MAC_MAC p
  | .broadcast => true
  | .solicitedNode a => s.fb .LP_CFG_IP6EN p && bitsOf a.toNat 104 24 = bitsOf (s.laneIp6 p) 104 24
  | .ptp => true

/-- The VLAN tag is what the port takes (R361). -/
def State.laneVlan (s : State) (p : Nat) (vid : Option (BitVec 12)) : Bool :=
  if s.fb .LP_CFG_VLANEN p then (match vid with
    | some v => decide (v.toNat = s.f .LP_CFG_VID p)
    | none => false)
  else vid.isNone

/-- A received frame is taken (R361). -/
def State.laneTakes (s : State) (p : Nat) (f : EthFrame) : Bool :=
  f.fcsOk && decide (64 ≤ f.len) && decide (f.len ≤ s.maxFrame p) && s.laneDst p f.dst && s.laneVlan p f.vid

/-- A frame dropped under R361. -/
def State.laneDrop (s : State) (p : Nat) : State := s.bump .LP_CNTRX_DROPS 1 p

/-- The port's address of a family is in use (R365). -/
def State.laneFamily (s : State) (p : Nat) (v6 : Bool) : Bool := if v6 then s.fb .LP_CFG_IP6EN p else s.fb .LP_CFG_IP4EN p

/-- The frame carries a PLP frame for this port (R361). -/
def State.isPlp (s : State) (p : Nat) : EthContent → Bool
  | .udp dport _ toPort v6 bad zero _ _ =>
    toPort && s.laneFamily p v6 && !(if zero then v6 else bad) && decide (dport.toNat = s.f .LP_CFG_UDPPORT p)
  | _ => false

/-- Echo replies in a second (R361). -/
def echoLimit : Nat := 100

/-- The Steward answers an echo request, at most 100 in a second (R361). -/
def State.echo (s : State) (p : Nat) (v6 : Bool) : State :=
  let now := s.ns / 1000000000
  let e := s.ports.echoes.get (now, 0) p
  let n := if e.1 = now then e.2 else 0
  if echoLimit ≤ n then s.laneDrop p
  else ((s.onPorts fun q => { q with echoes := q.echoes.set p (now, n + 1) }).emit (.echoReply p v6)).bump .LP_CNTTX_FRAMES 1 p

/-- What becomes of a taken frame that is not a PLP frame (R361). -/
def State.laneOther (s : State) (p : Nat) : EthContent → State
  | .arp t =>
    if s.fb .LP_CFG_IP4EN p && t.toNat = s.f .LP_IP4_ADDR p then (s.emit (.arpReply p)).bump .LP_CNTTX_FRAMES 1 p
    else s.laneDrop p
  | .solicit t =>
    if s.fb .LP_CFG_IP6EN p && t.toNat = s.laneIp6 p then (s.emit (.neighbourAdvert p)).bump .LP_CNTTX_FRAMES 1 p
    else s.laneDrop p
  | .echo v6 toPort => if toPort && s.laneFamily p v6 then s.echo p v6 else s.laneDrop p
  | .udp dport _ toPort v6 bad zero _ _ =>
    if toPort && s.laneFamily p v6 && !(if zero then v6 else bad) && (dport = 319 || dport = 320) then s else s.laneDrop p
  | _ => s.laneDrop p

/-- The bytes a receive buffer holds: each frame takes its length rounded up to 64 (R52). -/
def rxFill (l : List RxFrame) : Nat := (l.map fun x => 64 * divUp x.len 64).foldl (· + ·) 0

/-- The size of a Lane Port's receive buffer (R52). -/
def rxSize : Nat := 262144

/-- The receive buffer of a Lane Port. -/
def State.rxQueue (s : State) (p : Nat) : List RxFrame := s.ports.rx.get [] p

/-- Sets the receive buffer of a Lane Port. -/
def State.setRx (s : State) (p : Nat) (l : List RxFrame) : State := s.onPorts fun q => { q with rx := q.rx.set p l }

/-- The meter of a port's frames admits a frame that has nothing uncharged ahead of it (R44, R462). -/
def State.rxAdmits (s : State) (p : Nat) : Bool := (s.rxQueue p).all RxFrame.charged && s.admits (portMeter p)

/-- A taken frame: a PLP frame, or a frame the port meter holds, goes to the receive buffer, where there is
room; any other frame is handled at once (R44, R52, R361). -/
def State.laneTake (s : State) (p : Nat) (f : EthFrame) : State :=
  let ok := s.rxAdmits p
  let plp := s.isPlp p f.content
  if ok && !plp then (s.charge (portMeter p) 1).laneOther p f.content
  else if rxSize < rxFill (s.rxQueue p) + 64 * divUp f.len 64 then s.bump .ENG_OVR_DROPS 1 (10 + p)
  else
    let s := if ok then s.charge (portMeter p) 1 else s.noteHeld (portMeter p)
    let s := if plp then s.bump .LP_CNTRX_PLPFRAMES 1 p else s
    s.setRx p (s.rxQueue p ++ [⟨f.content, f.len, ok⟩])

/-! ## PTP -/

/-- PTP event messages: Sync, Delay_Req, Pdelay_Req, Pdelay_Resp (R364, IEEE 1588). -/
def ptpEvent (t : BitVec 4) : Bool := t.toNat < 4

/-- PTP_EVENT_MESSAGE: the timestamp, and the offset of the slave clock on PTPLANE (R364, R37, R38). -/
def execPtpEventMessage (p : Fin 8) (sent : Bool) (mtype : BitVec 4) (seq : BitVec 16)
    (offset : Option (BitVec 32)) (s : State) : Res :=
  .next (
    if !s.fb .P_CTRL_ENABLE p.val || s.portDown p.val || !ptpEvent mtype then s
    else
      let p := p.val
      let s := if sent then
          ((s.setF .LP_TSTX_TIME s.ns p).setF .LP_TSID_TXSEQ seq.toNat p).setF .LP_TSID_TXTYPE mtype.toNat p
        else ((s.setF .LP_TSRX_TIME s.ns p).setF .LP_TSID_RXSEQ seq.toNat p).setF .LP_TSID_RXTYPE mtype.toNat p
      match offset with
      | some o => if s.f .TU_CTRL_PTPLANE = p then s.writeRefofs o.toNat else s
      | none => s)

/-! ## Frames lost and held in a port's transmit queue -/

/-- Takes the `n` newest PLP frames of a port out of the outputs, newest first: they had not left it (R464). -/
def pullBack (port : Nat) : Nat → List Out → List (Nat × Frame) × List Out
  | _, [] => ([], [])
  | 0, l => ([], l)
  | n + 1, o :: l =>
    match o with
    | .plp q peer _ f =>
      if q = port then
        let r := pullBack port n l
        ((peer, f) :: r.1, r.2)
      else
        let r := pullBack port (n + 1) l
        (r.1, o :: r.2)
    | _ =>
      let r := pullBack port (n + 1) l
      (r.1, o :: r.2)

/-- A frame that had not left a port: its copy is unsent, or its acknowledgement is due again (R464, R67). -/
def State.unsend (s : State) (x : Nat × Frame) : State :=
  let l := s.link x.1
  if x.2.hdr.kind = 3 then s.setLink x.1 { l with ackDue := true }
  else s.setLink x.1 { l with out := l.out.map fun c =>
    if c.frame.hdr.lseq = x.2.hdr.lseq then { c with sent := false } else c }

/-- The `n` newest frames of a Lane Port are removed from its transmit queue (R464). -/
def State.removeUnsent (s : State) (p n : Nat) : State :=
  let r := pullBack p n s.wire.reverse
  let s := { s with wire := r.2.reverse }
  (r.1.foldl State.unsend s).setF .LP_CNTTX_FRAMES (s.f .LP_CNTTX_FRAMES p - r.1.length) p

/-- Unsent frames go out to every peer whose current port is this one (R464). -/
def State.resumePort (s : State) (p : Nat) : State :=
  (s.hamper.links.entries.filter fun e => e.2.port = some p).foldl (fun (s : State) e => s.sendUnsent e.1) s

/-- A frame that arrives shows that the link is up and the PCS works (log entry 34): the port can carry frames again. -/
def State.laneAlive (s : State) (p : Nat) : State :=
  let t := (s.setF .P_STAT_FAULT 0 p).onPorts fun q => { q with laneDown := removeNum p q.laneDown }
  if s.laneUp p then t else t.resumePort p

/-- LANE_FRAME_RECEIVE (R361). -/
def execLaneFrameReceive (p : Fin 8) (f : EthFrame) (s : State) : Res :=
  .next (
    if !s.fb .P_CTRL_ENABLE p.val || s.portDown p.val then s
    else
      let s := s.laneAlive p.val
      let s := if f.fcsOk then s else s.bump .LP_CNTRX_FCSERR 1 p.val
      let s := if s.maxFrame p.val < f.len then s.bump .LP_CNTTX_OVERSIZE 1 p.val else s
      let s := if f.fcsOk && f.content = .pause then s.bump .LP_CNTTX_PAUSE 1 p.val else s
      if f.content != .pause && s.laneTakes p.val f then s.laneTake p.val f else s.laneDrop p.val)

/-- LANE_PORT_FAULT: the link is lost, or the PCS reports a high bit-error rate (R83, R365, R464). -/
def execLanePortFault (p : Fin 8) (linkLost : Bool) (unsent : Nat) (s : State) : Res :=
  .next (
    if !s.fb .P_CTRL_ENABLE p.val then s
    else
      let s := (s.setRx p.val []).removeUnsent p.val unsent
      if linkLost then s.onPorts fun q => { q with laneDown := p.val :: removeNum p.val q.laneDown }
      else s.setF .P_STAT_FAULT 1 p.val)

/-! ## Link patterns -/

/-- The links of a port (R432). -/
def linksOf (p : Nat) : List Nat :=
  if p < 8 then [p] else if p = 8 then [8, 9, 10, 11] else if p = 9 then [12, 13] else [p + 4]

/-- A link's generator and checker stop, and PATTERN is 0 (R433). -/
def State.stopPattern (s : State) (l : Nat) : State :=
  (((s.setF .TS_CTRL_PATTERN 0 l).setF .TS_STAT_SYNC 0 l)).onPorts fun q => { q with tests := q.tests.erase l }

/-- A port reset clears the test registers of the port's links (R418, R433, R439). -/
def State.clearTest (s : State) (l : Nat) : State :=
  let s := [Fld.TS_CTRL_LOOP, .TS_CTRL_GEN, .TS_CTRL_CHK, .TS_STAT_BADCFG, .TS_STAT_SYNCLOSS, .TS_BITS_BITS,
    .TS_ERRS_ERRORS].foldl (fun (s : State) x => s.setF x 0 l) s
  s.stopPattern l

/-- The test registers of a port's links are cleared. -/
def State.clearTests (s : State) (p : Nat) : State := (linksOf p).foldl State.clearTest s

/-! ## Role sessions of a server instance -/

/-- A server instance is lost: its role session, its challenge and its transfer end (R343, R402). -/
def State.loseInst (s : State) (i : Inst) : State :=
  (s.onTrust fun t => { t with roles := t.roles.erase i, chals := t.chals.erase i }).onDict fun d =>
    { d with transfers := d.transfers.erase i }

/-! ## Host Port -/

/-- The Host Port's number. -/
def hostPort : Nat := 8

/-- The Host Port's link is up (R366). -/
def State.hostUp (s : State) : Bool := s.fb .P_CTRL_ENABLE hostPort && !s.portDown hostPort && s.fb .P_STAT_LINK hostPort

/-- Changes the mailbox. -/
def State.onMailbox (s : State) (g : MailboxS → MailboxS) : State :=
  s.onPorts fun q => { q with mailbox := g q.mailbox }

/-- The bytes of a message as the host wrote them (R344); reserved bytes that are not zero are free values. -/
def Mgmt.bytes (q : Mgmt) (r : Nat) : Bytes :=
  let x := if q.rsvZero then zeros 64 else leBytes 64 (Config.draw r).toNat
  leBytes 1 q.op.toNat ++ leBytes 1 q.flags.toNat ++ leBytes 2 q.index.toNat ++ leBytes 1 q.sub.toNat ++ sliceAt x 0 3 ++
  leBytes 4 q.tag.toNat ++ leBytes 4 q.ofs ++ leBytes 4 q.len ++ sliceAt x 4 4 ++ sliceAt x 8 8 ++ q.data

/-- The longest message the mailbox carries (R367). -/
def mailBytes : Nat := 4064

/-- A write to HDB: a message of `len` bytes (R367). -/
def State.deliverMail (s : State) (len : Nat) (q : Mgmt) : State :=
  if s.ports.mailbox.busy || decide (mailBytes < len) then s.bump .HP_CNT_BUSYWR
  else
    let (r, s) := s.draw
    (s.onMailbox fun b => { b with inMsg := some (len, q), inBuf := Mgmt.bytes q r, hdb := len, busy := true }).bump .HP_CNT_MSGIN

/-- MAILBOX_SEND: while VALID is 0 the oldest outbound message goes to the device-to-host buffer (R367). -/
def execMailboxSend (s : State) : Res :=
  .next (match s.mailOut with
    | [] => s
    | m :: r =>
      if s.ports.mailbox.valid || !s.hostUp then s
      else (({ s with mailOut := r }.onMailbox fun b => { b with outMsg := some m, valid := true }).emit (.mailbox m)).emit
        (.msix 0))

/-- The Host Port's link is lost: requests that wait end with it, and so does the mailbox's role session (R343, R366). -/
def State.hostLinkLost (s : State) : State :=
  (((s.setF .P_STAT_LINK 0 hostPort).setF .P_STAT_RATE 0 hostPort).onPorts fun q => { q with hostHeld := [] }).loseInst .mailbox

/-- A port reset of the Host Port: link, buffers and counters are cleared (R359, R366). -/
def State.hostReset (s : State) : State :=
  let s := ((s.clearTests hostPort).hostLinkLost).setF .P_STAT_FAULT 0 hostPort
  let s := ((s.setF .HP_CNT_MSGIN 0).setF .HP_CNT_BUSYWR 0).setF .HP_CNT_BADREQ 0
  (s.setF .HP_CNT_DROPS 0).onMailbox fun _ => {}

/-- HOST_LINK_DOWN: a link-down, or a function level reset, which acts as a port reset (R366). -/
def execHostLinkDown (flr : Bool) (s : State) : Res :=
  .next (
    if !s.hostUp then s
    else if flr then s.hostReset
    else s.hostLinkLost)

/-- The width code in force (R366, R368). -/
def widthCode (maxWidth w : Nat) : Nat := min w (min maxWidth 2)

/-- HOST_LINK_UP: the link trains to at most MAXGEN and MAXWIDTH (R366, R368). -/
def execHostLinkUp (gen : Fin 4) (width : Fin 3) (s : State) : Res :=
  .next (
    if !s.fb .P_CTRL_ENABLE hostPort || s.portDown hostPort || s.fb .P_STAT_LINK hostPort then s
    else
      let g := min gen.val (s.f .HP_CFG_MAXGEN hostPort)
      let w := widthCode (s.f .HP_CFG_MAXWIDTH hostPort) width.val
      ((s.setF .P_STAT_LINK 1 hostPort).setF .P_STAT_RATE (g + 4 * w) hostPort).emit (.msix 1))

/-- The Ledger window's base and size (R17, R91). -/
def windowBase : Nat := 0x30000000
def windowSize : Nat := 0x10000000

/-- `n` bytes of the Ledger window from an offset (R91). -/
def State.windowBytes (s : State) (ofs n : Nat) : Bytes :=
  let first := ofs / 256
  let slots := if n = 0 then 0 else (ofs + n - 1) / 256 + 1 - first
  sliceAt ((numsFrom first slots).flatMap s.slotBytes) (ofs % 256) n

/-- The 16 KiB of BAR0 (R367). -/
def State.bar0 (s : State) : Bytes :=
  let b := s.ports.mailbox
  let out := b.outMsg.getD []
  fitTo 4096 b.inBuf ++ fitTo 4096 out ++ leBytes 4 b.hdb ++ leBytes 4 (b2n s.dict.loaded + 2 * b2n b.busy) ++
  leBytes 4 (out.length + (if b.valid then 2 ^ 31 else 0)) ++ zeros 8180

/-- A read of BAR2: the Guard decides it (R366). It is held, and the answer is none, while the DMA meter is exhausted, or
while the Guard or the Ledger window holds it (R44, R94, R329). -/
def State.readBar2 (s : State) (ofs len : Nat) : Option State :=
  let a := windowBase + ofs
  if windowSize < ofs + len then some (s.emit (.hostAnswer false []))
  else if s.exhausted (dmaMeter hostPort) then none
  else match s.verdict hostAgent false a len with
    | .hold => none
    | .refuse _ _ =>
      some (((s.guardNote hostAgent false false a len).bump .HP_CNT_BADREQ).emit (.hostAnswer false []))
    | .allow =>
      some (((s.guardNote hostAgent false false a len).charge (dmaMeter hostPort) len).emit
        (.hostAnswer true (s.windowBytes ofs len)))

/-- An inbound request past the port meter is served, or held: BAR0 is the mailbox, BAR2 the read-only Ledger window
(R366, R367). -/
def State.hostServe (s : State) : HostReq → Option State
  | .deliver len q => some (s.deliverMail len q)
  | .ddbClear => some (s.onMailbox fun b => { b with valid := false })
  | .access write bar ofs len =>
    if bar = 2 then
      if write then some (s.bump .HP_CNT_BADREQ) else s.readBar2 ofs len
    else if bar = 0 then
      if !write then some (s.emit (.hostAnswer true (sliceAt s.bar0 ofs len)))
      else if s.ports.mailbox.busy && decide (ofs < 0x1000) then some (s.bump .HP_CNT_BUSYWR)
      else some s
    else some (s.emit (.hostAnswer false []))

/-- The inbound requests that wait. -/
def State.setHost (s : State) (l : List (HostReq × Bool)) : State := s.onPorts fun q => { q with hostHeld := l }

/-- Inbound requests in the order of their arrival: each is charged to the Host Port's meter once, or waits for it; the
first that waits holds those behind it (R44, R462). -/
def State.pumpHost (s : State) : List (HostReq × Bool) → State
  | [] => s.setHost []
  | (r, charged) :: l =>
    if !charged && s.exhausted (portMeter hostPort) then (s.noteHeld (portMeter hostPort)).setHost ((r, false) :: l)
    else
      let s := if charged then s else s.charge (portMeter hostPort) 1
      match s.hostServe r with
      | some t => t.pumpHost l
      | none => (if s.exhausted (dmaMeter hostPort) then s.noteHeld (dmaMeter hostPort) else s).setHost ((r, true) :: l)

/-- Held inbound requests are presented again. -/
def State.serveHost (s : State) : State := if s.hostUp then s.pumpHost s.ports.hostHeld else s

/-- An inbound request arrives. -/
def State.hostRequest (s : State) (r : HostReq) : State :=
  if s.hostUp then s.pumpHost (s.ports.hostHeld ++ [(r, false)]) else s

/-- MAILBOX_DELIVER: a write to HDB (R367). -/
def execMailboxDeliver (len : BitVec 13) (q : Mgmt) (s : State) : Res := .next (s.hostRequest (.deliver len.toNat q))

/-- MAILBOX_DDB_CLEAR: the host writes 1 to VALID (R367). -/
def execMailboxDdbClear (s : State) : Res := .next (s.hostRequest .ddbClear)

/-- HOST_INBOUND_REQUEST (R366, R367). The bytes of a message, and writes to HDB and DDB, come with MAILBOX_DELIVER and
MAILBOX_DDB_CLEAR. -/
def execHostInboundRequest (write : Bool) (bar : Fin 6) (ofs len : Nat) (s : State) : Res :=
  .next (s.hostRequest (.access write bar.val ofs len))

/-! ## Archive Port -/

/-- The Archive Port's number. -/
def archPort : Nat := 9

/-- A slot is named by the PRP entries of a command that the drive has (R122, R371). -/
def State.prpNames (s : State) (slot : Nat) : Bool :=
  s.press.segs.any fun g => g.outstanding && (numsFrom g.first g.count).any fun n => slotIndex n = slot

/-- The drive may touch the byte at an address (R371, log entry 9). -/
def State.driveMay (s : State) (write : Bool) (a : Nat) : Bool :=
  if windowBase ≤ a && a < windowBase + windowSize then !write && s.prpNames ((a - windowBase) / 256)
  else match (Config.archiveArea a).val with
    | 1 => !write
    | 2 => true
    | 3 => true
    | 4 => !write
    | _ => false

/-- What the drive reads at an address: a ledger byte, zero in the zero page, else a free value. -/
def State.driveByte (s : State) (a : Nat) : Byte :=
  if windowBase ≤ a && a < windowBase + windowSize then
    (s.slotBytes ((a - windowBase) / 256)).getD (a % 256) 0
  else if (Config.archiveArea a).val = 4 then 0
  else Config.archiveByte a s.fresh

/-- The Guard decides the Archive Port's reads of the Ledger window; its own memory is no target of the map (R320, R371). -/
def State.archiveVerdict (s : State) (addr len : Nat) : Verdict :=
  if windowBase ≤ addr && addr < windowBase + windowSize then s.verdict archiveAgent false addr len else .allow

/-- ARCHIVE_INBOUND_REQUEST (R371): a read that the Guard refuses gets an error response (R326). -/
def execArchiveInboundRequest (write : Bool) (addr len : Nat) (s : State) : Res :=
  .next (
    if !s.ports.archiveLink then s
    else if (numsFrom addr len).all (s.driveMay write) then
      match s.archiveVerdict addr len with
      | .allow => s.draw.2.emit (.archiveAnswer true (if write then [] else (numsFrom addr len).map s.driveByte))
      | .hold => s
      | .refuse _ _ => (s.guardNote archiveAgent false false addr len).emit (.archiveAnswer false [])
    else (s.bump .AP_CNT_UR).emit (.archiveAnswer false []))

/-- SMART_LOG_TIMER: log page 0x02, whose critical warning byte 0x3411:05 reports (R370). -/
def execSmartLogTimer (warn : Byte) (s : State) : Res :=
  .next (
    if !s.ports.archiveLink || !s.press.bound then s
    else if !s.admits (portMeter archPort) then s.noteHeld (portMeter archPort)
    else
      let s := ((s.charge (portMeter archPort) 1).emit .nvmeLogPage).bump .AP_CNT_CMDS
      s.onDict fun d => { d with vals := d.vals.set (0x3411, 5) [warn] })

/-! ## Sensor loops -/

/-- A loop's port number. -/
def loopPort (n : Nat) : Nat := 12 + n

/-- A loop. -/
def State.loop (s : State) (n : Nat) : LoopS := s.ports.loops.get {} n

/-- Sets a loop. -/
def State.setLoop (s : State) (n : Nat) (x : LoopS) : State :=
  s.onPorts fun q => { q with loops := q.loops.set n x }

/-- One bit of CRC-16 with polynomial 0x1021, most significant bit first (R376). -/
def crc16Bit (c : Nat) : Nat := if c.testBit 15 then ((2 * c) ^^^ 0x1021) % 65536 else 2 * c

/-- One byte of CRC-16. -/
def crc16Byte (c : Nat) (b : Byte) : Nat :=
  let s := crc16Bit
  s (s (s (s (s (s (s (s (c ^^^ (256 * b.toNat)))))))))

/-- CRC-16 of R376: initial value 0xFFFF, no reflection, no final XOR. -/
def crc16 (b : Bytes) : Nat := b.foldl crc16Byte 0xFFFF

/-- A loop frame's bytes before its CRC. -/
def loopHead (addr ty seq : Nat) (pay : Bytes) : Bytes :=
  leBytes 1 addr ++ leBytes 1 ty ++ leBytes 1 seq ++ leBytes 1 pay.length ++ pay

/-- Sends a loop frame (R376). -/
def State.sendLoop (s : State) (n addr ty seq : Nat) (pay : Bytes) : State :=
  let h := loopHead addr ty seq pay
  s.emit (.loopFrame (Fin.ofNat 4 n) (h ++ leBytes 2 (crc16 h)))

/-- Frame types of R376. -/
def loopPollType : Nat := 1
def loopDataType : Nat := 2
def loopTriggerType : Nat := 3
def loopAckType : Nat := 4
def loopNoDataType : Nat := 5
def loopTimeType : Nat := 6

/-- A frame that keeps R376: its length, CRC, reserved bits and TYPE. -/
def loopFrameOk (f : Bytes) : Bool :=
  let len := fieldAt f 3 1
  decide (6 ≤ f.length) && decide (len ≤ 64) && f.length = 6 + len && fieldAt f (4 + len) 2 = crc16 (f.take (4 + len)) &&
  bitsOf (fieldAt f 0 1) 5 2 = 0 && decide (1 ≤ fieldAt f 1 1) && decide (fieldAt f 1 1 ≤ 6)

/-- Sends, or sends again, the frame of an exchange (R377, R379). -/
def State.sendExchange (s : State) (n : Nat) (e : Exchange) : State :=
  match e.trigger with
  | none => s.sendLoop n e.addr loopPollType e.seq []
  | some p => s.sendLoop n e.addr loopTriggerType e.seq p

/-- Starts an exchange with the Portum's next count. -/
def State.startExchange (s : State) (n addr : Nat) (trigger : Option Bytes) : State :=
  let x := s.loop n
  let e : Exchange := { addr := addr, trigger := trigger, seq := x.seq, tries := 0 }
  (s.setLoop n { x with exch := some e, seq := (x.seq + 1) % 256 }).sendExchange n e

/-- Sends held TRIGGER frames in order: a broadcast has no answer, an addressed one waits for its ACK (R379). -/
def State.sendTriggers (s : State) (n : Nat) : List (Nat × Bytes) → State
  | [] => s
  | (addr, p) :: l =>
    let s := s.setLoop n { s.loop n with triggers := l }
    if addr = 0 then
      let x := s.loop n
      ((s.setLoop n { x with seq := (x.seq + 1) % 256 }).sendLoop n 0 loopTriggerType x.seq p).sendTriggers n l
    else s.startExchange n addr (some p)

/-- Sends the TIME frame if one is due; its SEQ, which R376 leaves open, is a free value (R379). -/
def State.sendTime (s : State) (n : Nat) : State :=
  match (s.loop n).timeDue with
  | none => s
  | some t =>
    let (r, s) := s.draw
    (s.setLoop n { s.loop n with timeDue := none }).sendLoop n 0 loopTimeType ((Config.draw r).toNat % 256) (leBytes 8 t)

/-- The addresses set in POLLMAP, rising (R380). -/
def State.pollMap (s : State) (n : Nat) : List Nat :=
  (numsFrom 1 31).filter fun a => bitOf (s.f .SL_CFG_POLLMAP (loopPort n)) (a - 1)

/-- Polls the next address of the cycle (R377). -/
def State.pollNext (s : State) (n : Nat) : State :=
  let x := s.loop n
  let todo := x.polls.filter (s.pollMap n).contains
  match (if todo.isEmpty then s.pollMap n else todo) with
  | [] => s
  | a :: l => (s.setLoop n { x with polls := l }).startExchange n a none

/-- LOOP_POLL: pending TRIGGER and TIME frames, then the next poll, once no exchange is under way (R377,
R379). -/
def execLoopPoll (n : Loop) (s : State) : Res :=
  .next (
    if !s.fieldUp (loopPort n.val) || (s.loop n.val).exch.isSome then s
    else
      let s := s.sendTriggers n.val (s.loop n.val).triggers
      if (s.loop n.val).exch.isSome then s else (s.sendTime n.val).pollNext n.val)

/-- The entry a DATA frame makes on RXQ (R378). -/
def loopEntry (n : Nat) (f : Bytes) (tick ns : Nat) : QEnt :=
  let pay := f.take (4 + fieldAt f 3 1)
  devEntry { blankHdr 1 with
    session := BitVec.ofNat 16 n, reqid := BitVec.ofNat 32 tick, code := BitVec.ofNat 8 (fieldAt f 0 1 % 32),
    paylen := BitVec.ofNat 16 pay.length, handle := BitVec.ofNat 64 ns } pay

/-- A DATA frame that answers a poll: a repeat is acknowledged, an event is delivered where RXQ has a free
place, and otherwise counted (R377). -/
def State.takeData (s : State) (n addr : Nat) (f : Bytes) (tick ns : Nat) : State :=
  let q := s.f .SL_CFG_RXQ (loopPort n)
  let seq := fieldAt f 2 1
  let x := s.loop n
  if x.last.find addr = some seq then s.sendLoop n addr loopAckType seq []
  else if q < 1000 && 0 < s.freePlaces q then
    let s := (s.setLoop n { x with last := x.last.set addr seq }).addEntry q (loopEntry n f tick ns)
    (s.bump .SL_CNT_DATAFRAMES 1 (loopPort n)).sendLoop n addr loopAckType seq []
  else s.bump .SL_CNT_DROPS 1 (loopPort n)

/-- A frame from a slave that answers the exchange under way ends it; any other changes nothing (R377, R379). -/
def State.takeLoop (s : State) (n : Nat) (f : Bytes) (tick ns : Nat) : State :=
  let x := s.loop n
  let a := fieldAt f 0 1
  let ty := fieldAt f 1 1
  match x.exch with
  | none => s
  | some e =>
    if a != 128 + e.addr then s
    else match e.trigger with
      | none =>
        if ty = loopDataType then (s.setLoop n { x with exch := none }).takeData n e.addr f tick ns
        else if ty = loopNoDataType then s.setLoop n { x with exch := none }
        else s
      | some _ =>
        if ty = loopAckType && fieldAt f 2 1 = e.seq then s.setLoop n { x with exch := none } else s

/-- Frames a sensor loop's receive buffer holds (R52). -/
def loopBuffer : Nat := 16

/-- LOOP_FRAME_RECEIVE (R375-R378): a frame with a gap, or that breaks R376, is discarded and counted; the
port meter charges or holds the others (R44, R52). -/
def execLoopFrameReceive (n : Loop) (f : Bytes) (gap : Bool) (s : State) : Res :=
  .next (
    let p := loopPort n.val
    let x := s.loop n.val
    if !s.fieldUp p then s
    else if gap || !loopFrameOk f then s.bump .SL_CNT_CRCERR 1 p
    else if x.rx.isEmpty && s.admits (portMeter p) then (s.charge (portMeter p) 1).takeLoop n.val f s.tickNo s.ns
    else if loopBuffer ≤ x.rx.length then (s.noteHeld (portMeter p)).bump .ENG_OVR_DROPS 1 (10 + p)
    else (s.noteHeld (portMeter p)).setLoop n.val { x with rx := x.rx ++ [(f, s.tickNo, s.ns)] })

/-- Frames a loop's meter held are taken, while it admits them (R46, R52). -/
def State.releaseLoop (s : State) (n : Nat) : List (Bytes × Nat × Nat) → State
  | [] => s
  | (f, tick, ns) :: l =>
    let m := portMeter (loopPort n)
    if s.admits m then
      (((s.charge m 1).setLoop n { s.loop n with rx := l }).takeLoop n f tick ns).releaseLoop n l
    else s.noteHeld m

/-- A held frame answers the exchange under way. -/
def LoopS.answered (x : LoopS) (e : Exchange) : Bool := x.rx.any fun r => fieldAt r.1 0 1 = 128 + e.addr

/-- LOOP_ANSWER_TIMEOUT: two retries, then NOANSWER (R377, R379). -/
def execLoopAnswerTimeout (n : Loop) (s : State) : Res :=
  .next (
    let x := s.loop n.val
    match x.exch with
    | none => s
    | some e =>
      if x.answered e then s
      else if e.tries < 2 then
        let e := { e with tries := e.tries + 1 }
        (s.setLoop n.val { x with exch := some e }).sendExchange n.val e
      else (s.setLoop n.val { x with exch := none }).bump .SL_CNT_NOANSWER 1 (loopPort n.val))

/-- A write to SL_TRIG (R379, R380). -/
def State.writeTrig (s : State) (n v : Nat) : State :=
  let x := s.loop n
  if 4 ≤ x.triggers.length then s.bump .SL_CNT_DROPS 1 (loopPort n)
  else s.setLoop n { x with triggers := x.triggers ++ [(bitsOf v 0 5, leBytes 7 (v / 256))] }

/-- SL_TRIG: any master the Guard admits may write it (R379, R380). -/
def execSlTrig (m : Master) (n : Loop) (v : Word) (s : State) : Res :=
  .next (s.present m (0x40A02018 + 0x1000 * n.val) fun s => s.writeTrig n.val v.toNat)

/-- The loops at a boundary: held frames, then a TIME frame due (R46, R379). -/
def State.loopBoundary (s : State) (n : Nat) : State :=
  let s := s.releaseLoop n (s.loop n).rx
  if s.fieldUp (loopPort n) && s.fb .SL_CFG_TIMEBC (loopPort n) then s.setLoop n { s.loop n with timeDue := some s.tickNo }
  else s

/-- Every loop at a boundary. -/
def State.loopsBoundary (s : State) : State := [0, 1, 2, 3].foldl State.loopBoundary s

/-! ## Limiters, VEX -/

/-- The port of a subgroup: CAN-A, CAN-B, SL0 to SL3; none for the tamper loop (R385). -/
def subgroupPort (g : Nat) : Option Nat := if g < 6 then some (10 + g) else none

/-- A CAN port becomes bus-off (R374, R387). -/
def State.busOff (s : State) (p : Nat) : State := (s.setF .P_STAT_FAULT 1 p).bump .CN_CNT_BUSOFFS 1 p

/-- The exchange of a loop is lost (R387). -/
def State.loseExchange (s : State) (n : Nat) : State :=
  if (s.loop n).exch.isSome then
    (s.setLoop n { s.loop n with exch := none }).bump .SL_CNT_NOANSWER 1 (loopPort n)
  else s

/-- LIMITER_TRIP (R387): the tamper limiter never turns off. -/
def execLimiterTrip (g : Fin 7) (s : State) : Res :=
  .next (match subgroupPort g.val with
    | none => s
    | some p =>
      if s.isLimited p || !s.ports.vex then s
      else
        let s := (s.setF .P_STAT_LIMIT 1 p).onPorts fun q =>
          { q with limited := p :: q.limited, trips := q.trips.set p (q.trips.get 0 p + 1) }
        if p < 12 then s.busOff p else s.loseExchange (p - 12))

/-- BUS_OFF_RECOVERY: ISO 11898-1 clears the error counters; a port that its limiter turned off stays off
(R373, R387). -/
def execBusOffRecovery (c : CanPort) (s : State) : Res :=
  .next (
    let p := canPort c
    if s.fb .P_STAT_FAULT p && !s.isLimited p && s.fb .P_CTRL_ENABLE p && s.ports.vex then
      (s.setF .P_STAT_FAULT 0 p).setF .CN_CNT_TEC 0 p
    else s)

/-- VEX_SUPPLY_CHANGE: the drivers of the energy-limited group are off while VEX is absent; the tamper loop
runs from VBAT then (R385, R384). -/
def execVexSupplyChange (present : Bool) (s : State) : Res := .next (s.onPorts fun q => { q with vex := present })

/-! ## GPIO -/

/-- The levels at the GPIO pins (R382). -/
def State.gpioPins (s : State) : Nat :=
  (s.f .GP_OUT_OUT &&& s.f .GP_DIR_OUTEN) ||| (s.ports.gpioIn &&& (65535 ^^^ s.f .GP_DIR_OUTEN))

/-- The outputs change. -/
def State.driveGpio (s : State) : State := s.emit (.gpio (s.f .GP_OUT_OUT) (s.f .GP_DIR_OUTEN))

/-- A write to GP_SET (R382). -/
def State.gpioSet (s : State) (v : Nat) : State :=
  (s.setF .GP_OUT_OUT (s.f .GP_OUT_OUT ||| (v % 65536))).driveGpio

/-- A write to GP_CLR (R382). -/
def State.gpioClr (s : State) (v : Nat) : State :=
  (s.setF .GP_OUT_OUT (s.f .GP_OUT_OUT &&& (65535 ^^^ (v % 65536)))).driveGpio

/-- GP_SET: any master the Guard admits (R382). -/
def execGpSet (m : Master) (v : Word) (s : State) : Res := .next (s.present m 0x40E00018 fun s => s.gpioSet v.toNat)

/-- GP_CLR: any master the Guard admits (R382). -/
def execGpClr (m : Master) (v : Word) (s : State) : Res := .next (s.present m 0x40E00020 fun s => s.gpioClr v.toNat)

/-- A change of level at an input sets its bit of GP_EDGE (R382). -/
def State.gpioLevel (s : State) (i : Nat) (level : Bool) : State :=
  if bitOf (s.f .GP_DIR_OUTEN) i || bitOf s.ports.gpioIn i = level then s
  else
    (s.setF .GP_EDGE_EDGE (setBitOf (s.f .GP_EDGE_EDGE) i)).onPorts fun q =>
      { q with gpioIn := if level then setBitOf q.gpioIn i else clearBitOf q.gpioIn i }

/-! ## Port resets -/

/-- The server instance a CAN port carries. -/
def canInst (c : Nat) : Inst := if c = 10 then .canA else .canB

/-- A port reset of a Lane Port: link, buffers and counters (R359); frames of its transmit queue are sent again once the
link is up (R464; log entry 34). -/
def State.laneReset (s : State) (p unsent : Nat) : State :=
  let s := ((s.clearTests p).setRx p []).removeUnsent p unsent
  let s := [Fld.LP_CNTRX_PLPFRAMES, .LP_CNTRX_FCSERR, .LP_CNTRX_DROPS, .LP_CNTTX_FRAMES, .LP_CNTTX_PAUSE,
    .LP_CNTTX_OVERSIZE, .LP_TSRX_TIME, .LP_TSTX_TIME, .LP_TSID_RXSEQ, .LP_TSID_RXTYPE, .LP_TSID_TXSEQ,
    .LP_TSID_TXTYPE, .P_STAT_FAULT, .P_STAT_LIMIT].foldl (fun (s : State) x => s.setF x 0 p) s
  s.onPorts fun q => { q with laneDown := p :: removeNum p q.laneDown, echoes := q.echoes.erase p }

/-- A limiter that had turned the port off lets it run again (R387). -/
def State.limiterReset (s : State) (p : Nat) : State :=
  ((s.setF .P_STAT_LIMIT 0 p).setF .P_STAT_FAULT 0 p).onPorts fun q => { q with limited := removeNum p q.limited }

/-- A port reset of a CAN port (R359, R343, R357). -/
def State.canReset (s : State) (p : Nat) : State :=
  let s := [Fld.CN_CNT_RXFRAMES, .CN_CNT_ERRFRAMES, .CN_CNT_TEC, .CN_CNT_BUSOFFS].foldl
    (fun (s : State) x => s.setF x 0 p) (s.clearTests p)
  let s := s.onPorts fun q => { q with canRx := q.canRx.erase (p - 10), canStopped := removeNum (p - 10) q.canStopped }
  (s.limiterReset p).loseInst (canInst p)

/-- A port reset of a sensor loop (R359, R377, R380). -/
def State.loopReset (s : State) (p : Nat) : State :=
  let s := [Fld.SL_CNT_DATAFRAMES, .SL_CNT_NOANSWER, .SL_CNT_CRCERR, .SL_CNT_DROPS].foldl
    (fun (s : State) x => s.setF x 0 p) (s.clearTests p)
  (s.onPorts fun q => { q with loops := q.loops.erase (p - 12) }).limiterReset p

/-- A port reset (R359). -/
def State.resetPort (s : State) (p unsent : Nat) : State :=
  if p < 8 then s.laneReset p unsent
  else if p = hostPort then s.hostReset
  else if p = archPort then (s.archiveAbandon.clearTests p).archivePortReset
  else if p < 12 then s.canReset p
  else s.loopReset p

/-- PORT_RESET: P_CTRL.PRESET is written 1 (R359). -/
def execPortReset (p : Port) (unsent : Nat) (s : State) : Res := .next (s.resetPort p.val unsent)

/-! ## NMT -/

/-- NMT Stop stops a CAN port's PDOs and SDO server (R357). -/
def State.nmtStop (s : State) (c : Nat) : State :=
  s.onPorts fun q => { q with canStopped := c :: removeNum c q.canStopped }

/-- NMT Start and Enter Pre-operational start them again (CiA 1301). -/
def State.nmtStart (s : State) (c : Nat) : State := s.onPorts fun q => { q with canStopped := removeNum c q.canStopped }

/-- NMT_STOP (R357). -/
def execNmtStop (c : CanPort) (s : State) : Res := .next (if s.fieldUp (canPort c) then s.nmtStop c.val else s)

/-- NMT_RESET_COMMUNICATION: a port reset of that CAN port (R357). -/
def execNmtResetCommunication (c : CanPort) (s : State) : Res :=
  .next (if s.fieldUp (canPort c) then s.canReset (canPort c) else s)

/-- NMT_RESET_NODE: a port reset of that CAN port (R357). -/
def execNmtResetNode (c : CanPort) (s : State) : Res :=
  .next (if s.fieldUp (canPort c) then s.canReset (canPort c) else s)

/-- A CAN port's node ID (R374). -/
def State.nodeId (s : State) (c : Nat) : Nat :=
  let n := s.f .CN_CFG_NODEID (10 + c)
  if n = 0 then 127 else n

/-- An NMT message for this node: CiA 1301's command specifiers (R357, R373). -/
def State.nmt (s : State) (c command node : Nat) : State :=
  if node != 0 && node != s.nodeId c then s
  else match command with
    | 1 => s.nmtStart c
    | 2 => s.nmtStop c
    | 0x80 => s.nmtStart c
    | 0x81 => s.canReset (10 + c)
    | 0x82 => s.canReset (10 + c)
    | _ => s

/-- The state a heartbeat carries (R357). -/
def State.nmtState (s : State) : Nat := if s.hamperReady then 5 else 0x7F

/-- The producer heartbeat time, 0x1017, is 0, which disables the heartbeat (R350). -/
def State.heartbeatOff (s : State) : Bool := leNat (s.dict.vals.get (leBytes 2 1000) (0x1017, 0)) = 0

/-- HEARTBEAT: on each CAN port that runs, and on the mailbox, at the period of 0x1017 (R357, R367). -/
def execHeartbeat (s : State) : Res :=
  .next (
    if !s.dict.loaded || s.heartbeatOff then s
    else
      let s := if s.fieldUp 10 then s.emit (.canHeartbeat 0 s.nmtState) else s
      let s := if s.fieldUp 11 then s.emit (.canHeartbeat 1 s.nmtState) else s
      if s.fb .P_CTRL_ENABLE hostPort then s.mailNote (mgmtBytes 0x91 0 0 0 0 0 0 (leBytes 1 s.nmtState)) else s)

end Sys2Proof.Machine
end

