-- ==== Sys2Proof/Machine/GuardCmd.lean ====
section
/-! DEFINITION. Updates of the Fabric Guard (R329-R334): staging, hold, drain, commit, epoch, quiet. -/

namespace Sys2Proof.Machine

/-- Changes the Guard. -/
def State.onGuard (s : State) (g : GuardS → GuardS) : State := { s with guard := g s.guard }

/-- First and last page of general DRAM, as address bits [39:12] (R17). -/
def dramFirst : Nat := 0x100000
def dramLast : Nat := 0x2EFBFF

/-- The fixed slots' ranges, first and last byte; slot 41's lies in key path space (R17, R18, R20, R317, R318). -/
def fixedRange (i : Nat) : Nat × Nat :=
  if i = 0 then (0, 0x1FFFF)
  else if i = 1 then (0x10000000, 0x107FFFFF)
  else if i = 2 then (0x10800000, 0x10FFFFFF)
  else if i = 3 then (0x11000000, 0x1103FFFF)
  else if i ≤ 19 then (0x20000000 + (i - 4) * 0x100000, 0x20000000 + (i - 4) * 0x100000 + 0x7FFFF)
  else if i = 20 then (0x30000000, 0x3FFFFFFF)
  else if i = 21 then (0x40000000, 0x4000FFFF)
  else if i = 22 then (0x40010000, 0x400FFFFF)
  else if i = 26 then (0x40400000, 0x40407FFF)
  else if i ≤ 36 then (0x40000000 + (i - 22) * 0x100000, 0x40000000 + (i - 22) * 0x100000 + 0xFFFFF)
  else if i = 37 then (0x2EFC00000, 0x2EFFFFFFF)
  else if i = 38 then (0x2F0000000, 0x2F3FFFFFF)
  else if i = 39 then (0x2F4000000, 0x2FBFFFFFF)
  else if i = 40 then (0x2FC000000, 0x2FFFFFFFF)
  else if i = 41 then (0, 0x3FFFFF)
  else (0, 0)

/-- The range of a partition given by EN, BASE and LIMIT; none where it covers nothing. -/
def partRange (en : Bool) (base limit : Nat) : List (Nat × Nat) :=
  if en && decide (base ≤ limit) then [(4096 * base, 4096 * limit + 4095)] else []

/-- The live range of partition slot `i`. -/
def State.liveRange (s : State) (i : Nat) : List (Nat × Nat) :=
  partRange (s.fb .FG_LBASE_EN i) (s.f .FG_LBASE_BASE i) (s.f .FG_LLIMIT_LIMIT i)

/-- The staged range of partition slot `i`. -/
def State.stagedRange (s : State) (i : Nat) : List (Nat × Nat) :=
  partRange (s.fb .FG_BASE_EN i) (s.f .FG_BASE_BASE i) (s.f .FG_LIMIT_LIMIT i)

/-- The pairs of staged and live slot registers. -/
def slotFields : List (Fld × Fld) :=
  [(.FG_RALLOW_ALLOW, .FG_LRALLOW_ALLOW), (.FG_WALLOW_ALLOW, .FG_LWALLOW_ALLOW), (.FG_BASE_EN, .FG_LBASE_EN),
   (.FG_BASE_BASE, .FG_LBASE_BASE), (.FG_LIMIT_LIMIT, .FG_LLIMIT_LIMIT)]

/-- The slots of R317. -/
def guardSlots : List Nat := numsFrom 0 50

/-- A slot whose staged registers differ from its live ones. -/
def State.slotDiffers (s : State) (i : Nat) : Bool := slotFields.any fun p => s.f p.1 i != s.f p.2 i

/-- NRANGE in effect: values above 16 act as 16 (R333). -/
def State.nrange (s : State) : Nat := min (s.f .FG_UPD_NRANGE) 16

/-- The staged page colour ranges to apply: first page, count, colour. -/
def State.stagedPages (s : State) : List (Nat × Nat × Nat) :=
  (numsFrom 0 s.nrange).map fun r => (s.f .FG_PCRANGE_FIRST r, s.f .FG_PCRANGE_COUNT r, s.f .FG_PCRANGE_COLOUR r)

/-- A range with another taken out. -/
def cutRange (x : Nat × Nat) (r : Nat × Nat) : List (Nat × Nat) :=
  if x.2 < r.1 || r.2 < x.1 then [r]
  else (if r.1 < x.1 then [(r.1, x.1 - 1)] else []) ++ (if x.2 < r.2 then [(x.2 + 1, r.2)] else [])

/-- General DRAM that no live slot covers. -/
def State.uncovered (s : State) : List (Nat × Nat) :=
  ((numsFrom 42 8).flatMap s.liveRange).foldl (fun l x => l.flatMap (cutRange x)) [(0x100000000, 0x2EFBFFFFF)]

/-- The held set (R329 step 2). -/
def State.heldSet (s : State) : List (Nat × Nat) :=
  let slots := (guardSlots.filter s.slotDiffers).flatMap fun i =>
    if i ≤ 40 then [fixedRange i] else if i = 41 then [] else s.liveRange i ++ s.stagedRange i
  let pages := s.stagedPages.map fun p => (0x100000000 + 4096 * p.1, 0x100000000 + 4096 * (p.1 + p.2.1) - 1)
  let mode := if s.f .FG_CTRL_NEXTMODE != s.f .FG_CTRL_MODE then s.uncovered else []
  if s.guard.modeOnly then mode else slots ++ pages ++ mode

/-- A staged copy that cannot be committed (R319, R330). -/
def State.badUpdate (s : State) : Bool :=
  ((numsFrom 42 8).any fun i => s.fb .FG_BASE_EN i &&
    (decide (s.f .FG_BASE_BASE i < dramFirst) || decide (dramLast < s.f .FG_LIMIT_LIMIT i) ||
     decide (dramLast < s.f .FG_BASE_BASE i) || decide (s.f .FG_LIMIT_LIMIT i < dramFirst))) ||
  s.stagedPages.any fun p => p.2.1 = 0 || decide (2030591 < p.1 + p.2.1 - 1)

/-- Enabled live partitions overlap (R330, R333). -/
def State.partsOverlap (s : State) : Bool :=
  (numsFrom 42 8).any fun i => (numsFrom 42 8).any fun j => decide (i < j) &&
    (s.liveRange i).any fun r => (s.liveRange j).any fun q => decide (r.1 ≤ q.2) && decide (q.1 ≤ r.2)

/-- One slot's staged registers become live. -/
def State.commitSlot (s : State) (i : Nat) : State := slotFields.foldl (fun s p => s.setF p.2 (s.f p.1 i) i) s

/-- The rules in force, to be put back where an update is aborted after its commit (R330). -/
def State.rulesNow (s : State) : List (Fld × Nat × Nat) :=
  (.FG_CTRL_MODE, 0, s.f .FG_CTRL_MODE) :: (.FG_STAT_OVLP, 0, s.f .FG_STAT_OVLP) ::
    guardSlots.flatMap fun i => slotFields.map fun p => (p.2, i, s.f p.2 i)

/-- The commit: slots, mode, page colours (R329 step 5). -/
def State.commitUpdate (s : State) : State :=
  let pages := if s.guard.modeOnly then [] else s.stagedPages
  let old := s.rulesNow
  let s := s.onGuard fun g => { g with undo := old, oldPages := g.pages }
  let s := if s.guard.modeOnly then s else guardSlots.foldl State.commitSlot s
  let s := s.setF .FG_CTRL_MODE (s.f .FG_CTRL_NEXTMODE)
  let s := s.onGuard fun g => { g with pages := pages.reverse ++ g.pages, committed := true }
  s.setF .FG_STAT_OVLP (b2n s.partsOverlap)

/-- The commit is made once DRAINED and COMMIT are both 1. -/
def State.tryCommit (s : State) : State :=
  if s.fb .FG_STAT_DRAINED && s.fb .FG_UPD_COMMIT && !s.guard.committed then s.commitUpdate else s

/-- A write of FG_UPD.HOLD: the update is refused, or the held set is fixed and held (R329, R330). -/
def State.holdUpdate (s : State) : State :=
  if s.fb .FG_UPD_HOLD then s
  else if s.badUpdate then s.setF .FG_STAT_CFGERR 1
  else
    let l := s.heldSet
    (((s.setF .FG_UPD_HOLD 1).setF .FG_STAT_HOLDING 1).setF .FG_STAT_DRAINED 0).onGuard fun g => { g with held := some l }

/-- A write of FG_UPD.COMMIT (R329). -/
def State.askCommit (s : State) : State := (s.setF .FG_UPD_COMMIT 1).tryCommit

/-- The dictionary write that an update answers ends (R354). -/
def State.answerApply (s : State) (ok : Bool) : State :=
  match s.guard.applying with
  | none => s
  | some v =>
    let s := s.onGuard fun g => { g with applying := none }
    if ok then s.writeOk v else s.abortWrite v 0x0800010C

/-- An update that carries a mode alone, once none holds (R354). -/
def State.modeUpdate (s : State) (mode : Nat) : State :=
  if s.fb .FG_UPD_HOLD then s.onGuard fun g => { g with modeDue := some mode }
  else
    let s := (s.setF .FG_CTRL_NEXTMODE mode).onGuard fun g => { g with modeOnly := true, modeDue := none }
    let l := s.heldSet
    let s := ((s.setF .FG_UPD_HOLD 1).setF .FG_STAT_HOLDING 1).setF .FG_STAT_DRAINED 0
    (s.onGuard fun g => { g with held := some l }).askCommit

/-- A commit whose epoch has not come is taken back: nothing changes (R330; log entry 29). -/
def State.takeBack (s : State) : State :=
  if s.guard.committed then
    (s.guard.undo.foldl (fun s x => s.setF x.1 x.2.2 x.2.1) s).onGuard fun g =>
      { g with pages := g.oldPages, committed := false, undo := [], oldPages := [] }
  else s

/-- The update is over: the next mode that waits for one is applied, and held requests go on (R329, R354). -/
def State.updateEnds (s : State) : State :=
  (match s.guard.modeDue with
    | some m => s.modeUpdate m
    | none => s).serveHost

/-- A write of FG_UPD.ABORT before the epoch (R330). -/
def State.abortUpdate (s : State) : State :=
  let s := (s.takeBack.answerApply false).onGuard fun g => { g with modeOnly := false }
  let s := guardSlots.foldl (fun s i => slotFields.foldl (fun s p => s.setF p.1 (s.f p.2 i) i) s) s
  let s := s.setF .FG_CTRL_NEXTMODE (s.f .FG_CTRL_MODE)
  let s := ((s.setF .FG_UPD_NRANGE 0).setF .FG_UPD_HOLD 0).setF .FG_UPD_COMMIT 0
  let s := ((s.setF .FG_STAT_HOLDING 0).setF .FG_STAT_DRAINED 0).onGuard fun g => { g with held := none }
  s.updateEnds

/-- A write of FG_UPD: NRANGE while nothing is held, then its actions; ABORT first. -/
def State.writeUpd (s : State) (v : Nat) : State :=
  if bitOf v 2 then s.abortUpdate
  else
    let s := if s.fb .FG_UPD_HOLD then s else s.setF .FG_UPD_NRANGE (bitsOf v 8 5)
    let s := if bitOf v 0 then s.holdUpdate else s
    if bitOf v 1 && (s.fb .FG_UPD_HOLD || !bitOf v 0) then s.askCommit else s

/-- FG_HOLD: HOLD, NRANGE and, in the same write, COMMIT (R329, R332). -/
def execFgHold (m : Master) (commit : Bool) (nrange : BitVec 5) (s : State) : Res :=
  .next (s.present m 0x40600010 fun s =>
    if Master.isSteward m then s.writeUpd (1 + 2 * b2n commit + 256 * nrange.toNat) else s)

/-- FG_COMMIT (R329). -/
def execFgCommit (m : Master) (s : State) : Res :=
  .next (s.present m 0x40600010 fun s => if Master.isSteward m then s.askCommit else s)

/-- FG_ABORT (R330). -/
def execFgAbort (m : Master) (s : State) : Res :=
  .next (s.present m 0x40600010 fun s => if Master.isSteward m then s.abortUpdate else s)

/-- A store buffer entry of the held set. -/
def State.entHeld (s : State) : StoreEnt → Bool
  | .data g _ => s.touchesHeld (16 * g) 16
  | .capab g _ => s.touchesHeld (16 * g) 16

/-- FG_DRAINED: every access admitted to the held set before the hold has completed, store buffer entries
included; the commit follows if it is requested (R329 steps 4 and 5). -/
def execFgDrained (s : State) : Res :=
  .next (
    if !s.fb .FG_STAT_HOLDING || s.fb .FG_STAT_DRAINED then s
    else if s.cores.entries.any fun e => e.2.store.any s.entHeld then s
    else (s.setF .FG_STAT_DRAINED 1).tryCommit)

/-- FG_EPOCH: the epoch of a committed update; the hold is released (R329 step 6). -/
def execFgEpoch (s : State) : Res :=
  .next (
    if !s.guard.committed then s
    else
      let w := (numsFrom 0 8).filter fun e => (s.engine e).running.isSome
      let s := ((s.bump .FG_EPOCH_EPOCHS).setF .FG_UPD_HOLD 0).setF .FG_UPD_COMMIT 0
      let s := ((s.setF .FG_STAT_HOLDING 0).setF .FG_STAT_DRAINED 0).setF .FG_STAT_QUIET (b2n w.isEmpty)
      let s := s.onGuard fun g =>
        { g with held := none, committed := false, modeOnly := false, before := w, undo := [], oldPages := [] }
      (s.answerApply true).updateEnds)

/-- FG_QUIET: every Seal job checked before the epoch has completed (R329 step 7). -/
def execFgQuiet (s : State) : Res :=
  .next (if s.guard.before.isEmpty then s.setF .FG_STAT_QUIET 1 else s)

end Sys2Proof.Machine
end

