-- ==== Sys2Proof/Machine/Watch.lean ====
section
/-! DEFINITION. The Watch Engine (R132-R144): the table, lookups, lists, the switch and the restore. -/

namespace Sys2Proof.Machine

/-- Changes the Watch Engine. -/
def State.onWatch (s : State) (g : WatchS → WatchS) : State := { s with watch := g s.watch }

/-! ## Ranges of memory -/

/-- The cells of a range of addresses. -/
def cellsIn (a n : Nat) (m : List Host.Cell) : List Host.Cell := m.filter fun c => a ≤ c.1 && c.1 < a + n

/-- A range filled with what an unlisted address reads as, and with the cells given, which lie in it. -/
def fillRange (a n : Nat) (l m : List Host.Cell) : List Host.Cell :=
  (m.filter fun c => c.1 < a) ++ l ++ (m.filter fun c => a + n ≤ c.1)

/-- Clears the tags of the granules of a range (R162). -/
def State.clearTags (s : State) (a n : Nat) : State :=
  { s with tags := s.tags.filter fun g => !(a ≤ 16 * g + 15 && 16 * g < a + n) }

/-- Writes zero to a range. -/
def State.clearRange (s : State) (a n : Nat) : State :=
  { s with mem := fillRange a n [] s.mem }.clearTags a n

/-- Copies `n` bytes from one range to another that does not overlap it. -/
def State.copyRange (s : State) (src dst n : Nat) : State :=
  { s with mem := fillRange dst n ((cellsIn src n s.mem).map fun (c : Host.Cell) => (c.1 - src + dst, c.2)) s.mem }.clearTags dst n

/-! ## The table -/

/-- The home copy's base (R17). -/
def watchHome : Nat := 0x2F0000000
/-- A copy's size: 1,048,576 buckets of 64 bytes (R133). -/
def watchSize : Nat := 67108864

/-- The first byte of a bucket of the copy being read. -/
def bucketAddr (base b : Nat) : Nat := base + 64 * b

/-- The base of the home or the shadow copy (R156). -/
def State.watchBase (s : State) (shadow : Bool) : Nat := if shadow then s.f .WT_SHADOW_BASE * 2 ^ 26 else watchHome

/-- The candidate buckets of a key under a salt (R133). -/
def buckets (salt : BitVec 128) (key : Bytes) : Nat × Nat :=
  let h := (siphash salt key).toNat
  let b0 := bitsOf h 0 20
  let b1 := bitsOf h 20 20
  (b0, if b1 = b0 then b0 ^^^ 1 else b1)

/-- KEY of an entry (R132). -/
def entryKey (e : Bytes) : Bytes := e.take 16

/-- VALID of an entry (R132). -/
def entryValid (e : Bytes) : Bool := bitOf (fieldAt e 17 1) 0

/-- The address of place `p` (0 or 1) of a bucket of a copy. -/
def placeAddr (base b p : Nat) : Nat := base + 64 * b + 32 * p

/-- The entry at a place. -/
def State.place (s : State) (base b p : Nat) : Bytes := s.bytes (placeAddr base b p) 32

/-- Entries that hold a key. -/
def holdsKey (key : Bytes) (e : Bytes) : Bool := entryValid e && entryKey e = key

/-- The entry of a bucket that holds a key. -/
def State.bucketFind (s : State) (base b : Nat) (key : Bytes) : Option Bytes :=
  [s.place base b 0, s.place base b 1].find? (holdsKey key)

/-! ## Lookups -/

/-- The watch queue, its depth and the places kept for the Steward (R131). -/
def watchQueue : Nat := 1010
def watchDepth : Nat := 1024
def watchTaskDepth : Nat := 992

/-- The descriptor keeps R134's form, and its key is not zero. -/
def lookupForm (e : QEnt) : Bool :=
  let h := e.hdr
  h.ver = 1 && h.kind = 1 && h.code = 1 && h.paylen = 16 && h.flags = 0 && h.lseq = 0 && h.lack = 0 &&
  h.sack = 0 && h.meter = 0 && h.handle = 0 && !(e.payload.take 16).all (· = 0)

/-- The group of an entry in the order of R46. -/
def State.entGroup (s : State) (e : QEnt) : Nat :=
  match e.by_ with
  | .task t _ => if (s.task t).isBulk then 2 else 1
  | _ => 0

/-- An entry of a task, which the engine's meter charges. -/
def QEnt.isTask (e : QEnt) : Bool := e.taskOf.isSome

/-- The next lookup in the order of R46, a task's only while the meter admits it. -/
def State.nextLookup (s : State) : Option (QEnt × List QEnt) :=
  let q := (s.queue watchQueue).ents
  let pick (n : Nat) := takeFirst (fun e => s.entGroup e = n && (!e.isTask || s.admits (.eng 8))) q
  (pick 0).or ((pick 1).or (pick 2))

/-- Lookups in progress at a time (R136). -/
def lookupLimit : Nat := 32

/-- A table is loaded and lookups are taken (R135). -/
def State.watchLoaded (s : State) : Bool := s.fb .WT_CTRL_ENABLE && s.fb .WT_CTRL_LOADED

/-- The Guard's verdict on the engine's read of a bucket of the copy being read (R14). -/
def State.bucketVerdict (s : State) (b : Nat) : Verdict :=
  s.verdict watchAgent false (bucketAddr (s.watchBase (s.fb .WT_STAT_ACTIVE)) b) 64

/-- The Guard's note of that read. -/
def State.noteBucket (s : State) (b : Nat) : State :=
  s.guardNote watchAgent false false (bucketAddr (s.watchBase (s.fb .WT_STAT_ACTIVE)) b) 64

/-- The candidate buckets of a lookup's key under the active salt. -/
def State.lookupBuckets (s : State) (e : QEnt) : Nat × Nat := buckets s.watch.active.salt (e.payload.take 16)

/-- Starts a lookup: the two buckets of the copy being read and the stash of the active bank (R134, R141). A read that
the Guard refuses counts as an uncorrectable error (R326). -/
def State.startLookup (s : State) (e : QEnt) : Lookup :=
  let key := e.payload.take 16
  let shadow := s.fb .WT_STAT_ACTIVE
  let base := s.watchBase shadow
  let b := s.lookupBuckets e
  let damaged := if shadow then s.watch.badShadow else s.watch.badHome
  let bad (n : Nat) : Bool := damaged.contains n || s.bucketVerdict n != .allow
  let read (n : Nat) := if bad n then none else s.bucketFind base n key
  { ent := e, tableSeq := s.f .WT_SEQ_TABLESEQ, loaded := s.watchLoaded,
    found := (read b.1).or ((read b.2).or (s.watch.active.stash.find? (holdsKey key))),
    ecc := bad b.1 || bad b.2 }

/-- An update of the Guard holds a read of the lookup, which waits (R329 step 3). -/
def State.lookupHeld (s : State) (e : QEnt) : Bool :=
  s.bucketVerdict (s.lookupBuckets e).1 = .hold || s.bucketVerdict (s.lookupBuckets e).2 = .hold

/-- WATCH_LOOKUP_TAKE: the engine takes the next lookup (R134, R46). -/
def execWatchLookupTake (s : State) : Res :=
  .next (
    if s.enginesOff || decide (lookupLimit ≤ s.watch.lookups.length) then s
    else match s.nextLookup with
      | none => if (s.queue watchQueue).ents.isEmpty then s else s.noteHeld (.eng 8)
      | some (e, r) =>
        if s.lookupHeld e then s else
        let l := s.startLookup e
        let b := s.lookupBuckets e
        let s := (s.noteBucket b.1).noteBucket b.2
        let s := s.setQueue watchQueue { s.queue watchQueue with ents := r }
        let s := if e.isTask then s.charge (.eng 8) 1 else s
        s.onWatch fun w => { w with lookups := w.lookups ++ [l] })

/-- Minutes since 2020-01-01 00:00:00 TAI of a TAI time in ns counted from 1970-01-01 (R132, R135, log
entry 20). -/
def taiMinutes (ns : Nat) : Nat := ns / 60000000000 - 26297280

/-- The status of a lookup (R135). -/
def State.lookupStatus (s : State) (l : Lookup) : Nat :=
  if !l.loaded then 5
  else if !lookupForm l.ent then 14
  else match l.found with
    | none => if l.ecc then 13 else 2
    | some e =>
      if !s.timeValid then 4
      else if fieldAt e 20 4 ≤ taiMinutes s.tick.tai &&
          (fieldAt e 24 4 = 0xFFFFFFFF || taiMinutes s.tick.tai < fieldAt e 24 4) then 1
      else 3

/-- The counters of a lookup (R156). -/
def State.countLookup (s : State) (status : Nat) : State :=
  let s := s.bump .WT_CNTLK_LOOKUPS
  if status = 2 then s.bump .WT_CNTRES_MISSES
  else if status = 3 || status = 4 then s.bump .WT_CNTRES_OUTSIDE
  else if status = 13 then s.bump .WT_CNTRES_ECCERRS
  else s

/-- WATCH_LOOKUP_COMPLETE: the oldest lookup's completion is posted (R135). -/
def execWatchLookupComplete (s : State) : Res :=
  .next (match s.watch.lookups with
    | [] => s
    | l :: r =>
      let h := l.ent.hdr
      let c := s.lookupStatus l
      let pay := if c = 1 || c = 3 || c = 4 then l.found.getD (zeros 32) else zeros 32
      let s := s.onWatch fun w => { w with lookups := r }
      let s := if l.ecc && l.loaded && lookupForm l.ent then s.setF .WT_STAT_ECCERR 1 else s
      (s.countLookup c).postCompletion h.replyq.toNat
        { blankHdr 2 with session := h.session, epoch := h.epoch, reqid := h.reqid, code := BitVec.ofNat 8 c,
                          paylen := 32, handle := BitVec.ofNat 64 l.tableSeq } pay)

/-- WATCH_BUCKET_REPAIR: a damaged bucket is rewritten from the other copy; damaged in both, the EMCY is
raised (R144). -/
def execWatchBucketRepair (bucket : Nat) (s : State) : Res :=
  .next (
    let h := s.watch.badHome.contains bucket
    let d := s.watch.badShadow.contains bucket
    let a := s.watchBase false + 64 * bucket
    let b := s.watchBase true + 64 * bucket
    if h && d then s.emcy 0xFF03 bucket
    else if !h && !d then s
    else if !(s.stewardAdmits (!h) b 64 && s.stewardAdmits h a 64) then (s.stewardNote (!h) b 64).stewardNote h a 64
    else if h then (s.putBytes a (s.bytes b 64)).onWatch fun w => { w with badHome := removeNum bucket w.badHome }
    else (s.putBytes b (s.bytes a 64)).onWatch fun w => { w with badShadow := removeNum bucket w.badShadow })

/-! ## Applying a list -/

/-- Puts an entry into a place of the shadow copy. -/
def State.putPlace (s : State) (b p : Nat) (e : Bytes) : State := s.putBytes (placeAddr (s.watchBase true) b p) e

/-- An empty place of a bucket of the shadow copy, or the place that holds the key. -/
def State.openPlace (s : State) (b : Nat) (key : Bytes) : Option Nat :=
  let f (p : Nat) := let e := s.place (s.watchBase true) b p
                     !entryValid e || entryKey e = key
  if f 0 then some 0 else if f 1 then some 1 else none

/-- Removes a key from the shadow copy and the next stash. -/
def State.dropKey (s : State) (salt : BitVec 128) (key : Bytes) : State :=
  let b := buckets salt key
  let f (s : State) (bp : Nat × Nat) : State :=
    if holdsKey key (s.place (s.watchBase true) bp.1 bp.2) then s.putPlace bp.1 bp.2 (zeros 32) else s
  let s := [(b.1, 0), (b.1, 1), (b.2, 0), (b.2, 1)].foldl f s
  s.onWatch fun w => { w with next := { w.next with stash := w.next.stash.filter fun e => !holdsKey key e } }

/-- Inserts an entry, moving others between their candidate buckets at most `n` times, and then into the
stash; none where the stash is full (R139, log entry 24). `b` is the bucket to try first. -/
def State.insertEntry (s : State) (salt : BitVec 128) (b : Nat) (e : Bytes) : Nat → Option State
  | 0 => if s.watch.next.stash.length < 8 then
      some (s.onWatch fun w => { w with next := { w.next with stash := w.next.stash ++ [e] } })
    else none
  | n + 1 =>
    let c := buckets salt (entryKey e)
    let other := if b = c.1 then c.2 else c.1
    match s.openPlace b (entryKey e), s.openPlace other (entryKey e) with
    | some p, _ => some (s.putPlace b p e)
    | none, some p => some (s.putPlace other p e)
    | none, none =>
      let p := b2n (Config.cuckooPlace (entryKey e) n)
      let v := s.place (s.watchBase true) b p
      let cv := buckets salt (entryKey v)
      (s.putPlace b p e).insertEntry salt (if b = cv.1 then cv.2 else cv.1) v n

/-- The moves of an insertion (R139). -/
def moveLimit : Nat := 500

/-- Inserts or replaces an entry by its key: where it stands already, it is overwritten. -/
def State.insertKey (s : State) (salt : BitVec 128) (e : Bytes) : Option State :=
  (s.dropKey salt (entryKey e)).insertEntry salt (buckets salt (entryKey e)).1 e moveLimit

/-- Inserts entries in order. -/
def State.insertAll (s : State) (salt : BitVec 128) : List Bytes → Option State
  | [] => some s
  | e :: l => match s.insertKey salt e with
    | none => none
    | some t => t.insertAll salt l

/-- The entries a copy holds. -/
def State.tableEntries (s : State) (shadow : Bool) : List Bytes :=
  let base := s.watchBase shadow
  let places := ((cellsIn base watchSize s.mem).map fun c => (c.1 - base) / 32).eraseDups
  (places.map fun p => s.bytes (base + 32 * p) 32).filter entryValid

/-- The shadow copy emptied under a new salt drawn from the entropy source (R139). -/
def State.freshShadow (s : State) : State :=
  let (r, s) := s.draw
  let s := s.clearRange (s.watchBase true) watchSize
  s.onWatch fun w => { w with next := { salt := (Config.draw r).setWidth 128, stash := [] }, badShadow := [] }

/-- The shadow restored to match the home copy, and the next bank to the active one (R139; log entry 130). -/
def State.restoreShadow (s : State) : State :=
  (s.copyRange (s.watchBase false) (s.watchBase true) watchSize).onWatch fun w =>
    { w with next := w.active, badShadow := w.badHome }

/-- The shadow rebuilt under up to `n` successive salts (R139); else the abort code and the state then, the shadow
restored: no salt can be drawn while the entropy source fails (R155, R463). -/
def State.rebuildShadow (s : State) (l : List Bytes) : Nat → Except (Nat × State) State
  | 0 => .error (0x08000117, s.restoreShadow)
  | n + 1 =>
    if s.seals.entFail then .error (0x08000000, s.restoreShadow)
    else
      let t := s.freshShadow
      match t.insertAll t.watch.next.salt l with
      | some u => .ok u
      | none => t.rebuildShadow l n

/-- The entries up to which a list always applies (R139). -/
def sureEntries : Nat := 1782579

/-- The salts a rebuild of `n` entries tries: 4 in succession, and without end, here 2^64, where the list always applies
(R139; log entry 130). -/
def rebuildSalts (n : Nat) : Nat := if n ≤ sureEntries then 2 ^ 64 else 4

/-- An item of a list as an entry (R132, R137): LISTSEQ is the list's DELTASEQ. -/
def itemEntry (seq : Nat) (i : Bytes) : Bytes := i.take 28 ++ leBytes 4 seq

/-- The items of a list (R137). -/
def listItems (b : Bytes) : Nat → List Bytes
  | 0 => []
  | n + 1 => b.take 32 :: listItems (b.drop 32) n

/-- The table a list leaves, as entries: a full list's inserts, or the old entries with the delta applied. -/
def listResult (old : List Bytes) (seq : Nat) (full : Bool) (items : List Bytes) : List Bytes :=
  let ins := (items.filter entryValid).map (itemEntry seq)
  if full then ins
  else (old.filter fun e => !items.any fun i => entryKey i = entryKey e) ++ ins

/-- The active version's entries: the copy being read and its stash. -/
def State.activeEntries (s : State) : List Bytes :=
  s.tableEntries (s.fb .WT_STAT_ACTIVE) ++ s.watch.active.stash.filter entryValid

/-- The list applied into the shadow copy (R139): a delta on the home copy's content and the active bank,
a full list on an empty shadow; a rebuild where the stash fills. -/
def State.applyList (s : State) (seq : Nat) (full : Bool) (items : List Bytes) : Except (Nat × State) State :=
  let result := listResult s.activeEntries seq full items
  let salts := rebuildSalts result.length
  if full then s.rebuildShadow result (salts + 1)
  else
    let s1 := s.copyRange (s.watchBase false) (s.watchBase true) watchSize
    let s1 := s1.onWatch fun w => { w with next := w.active, badShadow := w.badHome }
    let salt := s1.watch.next.salt
    let s2 := (items.filter fun i => !entryValid i).foldl (fun (s : State) i => s.dropKey salt (entryKey i)) s1
    match s2.insertAll salt ((items.filter entryValid).map (itemEntry seq)) with
    | some t => .ok t
    | none => s1.rebuildShadow result salts

/-! ## Checking a list -/

/-- A removal has every field but KEY zero (R137). -/
def removalOk (i : Bytes) : Bool := entryValid i || (i.drop 16).all (· = 0)

/-- An item's reserved bits are zero (R132, R137). -/
def itemOk (i : Bytes) : Bool := removalOk i && fieldAt i 17 1 < 16

/-- No key appears twice. -/
def distinctKeys : List Bytes → Bool
  | [] => true
  | k :: l => !l.contains k && distinctKeys l

/-- The form of a list (R137, R138 check 2). -/
def listForm (b : Bytes) : Bool :=
  let n := fieldAt b 20 4
  b.take 8 = ascii "PORTUMWL" && fieldAt b 8 1 = 1 && fieldAt b 9 1 ≤ 1 && fieldAt b 10 2 = 0 &&
  (fieldAt b 9 1 = 0 || fieldAt b 16 4 = 0) && 1 ≤ n && n ≤ 2097152 && (sliceAt b 24 40).all (· = 0) &&
  b.length = 64 + 32 * n + 3373 && (listItems (b.drop 64) n).all itemOk

/-- The list's whole length disagrees with the one its COUNT declares (R347 row 7). -/
def listLengthBad (b : Bytes) : Bool := 64 ≤ b.length && b.length != 64 + 32 * fieldAt b 20 4 + 3373

/-- A list has been switched and its restore is under way (R142, R347 row 9). -/
def State.restoring (s : State) : Bool :=
  match s.watch.list with
  | some (.switched _) | some .restoring => true
  | _ => false

/-- The checks of R138, in order: the abort code of the first that fails. -/
def State.checkList (s : State) (r : RoleSess) (b : Bytes) : Except Nat Unit :=
  let n := fieldAt b 20 4
  let items := listItems (b.drop 64) n
  let msg := b.take (64 + 32 * n)
  let full := fieldAt b 9 1 = 1
  if s.watch.list.isSome then .error (if s.restoring then 0x08000109 else 0x08000111)
  else if listLengthBad b then .error 0x06070010
  else if !listForm b then .error 0x08000112
  else match s.verify2 r.edPub r.mlPub msg (sliceAt b (64 + 32 * n) 64) (sliceAt b (128 + 32 * n) 3309)
      (ascii "JV7128-WL") with
    | .error c => .error (if c = 0x08000103 then 0x08000113 else c)
    | .ok _ =>
      if fieldAt b 12 4 ≤ s.watch.highMark then .error 0x08000114
      else if !full && (fieldAt b 16 4 != s.f .WT_SEQ_TABLESEQ || !s.fb .WT_CTRL_LOADED) then .error 0x08000115
      else if items.any (fun i => (entryKey i).all (· = 0)) || !distinctKeys (items.map entryKey) ||
          items.any (fun i => !entryValid i && (full || !s.activeEntries.any fun e => entryKey e = entryKey i)) then
        .error 0x08000116
      else if 2097152 < (listResult s.activeEntries (fieldAt b 12 4) full items).length then .error 0x08000117
      else .ok ()

/-- The Watch delta record of the list that is applied (R140): SWITCHTICK two above the tick of submission
(log entry 21). -/
def State.submitDelta (s : State) (seq entries : Nat) (digest : BitVec 512) (full : Bool) (rolesess : BitVec 64)
    (v : Serves) : Except Nat State :=
  let at_ := s.tickNo + 2
  match s.submitDev (.watchDelta (BitVec.ofNat 32 seq) (BitVec.ofNat 32 entries) at_ digest rolesess) v with
  | .error c => .error c
  | .ok t => .ok (t.onWatch fun w => { w with list := some (.recordDue seq entries at_ digest full) })

/-- The Guard lets the Steward read the home copy, and read and write the shadow copy (R14, R19). -/
def State.watchOpen (s : State) : Bool :=
  s.stewardAdmits false (s.watchBase false) watchSize && s.stewardAdmits false (s.watchBase true) watchSize &&
    s.stewardAdmits true (s.watchBase true) watchSize

/-- A list that passes its checks is applied and its record submitted (R138-R140); else the abort code, and the state a
list that cannot be applied leaves. A shadow copy that the Guard keeps from the Steward ends the list with 0x0800_0000 (log
entry 110). -/
def State.takeList (s : State) (i : Inst) (b : Bytes) (v : Serves) : Except (Nat × State) State :=
  match s.admitWrite i (!Inst.isCan i) roleAuditor [lcCommissioned, lcService], s.roleOf i with
  | .error c, _ => .error (c, s)
  | .ok _, none => .error (0x08000101, s)
  | .ok _, some r =>
    match s.checkList r b with
    | .error c => .error (c, s)
    | .ok _ =>
      if !s.watchOpen then .error (0x08000000, s.stewardNote true (s.watchBase true) watchSize) else
      let n := fieldAt b 20 4
      let seq := fieldAt b 12 4
      let full := fieldAt b 9 1 = 1
      let items := listItems (b.drop 64) n
      match s.applyList seq full items with
      | .error x => .error x
      | .ok u =>
        let t := if full && (s.watch.badHome.any s.watch.badShadow.contains) then u.setF .WT_CTRL_LOADED 0 else u
        let t := (t.setF .WT_SEQ_NEXTSEQ seq).setF .WT_COUNT_NEXTCNT (listResult s.activeEntries seq full items).length
        match t.submitDelta seq n (sha512 b) full (BitVec.ofNat 64 r.id) v with
        | .error c => .error (c, u.restoreShadow)
        | .ok t => .ok t

/-! ## The switch and the restore -/

/-- A write of 1 to WT_PEND.ARM (R140, R156): refused where SWITCHTICK has started. -/
def State.armWatch (s : State) : State :=
  if s.fb .WT_PEND_ARM then s
  else if s.f .WT_PENDAT_ATTICK ≤ s.tickNo then s.setF .WT_STAT_PENDERR 1
  else s.setF .WT_PEND_ARM 1

/-- The Watch delta record of the list under way among the durable records, and the others. -/
def State.takeDelta (s : State) : Option ((DevRec × Serves) × List (DevRec × Serves)) :=
  takeFirst (fun x => match x.1 with
    | .watchDelta _ _ _ _ _ => true
    | _ => false) s.press.devDone

/-- The Steward arms the switch once the record is durable; where that came too late, the record is void
and a new one is submitted (R140). -/
def State.armList (s : State) : State :=
  match s.watch.list, s.takeDelta with
  | some (.recordDue seq n at_ digest full), some ((.watchDelta _ _ _ _ role, v), rest) =>
    let s := (s.onPress fun p => { p with devDone := rest }).setF .WT_PENDAT_ATTICK at_
    let s := s.armWatch
    if s.fb .WT_PEND_ARM then (s.onWatch fun w => { w with list := some (.armed seq full) }).writeOk v
    else match s.submitDelta seq n digest full role v with
      | .ok t => t
      | .error c => (s.onWatch fun w => { w with list := none }).abortWrite v c
  | _, _ => s.armWatch

/-- WT_PEND_ARM (R140, R156). -/
def execWtPendArm (m : Master) (s : State) : Res :=
  .next (s.present m 0x40300020 fun s => if Master.isSteward m then s.armList else s)

/-- A list whose record was aborted changes nothing (R106, R109, R138). -/
def State.dropFailedList (s : State) : State :=
  match takeFirst (fun x : DevRec × Serves => match x.1 with
      | .watchDelta _ _ _ _ _ => true
      | _ => false) s.press.devFailed with
  | some (_, rest) => (s.onPress fun p => { p with devFailed := rest }).onWatch fun w => { w with list := none }
  | none => s

/-- The switch at the boundary that starts SWITCHTICK, and the restore at the boundary after its request
(R141, R142). -/
def State.watchBoundary (s : State) : State :=
  let s := if s.fb .WT_PEND_RESTORE then
      ((s.setF .WT_STAT_ACTIVE 0).setF .WT_PEND_RESTORE 0).onWatch fun w => { w with list := none }
    else s
  if s.fb .WT_PEND_ARM && s.f .WT_PENDAT_ATTICK = s.tickNo then
    let full := match s.watch.list with
      | some (.armed _ b) => b
      | _ => false
    let n := s.f .WT_SEQ_NEXTSEQ
    let s := ((s.setF .WT_SEQ_TABLESEQ n).setF .WT_COUNT_COUNT (s.f .WT_COUNT_NEXTCNT)).setF .WT_STAT_ACTIVE 1
    let s := (s.setF .WT_PEND_ARM 0).setF .WT_CTRL_LOADED 1
    s.onWatch fun w => { w with active := w.next, highMark := max w.highMark n, list := some (.switched full) }
  else s

/-- A write of 1 to WT_PEND.RESTORE: the Steward has written the home copy (R142). -/
def State.askRestore (s : State) : State :=
  match s.watch.list with
  | some (.switched _) =>
    if !s.watchOpen then s.stewardNote false (s.watchBase true) watchSize else
    let s := s.copyRange (s.watchBase true) (s.watchBase false) watchSize
    let s := s.onWatch fun w => { w with badHome := w.badShadow, list := some .restoring }
    (if s.watch.badHome.isEmpty then s.emcyEnd 0xFF03 else s).setF .WT_PEND_RESTORE 1
  | _ => s.setF .WT_PEND_RESTORE 1

/-- WATCH_RESTORE_REQUEST (R142, R156). -/
def execWatchRestoreRequest (m : Master) (s : State) : Res :=
  .next (s.present m 0x40300020 fun s => if Master.isSteward m then s.askRestore else s)

end Sys2Proof.Machine
end

