-- ==== Sys2Proof/Machine/Views.lean ====
section
/-! DEFINITION. What control-space registers read (R7): the fields that show state kept elsewhere, the image
of a register, and the register at an address (R20). -/

namespace Sys2Proof.Machine

/-! ## Fields that show other state -/

/-- The bytes a port's DMA channel moves for a received frame (R44, R65). -/
def RxFrame.dmaBytes (x : RxFrame) : Nat :=
  match x.content with
  | .udp _ _ _ _ _ _ _ f => if f.hdr.kind != 3 then 32 + f.payload.length else 0
  | _ => 0

/-- Bytes of the BAR2 reads that wait for the Host Port's DMA meter (R58). -/
def HostReq.dmaBytes : HostReq → Nat
  | .access false 2 _ len => len
  | _ => 0

/-- Units a meter holds now (R57 ENG_USE.HELD). -/
def State.heldUnits (s : State) (e : Nat) : Nat :=
  if e < 8 then (if s.exhausted (.eng e) then ((s.engine e).queue.filter SealItem.isTask).length else 0)
  else if e = 8 then (if s.exhausted (.eng 8) then ((s.queue watchQueue).ents.filter QEnt.isTask).length else 0)
  else if e = 9 then (if s.exhausted (.eng 9) then (s.queue handoverQueue).ents.length else 0)
  else if e = 18 then
    (if s.exhausted (.eng 18) then (s.ports.hostHeld.filter fun x => !x.2).length else 0)
  else if e = 34 then
    (if s.exhausted (.eng 34) then (s.ports.hostHeld.filter Prod.snd).foldl (fun n x => n + x.1.dmaBytes) 0 else 0)
  else if e < 18 then (if s.exhausted (.eng e) then ((s.rxQueue (e - 10)).filter fun x => !x.charged).length else 0)
  else if e = 19 then
    (if s.exhausted (.eng 19) && s.archiveOpen then
      (s.press.segs.filter fun g => g.reissue).length + (s.nextLsn - s.press.issued) / 256 else 0)
  else if e = 20 || e = 21 then (s.ports.canRx.get [] (e - 20)).length
  else if 22 ≤ e && e < 26 then (s.loop (e - 22)).rx.length
  else if 26 ≤ e && e < 34 then
    let rx := if s.exhausted (.eng e) then (((s.rxQueue (e - 26)).head?.filter RxFrame.charged).elim 0 RxFrame.dmaBytes) else 0
    (s.hamper.heldOut.filter fun x => (s.link x.1).port = some (e - 26)).foldl (fun n x => n + 32 + x.2.payload.length) rx
  else if e = 35 then (if s.press.segCharged then
      let n := s.blockStart s.press.issued
      256 * s.segPlaces n (s.segCount n)
    else 0)
  else 0

/-- The session HM_SESSSEL selects (R90). -/
def State.shownSession (s : State) : Session := s.session (s.f .HM_SESSSEL_SESSION)

/-- Bit d for each queued position (R90). -/
def Session.queuedBits (x : Session) : Nat :=
  (numsFrom 0 16).foldl (fun n d => match x.at d with
    | .queued _ => n + 2 ^ d
    | _ => n) 0

/-- Position 0 is dispatched. -/
def Session.isDispatched (x : Session) : Bool :=
  match x.at 0 with
  | .dispatched _ => true
  | _ => false

/-- Position 0 is committing. -/
def Session.isCommitting (x : Session) : Bool :=
  match x.at 0 with
  | .committing _ => true
  | _ => false

/-- The code of a task state (R268). -/
def TState.code : TState → Nat
  | .absent => 0
  | .ready => 1
  | .running => 2
  | .waiting => 3
  | .descheduled => 4
  | .stopped => 5

/-- A field of a task number that names a slot, else zero (R293). -/
def State.taskView (s : State) (t : Nat) (g : TaskSet → Nat) : Nat := if s.slotExists t then g (s.task t) else 0

/-- The tamper sources armed in a lifecycle state (R407). -/
def armedSources (lcs : Nat) : Nat := if lcs = lcEnrolled then 0x7B else if lcs = lcCommissioned || lcs = lcService then 0xFF else 0

/-- The rate code of a CAN port (R374). -/
def State.canRate (s : State) (p : Nat) : Nat :=
  let d := s.f .CN_CFG_DBR p
  min (s.f .CN_CFG_ABR p) 3 + (if d = 0 || 5 ≤ d then 0 else 4)

/-- LINK of a port (R359, R366, R372, R374, R380). -/
def State.linkView (s : State) (p : Nat) : Bool :=
  s.fb .P_CTRL_ENABLE p && !s.portDown p &&
  (if p < 8 then !s.ports.laneDown.contains p
   else if p < 10 then s.fb .P_STAT_LINK p
   else if p < 12 then !s.fb .P_STAT_FAULT p && !s.isLimited p
   else !s.isLimited p)

/-- RATE of a port (R359, R365, R368, R374, R380; log entry 36 for the Archive Port). -/
def State.rateView (s : State) (p : Nat) : Nat :=
  if p < 8 then 0
  else if p = hostPort then s.f .P_STAT_RATE p
  else if p = archPort then (if s.ports.archiveLink then Config.archiveRate.toNat else 0)
  else if p < 12 then s.canRate p
  else if s.f .SL_CFG_BR p = 7 then 0 else s.f .SL_CFG_BR p

/-- The watchdog's period in ms (R437). -/
def State.wdPeriod (s : State) : Nat := max 10 (s.f .PW_WDCFG_PERIOD)

/-- ms left before the watchdog expires (R419, R437). -/
def State.wdRemain (s : State) : Nat := s.wdPeriod - (s.ns - s.power.wdStart) / 1000000

/-- An admission register with the masters always admitted (R317, R334). -/
def State.allowView (s : State) (write : Bool) (x : Fld) (i : Nat) : Nat :=
  if i < 43 then
    (if write then alwaysWrite i else alwaysRead i) |||
    (if (if write then bitmapWrite i else bitmapRead i) then s.f x i else 0)
  else 0

/-- A base or limit register: fixed slots read their range (R334). -/
def State.boundView (s : State) (limit : Bool) (x : Fld) (i : Nat) : Nat :=
  if i < 42 then (if limit then (fixedRange i).2 / 4096 else (fixedRange i).1 / 4096) else s.f x i

/-- An EN bit: fixed slots read 1 (R334). -/
def State.enView (s : State) (x : Fld) (i : Nat) : Nat := if i < 42 then 1 else s.f x i

/-- The value a field reads (R7, R8): most read what they hold. -/
def State.readFld (s : State) (x : Fld) (i : Nat) : Nat :=
  match x with
  | .TASK_USE_REMAIN => s.remain (.task i)
  | .CLASS_USE_DSPREMAIN => s.remain (.dispatches i)
  | .CLASS_USE_CYCREMAIN => s.remain (.cycles i)
  | .ENG_USE_REMAIN => s.remain (.eng i)
  | .ENG_USE_HELD => s.heldUnits i
  | .HM_STAT_OPENSESS => s.openSessions
  | .HM_STAT_FULL => b2n s.ledgerFull
  | .HM_STAT_READY => b2n s.hamperReady
  | .HM_SESSVIEW_NEXT => s.shownSession.next
  | .HM_SESSVIEW_EPOCH => s.shownSession.epoch
  | .HM_SESSVIEW_PEER => s.shownSession.peer
  | .HM_SESSVIEW_OPEN => b2n s.shownSession.isOpen
  | .HM_SESSQ_QUEUED => s.shownSession.queuedBits
  | .HM_SESSQ_DISPATCHED => b2n s.shownSession.isDispatched
  | .HM_SESSQ_COMMITTING => b2n s.shownSession.isCommitting
  | .HM_SESSQ_ABANDTMR => b2n s.shownSession.timer
  | .HM_SESSQ_LOGN => s.shownSession.log.length
  | .PR_STAT_READY => b2n (s.fb .PR_CTRL_ENABLE && !s.recovering)
  | .PR_CTRL_RECOVER => b2n s.recovering
  | .WT_STAT_ARMED => b2n (s.fb .WT_PEND_ARM || s.fb .WT_PEND_RESTORE)
  | .WT_STAT_STASHN => (s.watch.active.stash.filter entryValid).length
  | .WT_STASH_DATA => fieldAt (s.watch.next.stash.getD (i / 4) []) (8 * (i % 4)) 8
  | .SE_STAT_READY => b2n (s.engineReady i)
  | .SE_STAT_BUSY => b2n (s.engine i).running.isSome
  | .SE_STAT_ENTFAIL => b2n s.seals.entFail
  | .SE_STAT_QLEN => (s.engine i).queue.length
  | .SE_CUR_ELAPSED => if (s.engine i).running.isSome then s.ns / 1000 + 2 ^ 32 - s.f x i else 0
  | .RW_STAT_LOWFREE => b2n s.lowFree
  | .RW_STAT_READY => b2n (s.fb .RW_CTRL_ENABLE && !s.fb .RW_CTRL_INIT)
  | .RW_FREE_FREE => s.freeCount
  | .RW_FREE_QUAR => s.quarantined.length
  | .TC_CTRL_STOPWHY => s.taskView i TaskSet.stopWhy
  | .TC_CTRL_STATE => if s.slotExists i then (s.stateOf i).code else 0
  | .TC_CTRL_STOP => s.taskView i fun t => b2n t.stopDue
  | .TC_CTRL_CREATE => 0
  | .TC_CTRL_DESTROY => 0
  | .TC_CTRL_TICKIE => if s.slotExists i then s.f x i else 0
  | .TC_CTRL_VEC => if s.slotExists i then s.f x i else 0
  | .TC_CTRL_CLASS => if s.slotExists i then s.f x i else 0
  | .TASK_ALLOW_ALLOW => if s.slotExists i then s.f x i else 0
  | .TASK_ALLOW_CMETER => if s.slotExists i then s.f x i else 0
  | .TASK_OVR_EXCESS => if s.slotExists i then s.f x i else 0
  | .TASK_OVR_OVRTICKS => if s.slotExists i then s.f x i else 0
  | .TC_ENTRY_INDEX => if s.slotExists i then s.f x i else 0
  | .TC_ENTRY_GEN => if s.slotExists i then s.f x i else 0
  | .TC_ENTRY_OFFSET => if s.slotExists i then s.f x i else 0
  | .TC_PEND_START => s.taskView i fun t => b2n t.pStart
  | .TC_PEND_DOORBELL => s.taskView i fun t => b2n t.pDoor
  | .TC_PEND_TICK => s.taskView i fun t => b2n t.pTick
  | .TC_STOPINFO_CODE => s.taskView i fun t => bitsOf t.stopInfo.toNat 0 8
  | .TC_STOPINFO_CHECK => s.taskView i fun t => bitsOf t.stopInfo.toNat 8 4
  | .TC_STOPINFO_UNDER => s.taskView i fun t => bitsOf t.stopInfo.toNat 12 1
  | .TC_STOPINFO_OFFSET => s.taskView i fun t => bitsOf t.stopInfo.toNat 32 32
  | .TC_CORE_SREQ => b2n (s.core i).pSreq
  | .TC_CORE_CSTOP => b2n (s.core i).cstop
  | .TC_CORE_IDLE => b2n (s.core i).running.isNone
  | .TC_CORE_TASKS => (s.core i).created.length
  | .FG_PCVIEW_COLOUR => colourIn (s.f .FG_PCSEL_PAGE) s.guard.pages
  | .FG_RALLOW_ALLOW => s.allowView false x i
  | .FG_LRALLOW_ALLOW => s.allowView false x i
  | .FG_WALLOW_ALLOW => s.allowView true x i
  | .FG_LWALLOW_ALLOW => s.allowView true x i
  | .FG_BASE_EN => s.enView x i
  | .FG_LBASE_EN => s.enView x i
  | .FG_BASE_BASE => s.boundView false x i
  | .FG_LBASE_BASE => s.boundView false x i
  | .FG_LIMIT_LIMIT => s.boundView true x i
  | .FG_LLIMIT_LIMIT => s.boundView true x i
  | .P_STAT_LINK => b2n (s.linkView i)
  | .P_STAT_RATE => s.rateView i
  | .GP_IN_IN => s.gpioPins
  | .TT_LCS_STATE => s.lifecycle
  | .TT_TARM_ARMED => armedSources s.lifecycle
  | .PW_WDSTAT_REMAIN => s.wdRemain
  | .PR_SPARE_USED => if s.press.recovered then s.press.sparesUsed else 0
  | .TS_HALT_HALTED => b2n (s.core (s.f .TS_HALT_CORE)).halted
  | _ => s.f x i

/-- The value a register reads: reserved and write-only bits read zero (R7, R8). -/
def State.regRead (s : State) (r : Reg) (i : Nat) : Nat :=
  r.fields.foldl (fun n x =>
    if x.spec.acc = .wo then n else n + (s.readFld x i % 2 ^ x.width) * 2 ^ x.spec.lo) 0

/-! ## Registers by address -/

/-- A register of a row of registers, 8 bytes apart. -/
def inRow (l : List Reg) (ofs : Nat) : Option Reg := if ofs % 8 = 0 then l[ofs / 8]? else none

/-- A register of an array: `n` elements, `step` bytes apart, each of a row of registers. -/
def inArray (l : List Reg) (base step n ofs : Nat) : Option (Reg × Nat) :=
  if ofs < base || base + step * n ≤ ofs then none
  else (inRow l ((ofs - base) % step)).map fun r => (r, (ofs - base) / step)

/-- A register with no index. -/
def single (l : List Reg) (ofs : Nat) : Option (Reg × Nat) := (inRow l ofs).map fun r => (r, 0)

def tuRegs : List Reg := [.TU_TICK, .TU_PHASE, .TU_CTRL, .TU_PEND, .TU_PENDAT, .TU_REFOFS, .TU_STAT, .TU_CORR, .TU_OFFS]
def hmRegs : List Reg := [.HM_CTRL, .HM_STAT, .HM_CFG, .HM_LOGBASE, .HM_BUFBASE, .HM_RBINFO, .HM_SESSSEL, .HM_SESSVIEW,
  .HM_SESSQ, .HM_CNTREP, .HM_CNTNACK, .HM_CNTDROP, .HM_CNTLINK, .HM_CNTDISC, .HM_BUFIDX]
def prRegs : List Reg := [.PR_CTRL, .PR_STAT, .PR_NEXTLSN, .PR_ARCHLSN, .PR_OCC, .PR_LASTBLK, .PR_LASTSIG, .PR_ACFG,
  .PR_ABIND, .PR_SPARE, .PR_CNTREC, .PR_CNTERR, .PR_CNTARC]
def wtRegs : List Reg := [.WT_CTRL, .WT_STAT, .WT_SHADOW, .WT_SEQ, .WT_PEND, .WT_PENDAT, .WT_COUNT, .WT_SALTLO,
  .WT_SALTHI, .WT_CNTLK, .WT_CNTRES]
def seRegs : List Reg := [.SE_CTRL, .SE_STAT, .SE_CUR, .SE_CNTJOB, .SE_CNTERR]
def rwRegs : List Reg := [.RW_CTRL, .RW_STAT, .RW_CFG, .RW_FREE, .RW_EPOCH, .RW_SWEEP, .RW_CNTFILL, .RW_CNTCMD]
def fgRegs : List Reg := [.FG_CTRL, .FG_STAT, .FG_UPD, .FG_EPOCH, .FG_LOG, .FG_CNT]
def dnRegs : List Reg := [.DN_CFG, .DN_STAT, .DN_LASTUE, .DN_CNTDRAM, .DN_CNTLED, .DN_CNTFW, .DN_CNTTAG]
def gpRegs : List Reg := [.GP_DIR, .GP_OUT, .GP_IN, .GP_SET, .GP_CLR, .GP_EDGE]
def ttRegs : List Reg := [.TT_LCS, .TT_BOOT, .TT_ARB, .TT_TSTAT, .TT_TARM, .TT_DBG, .TT_RINSE]
def pwRegs : List Reg := [.PW_STATE, .PW_REQ, .PW_RSTAT, .PW_RLOG, .PW_SDR, .PW_TLR, .PW_CRR, .PW_WDCFG, .PW_WDKICK,
  .PW_WDSTAT, .PW_TILECFG, .PW_WAKE, .PW_WAKETMR, .PW_PFCFG]

/-- P_CFG of a port (R359, R365, R368, R372, R374, R380). -/
def portCfg (p : Nat) : Reg :=
  if p < 8 then .LP_CFG else if p = 8 then .HP_CFG else if p = 9 then .AP_CFG else if p < 12 then .CN_CFG else .SL_CFG

/-- The registers of a port (R359, R365, R368, R372, R374, R380). -/
def portRegs (p : Nat) : List Reg :=
  [.P_CTRL, .P_STAT, portCfg p] ++
  (if p < 8 then [.LP_MAC, .LP_IP4, .LP_IP6LO, .LP_IP6HI, .LP_CNTRX, .LP_CNTTX, .LP_TSRX, .LP_TSTX, .LP_TSID]
   else if p = 8 then [.HP_CNT] else if p = 9 then [.AP_CNT] else if p < 12 then [.CN_CNT] else [.SL_TRIG, .SL_CNT])

/-- The register of a port at an offset. -/
def portReg (p ofs : Nat) : Option (Reg × Nat) := (inRow (portRegs p) ofs).map fun r => (r, p)

/-- Tasks that have task control registers (R293). -/
def hasTc (t : Nat) : Bool := t < 8192 || (0x2000 ≤ t && t < 0x2008)

/-- The register at an offset of a 1 MiB control-space block, by the block's number (R20). -/
def blockReg (block ofs : Nat) : Option (Reg × Nat) :=
  match block with
  | 0 =>
    if ofs < 0x10000 then single tuRegs ofs
    else
      let o := ofs - 0x10000
      (if o = 0 then some (Reg.AM_CTRL, 0) else none)
      |>.or (inArray [.TASK_ALLOW] 0x10000 8 8192 o) |>.or (inArray [.TASK_USE] 0x20000 8 8192 o)
      |>.or (inArray [.TASK_OVR] 0x30000 8 8192 o) |>.or (inArray [.CLASS_CFG] 0x40000 8 64 o)
      |>.or (inArray [.CLASS_USE] 0x40200 8 64 o) |>.or (inArray [.CLASS_OVR] 0x40400 8 64 o)
      |>.or (inArray [.ENG_ALLOW] 0x41000 8 36 o) |>.or (inArray [.ENG_USE] 0x41200 8 36 o)
      |>.or (inArray [.ENG_OVR] 0x41400 8 36 o)
  | 1 => single hmRegs ofs
  | 2 => single prRegs ofs
  | 3 => (single wtRegs ofs).or (inArray [.WT_STASH] 0x100 8 32 ofs)
  | 4 => inArray seRegs 0 0x1000 8 ofs
  | 5 => (single rwRegs ofs).or (inArray [.RW_CMD, .RW_ARG0, .RW_ARG1, .RW_ARG2, .RW_RESULT] 0x10000 64 129 ofs)
  | 6 =>
    (single fgRegs ofs).or (inArray [.FG_PCRANGE] 0x100 8 16 ofs) |>.or (inArray [.FG_PCSEL, .FG_PCVIEW] 0x180 16 1 ofs)
    |>.or (inArray [.FG_RALLOW, .FG_WALLOW, .FG_BASE, .FG_LIMIT] 0x1000 32 96 ofs)
    |>.or (inArray [.FG_LRALLOW, .FG_LWALLOW, .FG_LBASE, .FG_LLIMIT] 0x4000 32 96 ofs)
  | 7 => single dnRegs ofs
  | 8 => if ofs < 0x8000 then portReg (ofs / 0x1000) (ofs % 0x1000) else none
  | 9 => if ofs < 0x2000 then portReg (8 + ofs / 0x1000) (ofs % 0x1000) else none
  | 10 => if ofs < 0x6000 then portReg (10 + ofs / 0x1000) (ofs % 0x1000) else none
  | 11 => single pwRegs ofs
  | 12 =>
    (single [.TS_BIST, .TS_BISTRES] ofs).or (if ofs = 0x80 then some (Reg.TS_HALT, 0) else none)
    |>.or (inArray [.TS_CTRL, .TS_STAT, .TS_BITS, .TS_ERRS] 0x100 32 20 ofs)
  | 13 => single ttRegs ofs
  | 14 =>
    (single gpRegs ofs).or ((inArray [.TC_CTRL, .TC_ENTRY, .TC_PEND, .TC_STOPINFO] 0x80000 32 0x2008 ofs).filter fun x => hasTc x.2)
    |>.or (inArray [.TC_CORE, .TC_CSINFO] 0xD0000 16 129 ofs)
  | _ => none

/-- The register at a physical address of control space; none at an unassigned offset (R20, R22). -/
def regAt (a : Nat) : Option (Reg × Nat) :=
  if a < 0x40000000 || 0x40FFFFFF < a then none else blockReg ((a - 0x40000000) / 0x100000) (a % 0x100000)

end Sys2Proof.Machine
end

