-- ==== Sys2Proof/Machine/DictTable.lean ====
section
/-! DEFINITION. The Parameter Dictionary's objects (R335-R338, R350-R355, ch. 13, R439): the entry at an index
and subindex, its type, access, role, class, and the value it reads. -/

namespace Sys2Proof.Machine

/-- The type of an entry (R336): BOOLEAN, a number of so many bytes, VISIBLE_STRING, OCTET_STRING of a fixed
length or of 1 to so many bytes, DOMAIN. -/
inductive DTy where
  | bool
  | num (bytes : Nat)
  | str
  | oct (n : Nat)
  | octMax (n : Nat)
  | domain (max : Nat)
  deriving DecidableEq, Repr

/-- The access codes of R337. -/
inductive DAcc where
  | const | ro | wo | rw
  deriving DecidableEq, Repr

/-- The persistence classes of R338; `c` for a const entry. -/
inductive DClass where
  | c | v | w | p | l
  deriving DecidableEq, Repr

/-- Where an entry's value stands: a constant, a register field, a register image, a value of the dictionary's
own, or state kept elsewhere. -/
inductive DSrc where
  | const (b : Bytes)
  | fld (x : Fld) (i : Nat)
  | img (r : Reg) (i : Nat)
  | held
  | view
  deriving DecidableEq, Repr

/-- An entry; `role` 0 names no role (R337). -/
structure DEntry where
  ty : DTy
  acc : DAcc
  role : Nat := 0
  cls : DClass
  src : DSrc
  deriving DecidableEq, Repr

/-- A const entry. -/
def cEnt (ty : DTy) (b : Bytes) : DEntry := { ty := ty, acc := .const, cls := .c, src := .const b }
/-- An ro entry of class V. -/
def roEnt (n : Nat) (src : DSrc) : DEntry := { ty := .num n, acc := .ro, cls := .v, src := src }
/-- An rw/Installer entry of class P. -/
def pEnt (ty : DTy) (src : DSrc) : DEntry := { ty := ty, acc := .rw, role := roleInstaller, cls := .p, src := src }
/-- The image of a configuration register, rw/Installer of class P. -/
def pImg (r : Reg) (i : Nat) : DEntry := pEnt (.num 8) (.img r i)
/-- The image of a register, ro of class V. -/
def roImg (r : Reg) (i : Nat) : DEntry := roEnt 8 (.img r i)
/-- The image of a counter register (R355). -/
def cntImg (r : Reg) (i : Nat) : DEntry :=
  { ty := .num 8, acc := .rw, role := roleOperator, cls := .v, src := .img r i }
/-- A domain that a role may write. -/
def woDom (role max : Nat) (cls : DClass) : DEntry :=
  { ty := .domain max, acc := .wo, role := role, cls := cls, src := .view }
/-- An rw/Installer entry of class V. -/
def vEnt (ty : DTy) (src : DSrc) : DEntry := { ty := ty, acc := .rw, role := roleInstaller, cls := .v, src := src }

/-- The longest domain (R336). -/
def domainMax : Nat := 67108864

/-- An object (R335): one value at subindex 00, a record or array with its highest subindex, or 256 values with
no count. -/
inductive DObj where
  | single (e : DEntry)
  | table (top : Nat) (f : Nat → Option DEntry)
  | full (f : Nat → DEntry)

/-- A record, its entries by subindex. -/
def recObj (top : Nat) (l : List (Nat × DEntry)) : DObj := .table top fun n => lookupIn n l

/-- An array of `n` entries at subindexes 1 to `n`. -/
def arrObj (n : Nat) (f : Nat → DEntry) : DObj := .table n fun k => if 1 ≤ k && k ≤ n then some (f (k - 1)) else none

/-- Store and restore, 0x1010 and 0x1011 (R340). -/
def storeObj : DObj :=
  let e : DEntry := { ty := .num 4, acc := .rw, role := roleInstaller, cls := .v, src := .const (leBytes 4 1) }
  recObj 4 [(1, e), (2, e), (4, e)]

/-- The standard objects, 0x1000 to 0x1FFF (R350); the TPDO records as CiA 1301 lays them out (log entry 39). -/
def stdObject (index : Nat) : Option DObj :=
  if index = 0x1000 then some (.single (cEnt (.num 4) (zeros 4)))
  else if index = 0x1001 then some (.single (roEnt 1 .view))
  else if index = 0x1003 then
    some (.table 16 fun k =>
      if k = 0 then some { ty := .num 1, acc := .rw, role := roleOperator, cls := .w, src := .const [16] }
      else if k ≤ 16 then some { ty := .num 4, acc := .rw, role := roleOperator, cls := .w, src := .view } else none)
  else if index = 0x1008 then some (.single (cEnt .str (ascii "JV-7128 Portum")))
  else if index = 0x1009 then some (.single (cEnt .str (ascii "B0")))
  else if index = 0x100A then some (.single { ty := .str, acc := .ro, cls := .v, src := .view })
  else if index = 0x1010 || index = 0x1011 then some storeObj
  else if index = 0x1014 then some (.single (pEnt (.num 4) .held))
  else if index = 0x1015 || index = 0x1017 then some (.single (pEnt (.num 2) .held))
  else if index = 0x1018 then
    some (recObj 4 [(1, cEnt (.num 4) (leBytes 4 0x4D7)), (2, cEnt (.num 4) (leBytes 4 0x7128)),
      (3, cEnt (.num 4) (leBytes 4 0x200B0)), (4, cEnt (.num 4) (leBytes 4 (Config.dieSerial.toNat % 2 ^ 32)))])
  else if 0x1800 ≤ index && index ≤ 0x1803 then
    some (recObj 5 [(1, pEnt (.num 4) .held), (2, pEnt (.num 1) .held), (3, pEnt (.num 2) .held), (5, pEnt (.num 2) .held)])
  else if 0x1A00 ≤ index && index ≤ 0x1A03 then some (arrObj 8 fun _ => pEnt (.num 4) .held)
  else none

/-- The objects of the engines and cores, 0x2000 to 0x2CFF (R351, R353). -/
def engineObject (index : Nat) : Option DObj :=
  if index = 0x2000 then
    some (recObj 6 [
      (1, { ty := .num 1, acc := .rw, role := roleAuditor, cls := .l, src := .fld .TU_CTRL_PERIOD 0 }),
      (2, pEnt (.num 1) (.fld .TU_CTRL_SRC 0)), (3, pEnt (.num 1) (.fld .TU_CTRL_PTPLANE 0)),
      (4, pEnt .bool (.fld .TU_CTRL_TOEN 0)), (5, roEnt 1 (.fld .TU_STAT_LOCK 0)), (6, roEnt 8 (.fld .TU_TICK_TICK 0))])
  else if index = 0x2100 then some (arrObj 64 fun k => pImg .CLASS_CFG k)
  else if index = 0x2101 then some (arrObj 36 fun e => pEnt (.num 4) (.fld .ENG_ALLOW_ALLOW e))
  else if 0x2110 ≤ index && index ≤ 0x214F then some (arrObj 128 fun k => pImg .TASK_ALLOW (128 * (index - 0x2110) + k))
  else if index = 0x2400 then
    some (recObj 3 [(1, pEnt (.num 2) (.fld .HM_CFG_ABANDMS 0)), (2, pEnt (.num 1) (.fld .HM_CFG_ACKDLY 0)),
      (3, roEnt 4 (.fld .HM_STAT_OPENSESS 0))])
  else if 0x2410 ≤ index && index ≤ 0x2417 then some (arrObj 128 fun _ => pEnt (.oct 24) .view)
  else if index = 0x2800 then
    some (recObj 5 [(1, roEnt 8 (.fld .PR_NEXTLSN_NEXTLSN 0)), (2, roEnt 8 (.fld .PR_ARCHLSN_ARCHLSN 0)),
      (3, roEnt 8 (.fld .PR_OCC_OCC 0)), (4, roEnt 8 (.fld .PR_STAT_FULL 0)), (5, roEnt 8 (.fld .PR_SPARE_USED 0))])
  else if index = 0x2801 then
    some (recObj 4 [(1, pEnt .bool .held), (2, roEnt 1 (.fld .PR_ACFG_LBAS 0)), (3, roEnt 4 (.fld .PR_ACFG_CAPSEG 0)),
      (4, roEnt 8 (.fld .PR_ABIND_BINDLSN 0))])
  else if index = 0x2810 then
    some (recObj 2 [(1, { ty := .num 8, acc := .rw, cls := .v, src := .held }),
      (2, { ty := .oct 256, acc := .ro, cls := .v, src := .view })])
  else if index = 0x2A00 then
    some (recObj 4 [(1, roEnt 4 (.fld .WT_SEQ_TABLESEQ 0)), (2, roEnt 4 (.fld .WT_COUNT_COUNT 0)),
      (3, { ty := .bool, acc := .ro, cls := .v, src := .fld .WT_CTRL_LOADED 0 }), (4, roEnt 4 .view)])
  else if index = 0x2A10 then some (.single (woDom roleAuditor domainMax .l))
  else if index = 0x2C00 then some (recObj 2 [(1, roEnt 1 .view), (2, roEnt 1 .view)])
  else if 0x2C10 ≤ index && index ≤ 0x2C13 then some (.full fun _ => roEnt 8 .view)
  else if index = 0x2C20 then
    some (recObj 3 [(1, { ty := .num 8, acc := .wo, role := roleInstaller, cls := .v, src := .held }),
      (2, { ty := .domain domainMax, acc := .wo, role := roleInstaller, cls := .v, src := .held }), (3, roEnt 1 .held)])
  else none

/-- The objects of the Guard and the registry, 0x3000 to 0x30FF (R351, R354). -/
def guardObject (index : Nat) : Option DObj :=
  if index = 0x3000 then
    some (recObj 4 [
      (1, { ty := .num 1, acc := .rw, role := roleAuditor, cls := .l, src := .fld .FG_CTRL_MODE 0 }),
      (2, roEnt 8 (.fld .FG_EPOCH_EPOCHS 0)), (3, roEnt 4 (.fld .FG_CNT_REFUSED 0)),
      (4, { ty := .num 1, acc := .wo, role := roleInstaller, cls := .v, src := .view })])
  else if 0x3001 ≤ index && index ≤ 0x3060 then
    let i := index - 0x3001
    some (recObj 4 [(1, pImg .FG_RALLOW i), (2, pImg .FG_WALLOW i), (3, pImg .FG_BASE i), (4, pImg .FG_LIMIT i)])
  else if index = 0x3070 then some (arrObj 16 fun r => pImg .FG_PCRANGE r)
  else if index = 0x3080 then
    some (recObj 5 [(1, pEnt (.num 4) (.fld .RW_CFG_RESERVE 0)), (2, pEnt (.num 4) (.fld .RW_CFG_SWEEPAT 0)),
      (3, pEnt (.num 4) (.fld .RW_CFG_PATROL 0)), (4, roEnt 4 (.fld .RW_FREE_FREE 0)), (5, roEnt 4 (.fld .RW_FREE_QUAR 0))])
  else none

/-- The port of an object of 0x3400 to 0x3433 (ch. 13). -/
def objectPort (index : Nat) : Option Nat :=
  if 0x3400 ≤ index && index ≤ 0x3407 then some (index - 0x3400)
  else if index = 0x3410 || index = 0x3411 then some (index - 0x3410 + 8)
  else if index = 0x3420 || index = 0x3421 then some (index - 0x3420 + 10)
  else if 0x3430 ≤ index && index ≤ 0x3433 then some (index - 0x3430 + 12)
  else none

/-- The objects of the ports, power and test, 0x3400 to 0x3FFF (ch. 13, R439). -/
def portObject (index : Nat) : Option DObj :=
  match objectPort index with
  | some p =>
    let common := [(1, pEnt .bool (.fld .P_CTRL_ENABLE p)), (2, pImg (portCfg p) p)]
    if p < 8 then
      some (recObj (if p = 0 then 10 else 7) (common ++ [(3, pImg .LP_MAC p), (4, pImg .LP_IP4 p), (5, pImg .LP_IP6LO p),
        (6, pImg .LP_IP6HI p), (7, roImg .P_STAT p)] ++ if p = 0 then [(10, pEnt (.num 1) .held)] else []))
    else
      some (recObj (if p = 9 then 5 else 3) (common ++ [(3, roImg .P_STAT p)] ++
        if p = 9 then [(5, roEnt 1 .held)] else []))
  | none =>
    if index = 0x3440 then some (recObj 2 [(1, pEnt (.num 8) .held), (2, pEnt (.num 8) .held)])
    else if index = 0x3800 then
      some (recObj 7 [(1, roImg .PW_STATE 0), (2, roImg .PW_RSTAT 0), (3, vEnt (.num 1) .view),
        (4, pEnt (.num 2) (.fld .PW_WDCFG_PERIOD 0)), (5, pImg .PW_TILECFG 0), (6, pImg .PW_WAKE 0), (7, pImg .PW_PFCFG 0)])
    else if index = 0x3801 then
      let e : DEntry := { ty := .num 4, acc := .rw, role := roleOperator, cls := .v, src := .view }
      some (recObj 3 [(1, cntImg .PW_RLOG 0), (2, e), (3, e)])
    else if index = 0x3C00 then some (recObj 2 [(1, vEnt (.num 8) (.img .TS_BIST 0)), (2, roImg .TS_BISTRES 0)])
    else if 0x3C01 ≤ index && index ≤ 0x3C14 then
      let l := index - 0x3C01
      some (recObj 4 [(1, vEnt (.num 8) (.img .TS_CTRL l)), (2, vEnt (.num 8) (.img .TS_STAT l)),
        (3, vEnt (.num 8) (.img .TS_BITS l)), (4, vEnt (.num 8) (.img .TS_ERRS l))])
    else none

/-- The objects of trust, 0x4000 to 0x41FF (R351, R352). -/
def trustObject (index : Nat) : Option DObj :=
  if index = 0x4000 then
    some (recObj 3 [(1, roEnt 1 .view), (2, { ty := .oct 64, acc := .ro, cls := .v, src := .view }), (3, roEnt 1 .view)])
  else if index = 0x4001 then some (.single { ty := .oct 48, acc := .ro, cls := .v, src := .view })
  else if index = 0x4002 || index = 0x4003 then some (.single (woDom 0 domainMax .v))
  else if index = 0x4010 || index = 0x4020 then some (.single (woDom roleAuditor domainMax .l))
  else if index = 0x4030 then some (.single (woDom roleVendor domainMax .v))
  else if index = 0x4040 then some (.single { ty := .domain domainMax, acc := .ro, cls := .v, src := .view })
  else if index = 0x4060 then
    some (recObj 2 [(1, { ty := .oct 32, acc := .rw, cls := .v, src := .view }),
      (2, { ty := .domain domainMax, acc := .ro, cls := .v, src := .view })])
  else if index = 0x4070 then some (.single (woDom roleInstaller 8388608 .v))
  else if index = 0x40FF then some (recObj 1 [(1, roEnt 8 .view)])
  else if 0x4100 ≤ index && index ≤ 0x410F then
    some (arrObj 16 fun _ => { ty := .octMax 1024, acc := .rw, role := roleAuditor, cls := .l, src := .held })
  else none

/-- The counters, 0x5000 to 0x5311 (R355, ch. 13, R439). -/
def counterObject (index : Nat) : Option DObj :=
  let trips : DEntry := { ty := .num 4, acc := .rw, role := roleOperator, cls := .v, src := .view }
  let imgs (l : List Reg) (i : Nat) : DObj := arrObj l.length fun k => cntImg (l.getD k .TU_STAT) i
  if index = 0x5000 then some (imgs [.TU_STAT] 0)
  else if 0x5001 ≤ index && index ≤ 0x5040 then some (arrObj 128 fun k => cntImg .TASK_OVR (128 * (index - 0x5001) + k))
  else if index = 0x5041 then some (arrObj 64 fun k => cntImg .CLASS_OVR k)
  else if index = 0x5042 then some (arrObj 36 fun k => cntImg .ENG_OVR k)
  else if index = 0x5100 then some (imgs [.HM_CNTREP, .HM_CNTNACK, .HM_CNTDROP, .HM_CNTLINK, .HM_CNTDISC] 0)
  else if index = 0x5110 then some (imgs [.PR_CNTREC, .PR_CNTERR, .PR_CNTARC] 0)
  else if index = 0x5120 then some (imgs [.WT_CNTLK, .WT_CNTRES] 0)
  else if 0x5121 ≤ index && index ≤ 0x5128 then some (imgs [.SE_CNTJOB, .SE_CNTERR] (index - 0x5121))
  else if index = 0x5130 then some (imgs [.RW_CNTFILL, .RW_CNTCMD] 0)
  else if index = 0x5140 then some (imgs [.FG_CNT, .FG_LOG] 0)
  else if index = 0x5150 then some (arrObj 129 fun _ => trips)
  else if 0x5200 ≤ index && index ≤ 0x523F then some (arrObj 128 fun k => roImg .TC_CTRL (128 * (index - 0x5200) + k))
  else if 0x5300 ≤ index && index ≤ 0x5307 then some (imgs [.LP_CNTRX, .LP_CNTTX] (index - 0x5300))
  else if index = 0x5308 then some (imgs [.HP_CNT] 0)
  else if index = 0x5309 then some (imgs [.AP_CNT] 0)
  else if index = 0x530A || index = 0x530B then some (recObj 2 [(1, cntImg .CN_CNT (index - 0x530A + 10)), (2, trips)])
  else if 0x530C ≤ index && index ≤ 0x530F then some (recObj 2 [(1, cntImg .SL_CNT (index - 0x530C + 12)), (2, trips)])
  else if index = 0x5310 then some (imgs [.DN_CNTDRAM, .DN_CNTLED, .DN_CNTFW] 0)
  else if index = 0x5311 then some (imgs [.DN_CNTTAG, .DN_STAT] 0)
  else none

/-- The object at an index (R350, R351). -/
def objectAt (index : Nat) : Option DObj :=
  if index < 0x2000 then stdObject index
  else if index < 0x3000 then engineObject index
  else if index < 0x3400 then guardObject index
  else if index < 0x4000 then portObject index
  else if index < 0x5000 then trustObject index
  else counterObject index

/-- Row 1 of R347: the entry, or the abort code of an index or subindex that does not exist. -/
def lookupEntry (index sub : Nat) : Except Nat DEntry :=
  match objectAt index with
  | none => .error 0x06020000
  | some (.single e) => if sub = 0 then .ok e else .error 0x06090011
  | some (.full f) => .ok (f sub)
  | some (.table top f) =>
    match f sub with
    | some e => .ok e
    | none => if sub = 0 then .ok (cEnt (.num 1) [BitVec.ofNat 8 top]) else .error 0x06090011

/-! ## Sizes and defaults -/

/-- The bytes of a number type. -/
def DTy.bytes : DTy → Nat
  | .bool => 1
  | .num n => n
  | .oct n => n
  | _ => 0

/-- The value of a register after the reset that clears it, as an image. -/
def Reg.resetImage (r : Reg) (i : Nat) : Nat :=
  r.fields.foldl (fun n x => n + (x.resetAt i % 2 ^ x.width) * 2 ^ x.spec.lo) 0

/-- Defaults the spec states of entries that drive a register, as numbers (R29, R90, R196, R365, R380, R437), and
the ports that a device needs to be reached (log entry 40). -/
def statedDefault (index sub : Nat) : Option Nat :=
  if index = 0x2000 && sub = 1 then some 1
  else if index = 0x2400 && sub = 1 then some 4000
  else if index = 0x2400 && sub = 2 then some 10
  else if index = 0x3080 then lookupIn sub [(1, 65536), (2, 1024), (3, 60)]
  else if 0x3400 ≤ index && index ≤ 0x3407 && sub = 2 then some (1518 + 49322 * 2 ^ 34)
  else if (index = 0x3410 || index = 0x3420 || index = 0x3421) && sub = 1 then some 1
  else if 0x3430 ≤ index && index ≤ 0x3433 && sub = 2 then some (15 * 2 ^ 14)
  else if index = 0x3800 && sub = 4 then some 0x7D0
  else if index = 0x3800 && sub = 5 then some (200 * 2 ^ 16)
  else none

/-- A mapped entry as CiA 1301 writes it: index, subindex, bits. -/
def mapWord (index sub bits : Nat) : Nat := 65536 * index + 256 * sub + bits

/-- Default of a value the dictionary keeps itself (R350, R357; log entry 39). -/
def State.heldDefault (s : State) (index sub : Nat) : Nat :=
  if index = 0x1014 then 0x80 + s.nodeId 0
  else if index = 0x1015 then 10
  else if index = 0x1017 then 1000
  else if 0x1800 ≤ index && index ≤ 0x1803 then
    let n := index - 0x1800
    (lookupIn sub [(1, 0x180 + 0x100 * n + s.nodeId 0 + (if n = 3 then 2 ^ 31 else 0)), (2, 254), (5, 1000)]).getD 0
  else if index = 0x1A00 then
    (lookupIn sub [(1, mapWord 0x2000 6 64), (2, mapWord 0x2800 1 64), (3, mapWord 0x2800 3 64)]).getD 0
  else if index = 0x1A01 then (lookupIn sub [(1, mapWord 0x5110 1 64), (2, mapWord 0x5100 2 64)]).getD 0
  else if index = 0x1A02 then
    (lookupIn sub [(1, mapWord 0x2000 5 8), (2, mapWord 0x2A00 1 32), (3, mapWord 0x2400 3 32)]).getD 0
  else 0

/-- The default of an entry (R339). -/
def State.entryDefault (s : State) (index sub : Nat) (e : DEntry) : Bytes :=
  match e.src with
  | .const b => b
  | .fld x i => leBytes e.ty.bytes ((statedDefault index sub).getD (x.resetAt i))
  | .img r i => leBytes e.ty.bytes ((statedDefault index sub).getD (r.resetImage i))
  | .held => leBytes e.ty.bytes (s.heldDefault index sub)
  | .view => zeros e.ty.bytes

/-! ## Reading -/

/-- A number in decimal digits. -/
def decimal (n : Nat) : Bytes := (Nat.toDigits 10 n).map fun c => BitVec.ofNat 8 c.toNat

/-- A release as "major.minor.patch" (R350, R393). -/
def releaseText (v : Nat) : Bytes :=
  decimal (bitsOf v 24 8) ++ ascii "." ++ decimal (bitsOf v 16 8) ++ ascii "." ++ decimal (bitsOf v 0 16)

/-- The slot that holds an LSN, or 256 zero bytes (R351). -/
def State.lsnBytes (s : State) (lsn : Nat) : Bytes :=
  match s.press.slots.find (slotIndex lsn) with
  | some (.good r) => if r.lsn = lsn then r.bytes else zeros 256
  | some (.bad r) => if r.lsn = lsn then s.slotBytes (slotIndex lsn) else zeros 256
  | none => zeros 256

/-- A key slot's image (R351). -/
def State.keyImage (s : State) (k : Nat) : Nat :=
  let x := s.key k
  x.owner + 2 ^ 16 * x.ty + 2 ^ 24 * b2n x.isVolatile + 2 ^ 32 * x.kgen

/-- A peer entry's 24 bytes (R353). -/
def PeerCfg.bytes (x : PeerCfg) : Bytes :=
  leBytes 16 x.addr.toNat ++ leBytes 2 x.udp.toNat ++ leBytes 2 x.rights ++ leBytes 1 (b2n x.valid + 2 * b2n x.mgmt) ++ zeros 3

/-- The certificates of 0x4040 (R401). -/
def State.certificates (s : State) : Bytes :=
  s.trust.idCert.getD [] ++ s.trust.attCert.getD [] ++ s.trust.anchor.getD [] ++ s.trust.evCerts.flatten

/-- The role code of an instance's session, or 0 (R351, R403). -/
def State.roleCode (s : State) (i : Option Inst) : Nat := ((i.bind s.roleOf).map RoleSess.role).getD 0

/-- An entry that shows other state. -/
def State.viewBytes (s : State) (i : Option Inst) (index sub : Nat) : Bytes :=
  if index = 0x1001 then leBytes 1 s.errorRegister
  else if index = 0x1003 then leBytes 4 (((s.emcyLog[sub - 1]?).map Emcy.code).getD 0)
  else if index = 0x100A then releaseText s.trust.fwVersion
  else if 0x2410 ≤ index && index ≤ 0x2417 then (s.peers.get {} (128 * (index - 0x2410) + sub - 1)).bytes
  else if index = 0x2810 then s.lsnBytes (leNat (s.dict.vals.get [] (0x2810, 1)))
  else if index = 0x2A00 then leBytes 4 s.watch.highMark
  else if index = 0x2C00 then
    leBytes 1 (if sub = 1 then (numsFrom 0 8).foldl (fun n e => n + 2 ^ e * b2n (s.engineReady e)) 0 else b2n s.seals.entFail)
  else if 0x2C10 ≤ index && index ≤ 0x2C13 then leBytes 8 (s.keyImage (256 * (index - 0x2C10) + sub))
  else if index = 0x3800 then leBytes 1 (if s.f .PW_STATE_STATE = 4 || s.fb .PW_REQ_STANDBY then 4 else 0)
  else if index = 0x3801 then leBytes 4 (if sub = 2 then s.power.tlrs else s.power.crrs)
  else if index = 0x4000 then
    (if sub = 1 then leBytes 1 s.lifecycle else if sub = 2 then leBytes 64 s.devKey.toNat else leBytes 1 (s.roleCode i))
  else if index = 0x4040 then s.certificates
  else if index = 0x4060 then s.trust.attNonce.getD (zeros 32)
  else if index = 0x40FF then
    leBytes 8 (match s.dict.appIndex with
      | some k => k + 2 ^ 22 * (s.entry k).gen
      | none => 0)
  else if index = 0x5150 then leBytes 4 ((s.core (sub - 1)).cr 25 >>> 32)
  else if 0x530A ≤ index && index ≤ 0x530F then leBytes 4 (s.ports.trips.get 0 (index - 0x530A + 10))
  else []

/-- The value of an entry in force (R347, R348). -/
def State.entryBytes (s : State) (i : Option Inst) (index sub : Nat) (e : DEntry) : Bytes :=
  match e.src with
  | .const b => b
  | .fld x k => leBytes e.ty.bytes (s.readFld x k)
  | .img r k => leBytes e.ty.bytes (s.regRead r k)
  | .held => s.dict.vals.get (s.entryDefault index sub e) (index, sub)
  | .view => s.viewBytes i index sub

/-! ## The parameter area -/

/-- Copy B is the newer copy whose CRC is correct (R340). -/
def DictS.newerB (d : DictS) : Bool := d.paramB.valid && (!d.paramA.valid || decide (d.paramA.seq < d.paramB.seq))

/-- The saved values: those of the newer valid copy, none where neither is valid (R340). -/
def DictS.params (d : DictS) : ParamCopy :=
  if d.newerB then d.paramB else if d.paramA.valid then d.paramA else {}

/-- A save writes the older copy, with the next sequence number (R340). -/
def DictS.save (d : DictS) (g : ParamCopy → ParamCopy) : DictS :=
  let p := { g d.params with seq := (max d.paramA.seq d.paramB.seq + 1) % 2 ^ 64, valid := true }
  if d.newerB then { d with paramA := p } else { d with paramB := p }

/-! ## Sets of entries -/

/-- Subindexes of an object. -/
def DObj.subs : DObj → List Nat
  | .single _ => [0]
  | .table top _ => numsFrom 0 (top + 1)
  | .full _ => numsFrom 0 256

/-- Indexes of objects that hold P entries (R350, R351). -/
def pIndices : List Nat :=
  [0x1014, 0x1015, 0x1017] ++ numsFrom 0x1800 4 ++ numsFrom 0x1A00 4 ++ [0x2000, 0x2100, 0x2101] ++ numsFrom 0x2110 64 ++
  [0x2400] ++ numsFrom 0x2410 8 ++ [0x2801] ++ numsFrom 0x3001 96 ++ [0x3070, 0x3080] ++ numsFrom 0x3400 8 ++
  [0x3410, 0x3411, 0x3420, 0x3421] ++ numsFrom 0x3430 4 ++ [0x3440, 0x3800]

/-- The P entries whose index lies in a range. -/
def pEntries (lo hi : Nat) : List (Nat × Nat × DEntry) :=
  (pIndices.filter fun i => decide (lo ≤ i) && decide (i ≤ hi)).flatMap fun i =>
    ((objectAt i).map DObj.subs).getD [] |>.filterMap fun k => match lookupEntry i k with
      | .ok e => if e.cls = .p then some (i, k, e) else none
      | .error _ => none

/-- The class L entries that hold a value, in index and subindex order (R351, R404). -/
def lEntries : List (Nat × Nat) :=
  (0x2000, 1) :: (0x3000, 1) :: (numsFrom 0x4100 16).flatMap fun i => (numsFrom 1 16).map fun k => (i, k)

end Sys2Proof.Machine
end

