-- ==== Sys2Proof/Machine/DictCmd.lean ====
section
/-! DEFINITION. What writes to dictionary entries do (R337-R340, R347, R348, R351-R355): lengths and ranges,
entries that drive registers, store and restore, changes of class L, Guard updates, key commands. -/

namespace Sys2Proof.Machine

/-! ## Register images -/

/-- The bits of a field of a register number that take a write: the Guard's slot registers ignore writes of
admissions that no bitmap holds, and of the bounds of fixed slots and absent ones (R334). -/
def Fld.takes (x : Fld) (i : Nat) : Nat :=
  match x with
  | .FG_RALLOW_ALLOW => if bitmapRead i then 2 ^ 64 - 1 - alwaysRead i else 0
  | .FG_WALLOW_ALLOW => if bitmapWrite i then 2 ^ 64 - 1 - alwaysWrite i else 0
  | .FG_BASE_EN | .FG_BASE_BASE | .FG_LIMIT_LIMIT => if 42 ≤ i && i ≤ 49 then 2 ^ 64 - 1 else 0
  | x => 2 ^ x.width - 1

/-- Stores one field of a written register by its access code (R7); fields that act are left to the register. -/
def State.storeField (s : State) (i v : Nat) (x : Fld) : State :=
  let b := bitsOf v x.spec.lo x.width &&& x.takes i
  match x.spec.acc with
  | .rw => s.setF x (b ||| (s.f x i - (s.f x i &&& x.takes i))) i
  | .w1c => s.setF x (s.f x i - (s.f x i &&& b)) i
  | _ => s

/-- Stores a written register's fields (R7). -/
def State.storeReg (s : State) (r : Reg) (i v : Nat) : State := r.fields.foldl (fun s x => s.storeField i v x) s

/-- The counter fields of a register are cleared (R355). -/
def State.clearReg (s : State) (r : Reg) (i : Nat) : State :=
  r.fields.foldl (fun s x => if x.spec.acc = .ro then s else s.setF x 0 i) s

/-- The bits of a register that belong to a field (R8). -/
def Reg.mask (r : Reg) : Nat := r.fields.foldl (fun n x => n ||| ((2 ^ x.width - 1) * 2 ^ x.spec.lo)) 0

/-! ## Ports -/

/-- A port is disabled: its link goes down, and a server instance on it is lost (R343, R359, R366, R371). -/
def State.portOff (s : State) (p : Nat) : State :=
  if p = hostPort then s.hostLinkLost
  else if p = archPort then (if s.ports.archiveLink then s.archiveLinkLost else s)
  else if p = 10 || p = 11 then s.loseInst (canInst p)
  else s

/-- P_CTRL.ENABLE is written (R359, R433): 1 stops the patterns of the port's links. -/
def State.setEnable (s : State) (p : Nat) (on : Bool) : State :=
  let was := s.fb .P_CTRL_ENABLE p
  let s := s.setF .P_CTRL_ENABLE (b2n on) p
  if on then (linksOf p).foldl State.stopPattern s else if was then s.portOff p else s

/-! ## Lengths and ranges -/

/-- Row 7 of R347: the abort code of a length that does not match the type. -/
def DTy.lengthCode (t : DTy) (n : Nat) : Option Nat :=
  let fixed (k : Nat) := if k < n then some 0x06070012 else if n < k then some 0x06070013 else none
  match t with
  | .bool => fixed 1
  | .num k => fixed k
  | .oct k => fixed k
  | .str => if 64 < n then some 0x06070012 else none
  | .octMax k => if k < n then some 0x06070012 else if n = 0 then some 0x06070013 else none
  | .domain k => if k < n then some 0x06070012 else none

/-- A value outside `lo` to `hi` (R347 row 8, R358). -/
def rangeCode (lo hi v : Nat) : Option Nat :=
  if hi < v then some 0x06090031 else if v < lo then some 0x06090032 else none

/-- An object that TPDOs may map (R357). -/
def mappable (index : Nat) : Bool :=
  index = 0x2000 || index = 0x2400 || index = 0x2800 || index = 0x2A00 || (0x5000 ≤ index && index ≤ 0x5150)

/-- A TPDO mapping (R357): 0, or an entry of a mappable object with its length in bits. -/
def mapCode (v : Nat) : Option Nat :=
  if v = 0 then none
  else match lookupEntry (v / 65536) (v / 256 % 256) with
    | .ok e => if mappable (v / 65536) && v % 256 = 8 * e.ty.bytes then none else some 0x06040041
    | .error _ => some 0x06040041

/-- A peer entry that 24 bytes spell (R353). -/
def peerOfBytes (b : Bytes) : PeerCfg :=
  { addr := BitVec.ofNat 128 (fieldAt b 0 16), udp := BitVec.ofNat 16 (fieldAt b 16 2), rights := fieldAt b 18 2 % 2 ^ 11
    valid := bitOf (fieldAt b 20 1) 0, mgmt := bitOf (fieldAt b 20 1) 1 }

/-- The peer index of a peer entry (R353). -/
def peerIndex (index sub : Nat) : Nat := 128 * (index - 0x2410) + sub - 1

/-- Row 8 for a peer entry: reserved bits, and another VALID entry with its address and port (R353). -/
def State.peerCode (s : State) (n : Nat) (b : Bytes) : Option Nat :=
  let x := peerOfBytes b
  let twin := s.peers.entries.any fun e => e.1 != n && e.2.valid && e.2.addr = x.addr && e.2.udp = x.udp
  if 2 ^ 11 ≤ fieldAt b 18 2 || 4 ≤ fieldAt b 20 1 || fieldAt b 21 3 != 0 || (x.valid && twin) then some 0x06090030 else none

/-- The field's greatest value. -/
def Fld.maxVal (x : Fld) : Nat := 2 ^ x.width - 1

/-- Row 8 of R347: the abort code of a value out of range. -/
def State.valueCode (s : State) (index sub : Nat) (e : DEntry) (b : Bytes) : Option Nat :=
  let v := leNat b
  let zeroOnly := if v = 0 then none else some 0x06090030
  if index = 0x1010 then (if v = 0x65766173 then none else some 0x08000020)
  else if index = 0x1011 then (if v = 0x64616F6C then none else some 0x08000020)
  else if index = 0x1003 && sub = 0 then zeroOnly
  else if 0x1A00 ≤ index && index ≤ 0x1A03 then mapCode v
  else if 0x2410 ≤ index && index ≤ 0x2417 then s.peerCode (peerIndex index sub) b
  else if index = 0x2C20 && sub = 1 then
    if !(1 ≤ v % 256 && v % 256 ≤ 3) || bitsOf v 18 6 != 0 || 2 ^ 49 ≤ v then some 0x06090030
    else (rangeCode 16 1023 (bitsOf v 8 10)).or (if v % 256 = 3 then none else rangeCode 1 4 (bitsOf v 24 8))
  else if index = 0x3000 && sub = 4 then (if v = 1 then none else some 0x06090030)
  else if index = 0x3440 then (if v < 65536 then none else some 0x06090030)
  else if index = 0x3800 && sub = 3 then (if v = 0 || v = 4 then none else some 0x06090030)
  else if index = 0x3800 && sub = 4 then rangeCode 0 60000 v
  else if index = 0x3801 && sub ≠ 1 || index = 0x5150 || ((0x530A ≤ index && index ≤ 0x530F) && sub = 2) then zeroOnly
  else match e.ty, e.src with
    | .bool, _ => rangeCode 0 1 v
    | _, .fld x _ => rangeCode 0 x.maxVal v
    | _, .img r _ =>
      if e.role = roleOperator then zeroOnly
      else if v &&& r.mask != v then some 0x06090030
      else if r = .PW_TILECFG then rangeCode 50 65535 (bitsOf v 16 16)
      else none
    | _, _ => none

/-! ## Values in force -/

/-- Other effects of a P value that the dictionary keeps itself: archive enable binds, or ends the archive (R121). -/
def State.heldEffect (s : State) (index : Nat) (v : Nat) : State :=
  if index = 0x2801 then (if v = 1 then s.startBinding else (s.setF .PR_CTRL_ARCHEN 0).onPress fun p => { p with binding := false, bound := false })
  else s

/-- A peer entry is written: an instance that is no longer served is lost (R343, R353). -/
def State.setPeer (s : State) (n : Nat) (x : PeerCfg) : State :=
  let s := { s with peers := s.peers.set n x }
  if x.valid && x.mgmt then s else s.loseInst (.plp n)

/-- A value put in force (R347): its register, its peer entry, its place in the dictionary, or a counter cleared. -/
def State.putEntry (s : State) (index sub : Nat) (e : DEntry) (b : Bytes) : State :=
  let v := leNat b
  match e.src with
  | .fld x k => if x = .P_CTRL_ENABLE then s.setEnable k (v != 0) else (s.setF x v k).holdTickout
  | .img r k =>
    if e.role = roleOperator then s.clearReg r k
    else
      let s := s.storeReg r k v
      if index = 0x3070 then s.onDict fun d => { d with ranges := max d.ranges sub } else s
  | .held => (s.onDict fun d => { d with vals := d.vals.set (index, sub) b }).heldEffect index v
  | .view =>
    if 0x2410 ≤ index && index ≤ 0x2417 then s.setPeer (peerIndex index sub) (peerOfBytes b)
    else if index = 0x3801 then { s with power := if sub = 2 then { s.power with tlrs := 0 } else { s.power with crrs := 0 } }
    else if index = 0x5150 then
      s.onCore (sub - 1) fun c => { c with crs := c.crs.set 25 (BitVec.ofNat 64 (c.cr 25 % 2 ^ 32)) }
    else if 0x530A ≤ index && index ≤ 0x530F then
      s.onPorts fun q => { q with trips := q.trips.erase (index - 0x530A + 10) }
    else if index = 0x1003 then
      { s with emcyLog := (s.emcyLog ++ List.replicate (sub - s.emcyLog.length) (Emcy.mk 0 0)).set (sub - 1) (Emcy.mk v 0) }
    else if index = 0x4060 then s.onTrust fun t => { t with attNonce := some b }
    else s
  | .const _ => if index = 0x1003 then { s with emcyLog := [] } else s

/-- A change of the same entry that is pending and whose record has not failed (R347 row 9, R348). -/
def State.changePending (s : State) (index sub : Nat) : Bool :=
  s.dict.changes.any fun c => c.index = index && c.sub = sub &&
    !s.press.devFailed.any fun x => match x.1 with
      | .config i k _ t _ _ _ _ => i.toNat = index && k.toNat = sub && t = c.efftick
      | _ => false

/-- A peer that owns an open session may keep its address, port and VALID only (R353). -/
def State.peerBusy (s : State) (n : Nat) (b : Bytes) : Bool :=
  let x := peerOfBytes b
  let y := s.peers.get {} n
  (x.addr != y.addr || x.udp != y.udp || x.valid != y.valid) &&
    s.hamper.sess.entries.any fun e => e.2.isOpen && e.2.peer = n

/-- Row 9 of R347. -/
def State.busyCode (s : State) (index sub : Nat) (b : Bytes) : Option Nat :=
  if s.changePending index sub then some 0x08000109
  else if index = 0x3000 && s.fb .FG_UPD_HOLD then some 0x08000109
  else if 0x2410 ≤ index && index ≤ 0x2417 && s.peerBusy (peerIndex index sub) b then some 0x08000109
  else none

/-- Rows 7 to 9 of R347 for a value. -/
def State.checkValue (s : State) (index sub : Nat) (e : DEntry) (b : Bytes) : Except Nat Unit :=
  match (e.ty.lengthCode b.length).or ((s.valueCode index sub e b).or (s.busyCode index sub b)) with
  | some c => .error c
  | none => .ok ()

/-- The staged registers of the Guard take no write while an update holds (R329, R333). -/
def State.hardwareRefuses (s : State) (index : Nat) : Bool :=
  0x3001 ≤ index && index ≤ 0x3070 && s.fb .FG_UPD_HOLD

/-- A plain write: rows 7 to 9, the value in force, and kept through the narrower resets (R338, R347). -/
def State.plainWrite (s : State) (index sub : Nat) (e : DEntry) (b : Bytes) : Except Nat State :=
  match s.checkValue index sub e b with
  | .error c => .error c
  | .ok _ =>
    if s.hardwareRefuses index then .error 0x06060000
    else
      let s := s.putEntry index sub e b
      .ok (if e.cls = .p then s.onDict fun d => { d with retained := d.retained.set (index, sub) b } else s)

/-! ## Store and restore -/

/-- The indexes a subindex of 0x1010 or 0x1011 selects (R340). -/
def storeRange (sub : Nat) : Nat × Nat :=
  if sub = 2 then (0x1000, 0x1FFF) else if sub = 4 then (0x2000, 0x5FFF) else (0x1000, 0x5FFF)

/-- A P entry's value, saved in a copy (R340). -/
def State.saveEntry (s : State) (p : ParamCopy) (x : Nat × Nat × DEntry) : ParamCopy :=
  let b := s.entryBytes none x.1 x.2.1 x.2.2
  if b = s.entryDefault x.1 x.2.1 x.2.2 then { p with saved := p.saved.erase (x.1, x.2.1) }
  else { p with saved := p.saved.set (x.1, x.2.1) b }

/-- A save of 0x1010 (R340). -/
def State.storeParams (s : State) (sub : Nat) : State :=
  let r := storeRange sub
  s.onDict fun d => d.save fun p => (pEntries r.1 r.2).foldl s.saveEntry p

/-- A mark of 0x1011 (R340). -/
def State.markDefaults (s : State) (sub : Nat) : State :=
  s.onDict fun d => { d with toDefault := sub :: removeNum sub d.toDefault }

/-! ## Guard updates, key commands -/

/-- A write of 1 to 0x3000:04: HOLD and COMMIT in one write; the answer follows at the epoch (R354). -/
def State.takeApply (s : State) (v : Serves) : State :=
  let s := s.setF .FG_UPD_NRANGE s.dict.ranges
  if s.badUpdate then (s.setF .FG_STAT_CFGERR 1).abortWrite v 0x0800010C
  else
    let s := s.onDict fun d => { d with ranges := 0 }
    (s.onGuard fun g => { g with applying := some v }).holdUpdate.askCommit

/-- A key command gives its slot a type, an owner domain and the VOLATILE flag (R150, R152, R351). -/
def State.assignSlot (s : State) (v : Nat) : State :=
  let k := keyCmdSlot v
  s.setKey k { s.key k with ty := bitsOf v 24 8, owner := bitsOf v 32 16, isVolatile := bitOf v 48 }

/-- A key command of 0x2C20:01 becomes a job of the Steward's on the READY engine with the shortest queue, or waits for a
place; the write is answered when the job ends (R150-R152, R351, R463; log entry 37). -/
def State.takeKeyCmd (s : State) (v : Nat) (x : Serves) : Except Nat State :=
  let j : KeyJob := { cmd := v, serves := x, old := s.key (keyCmdSlot v) }
  if !s.anyReady then .error 0x08000000
  else .ok ((if v % 256 = 3 then s else s.assignSlot v).assignKeys (numsFrom 0 8) [j])

/-! ## Changes of class L -/

/-- The change request's own fields keep R348's form. -/
def changeForm (b : Bytes) : Bool :=
  b.take 8 = ascii "PORTUMCR" && fieldAt b 8 1 = 1 && fieldAt b 9 1 = roleAuditor && fieldAt b 13 1 = 0 &&
  (sliceAt b 36 28).all (· = 0) && 1 ≤ fieldAt b 14 2 && fieldAt b 14 2 ≤ 1024

/-- A length that disagrees with what the request declares (R347 row 7). -/
def changeLength (b : Bytes) : Option Nat :=
  if b.length < 64 then some 0x06070013 else if b.length != 64 + fieldAt b 14 2 + 3373 then some 0x06070010 else none

/-- ROLESESS names the instance's session and CRSEQ has risen (R348). -/
def sessionOk (r : RoleSess) (rolesess crseq : Nat) : Bool := r.id = rolesess && decide (r.crseq < crseq)

/-- Step 1 of R348 after the envelope: the entry is of class L and no domain. -/
def changeEntry (index sub : Nat) : Except Nat DEntry :=
  match lookupEntry index sub with
  | .error c => .error c
  | .ok e => if e.cls = .l && !(index = 0x2A10 || index = 0x4010 || index = 0x4020) then .ok e else .error 0x06090030

/-- EFFTICK of a request, or two above the current tick where it is 0 (R348). -/
def State.effTick (s : State) (n : Nat) : Nat := if n = 0 then s.tickNo + 2 else n

/-- EFFTICK comes too soon (R348). -/
def State.tooSoon (s : State) (n : Nat) : Bool := n != 0 && decide (n < s.tickNo + 2)

/-- LEN and VALUE of a configuration record (R100). -/
def configValue (b : Bytes) : BitVec 16 × Bytes :=
  if 128 < b.length then (BitVec.ofNat 16 (min b.length 32767 + 32768), leBytes 64 (sha512 b).toNat)
  else (BitVec.ofNat 16 b.length, b)

/-- CRSEQ accepted in an instance's session (R348, R403). -/
def State.noteCrseq (s : State) (i : Inst) (r : RoleSess) (n : Nat) : State :=
  s.onTrust fun t => { t with roles := t.roles.set i { r with crseq := n } }

/-- A change of an entry that failed is forgotten (R106, R109, R348). -/
def State.dropChange (s : State) (index sub : Nat) : State :=
  s.onDict fun d => { d with changes := d.changes.filter fun c => !(c.index = index && c.sub = sub) }

/-- A change request past rows 1 to 6 of R347: checked, verified, its record submitted (R348). -/
def State.takeChange (s : State) (i : Inst) (r : RoleSess) (b : Bytes) (v : Serves) : Except Nat State :=
  let index := fieldAt b 10 2
  let sub := fieldAt b 12 1
  let n := fieldAt b 14 2
  let value := sliceAt b 64 n
  match changeLength b with
  | some c => .error c
  | none =>
    if !changeForm b then .error 0x06090030
    else if !sessionOk r (fieldAt b 16 8) (fieldAt b 32 4) then .error 0x08000104
    else match changeEntry index sub with
      | .error c => .error c
      | .ok e =>
        match s.checkValue index sub e value with
        | .error c => .error c
        | .ok _ =>
          match s.verify2 r.edPub r.mlPub (b.take (64 + n)) (sliceAt b (64 + n) 64) (sliceAt b (128 + n) 3309) (ascii "JV7128-CR") with
          | .error c => .error c
          | .ok _ =>
            if s.tooSoon (fieldAt b 24 8) then .error 0x08000106
            else
              let t := s.effTick (fieldAt b 24 8)
              let x := configValue value
              let s := s.dropChange index sub
              match s.submitDev (.config (BitVec.ofNat 16 index) (BitVec.ofNat 8 sub) (BitVec.ofNat 8 roleAuditor) t
                  (BitVec.ofNat 64 r.id) (sha512 b) x.1 x.2) v with
              | .error c => .error c
              | .ok s =>
                .ok ((s.noteCrseq i r (fieldAt b 32 4)).onDict fun d => { d with changes := d.changes ++
                  [{ index := index, sub := sub, value := value, efftick := t, serves := v, armed := false }] })

/-- The application parameter segment's place in general DRAM (R352; log entry 9). -/
def appBase : Nat := 0x100000000 + Config.appBase.toNat % 7932 * 2 ^ 20

/-- The address of an application parameter's area (R352). -/
def appArea (index sub : Nat) : Nat := appBase + 4096 * (16 * (index - 0x4100) + sub - 1)

/-- EFFTICK of a version of an application parameter, none where it was never written (R352). -/
def State.appVersion (s : State) (a : Nat) : Option Nat :=
  if leNat (s.bytes (a + 8) 2) = 0 then none else some (leNat (s.bytes a 8))

/-- The second version is the one in force at tick `t` (R352). -/
def State.appSecond (s : State) (a t : Nat) : Bool :=
  let x := (s.appVersion a).filter fun n => decide (n ≤ t)
  let y := (s.appVersion (a + 2048)).filter fun n => decide (n ≤ t)
  match x, y with
  | none, some _ => true
  | some p, some q => decide (p < q)
  | _, none => false

/-- A new version written into the one not in force (R352). -/
def State.putApp (s : State) (index sub efftick : Nat) (b : Bytes) : State :=
  let a := appArea index sub
  let p := if s.appSecond a s.tickNo then a else a + 2048
  s.stewardStore p (leBytes 8 efftick ++ leBytes 2 b.length ++ zeros 6 ++ b)

/-- The version in force at tick `t`: the greatest EFFTICK not above it (R340). -/
def inForce (t : Nat) : List (Nat × Bytes) → Option (Nat × Bytes)
  | [] => none
  | x :: l => match inForce t l with
    | some y => if x.1 ≤ t && decide (y.1 < x.1) then some x else some y
    | none => if x.1 ≤ t then some x else none

/-- A save of a change: the version in force is kept (R340). -/
def State.saveVersion (s : State) (index sub efftick : Nat) (b : Bytes) : State :=
  let old := (inForce s.tickNo (s.dict.params.versions.get [] (index, sub))).toList
  s.onDict fun d => d.save fun p => { p with versions := p.versions.set (index, sub) ((efftick, b) :: old) }

/-- A change armed for the boundary that starts its EFFTICK (R33, R348, R352). -/
def State.armEntry (s : State) (c : Change) : State :=
  if c.index = 0x2000 then
    ((s.setF .TU_PEND_NEWPERIOD (leNat c.value)).setF .TU_PENDAT_ATTICK c.efftick).setF .TU_PEND_ARM 1
  else if c.index = 0x3000 then s
  else s.putApp c.index c.sub c.efftick c.value

/-- The change of an entry, armed (R348). -/
def State.noteArmed (s : State) (c : Change) : State :=
  s.onDict fun d => { d with changes := d.changes.map fun x =>
    if x.index = c.index && x.sub = c.sub then { x with armed := true } else x }

/-- The configuration record of an entry among durable records, and the others. -/
def takeConfig (index sub : Nat) (l : List (DevRec × Serves)) : Option ((DevRec × Serves) × List (DevRec × Serves)) :=
  takeFirst (fun x => match x.1 with
    | .config i k _ _ _ _ _ _ => i.toNat = index && k.toNat = sub
    | _ => false) l

/-- CHANGE_ARM: the record of a change is durable: the change is armed and saved, or came too late; the change of
a record that failed is forgotten (R348). -/
def execChangeArm (index : BitVec 16) (sub : Byte) (s : State) : Res :=
  .next (
    match s.dict.changes.find? fun c => c.index = index.toNat && c.sub = sub.toNat && !c.armed with
    | none => s
    | some c =>
      match takeConfig c.index c.sub s.press.devDone with
      | some (_, rest) =>
        let s := s.onPress fun p => { p with devDone := rest }
        if c.efftick ≤ s.tickNo then (s.dropChange c.index c.sub).abortWrite c.serves 0x08000106
        else (((s.armEntry c).noteArmed c).saveVersion c.index c.sub c.efftick c.value).writeOk c.serves
      | none =>
        match takeConfig c.index c.sub s.press.devFailed with
        | some (_, rest) => (s.onPress fun p => { p with devFailed := rest }).dropChange c.index c.sub
        | none => s)

/-- A change takes effect at its boundary (R348, R354). -/
def State.effectChange (s : State) (c : Change) : State :=
  let s := s.dropChange c.index c.sub
  if c.index = 0x3000 then s.modeUpdate (leNat c.value)
  else if c.index = 0x2000 then s
  else s.onDict fun d => { d with vals := d.vals.set (c.index, c.sub) c.value }

/-- The changes due at the boundary that starts the current tick (R348). -/
def State.changesBoundary (s : State) : State :=
  (s.dict.changes.filter fun c => c.armed && decide (c.efftick ≤ s.tickNo)).foldl State.effectChange s

end Sys2Proof.Machine
end

