-- ==== Sys2Proof/Machine/Trust.lean ====
section
/-! DEFINITION. Certificates, role sessions, attestation, Rinse, debug unlock (R389-R391, R399-R404, R409,
R412). -/

namespace Sys2Proof.Machine

/-! ## Certificates -/

/-- The length of a certificate (R391). -/
def certBytes : Nat := 5421

/-- The keys of a certificate (R391). -/
def certEd (c : Bytes) : Bytes := sliceAt c 64 32
/-- The ML-DSA-65 key of a certificate. -/
def certMl (c : Bytes) : Bytes := sliceAt c 96 1952
/-- KIND, ROLE, SUBJECT and ISSUER of a certificate (R391). -/
def certKind (c : Bytes) : Nat := fieldAt c 9 1
/-- ROLE of a certificate. -/
def certRole (c : Bytes) : Nat := fieldAt c 10 1
/-- SUBJECT of a certificate. -/
def certSubject (c : Bytes) : Bytes := sliceAt c 16 16
/-- ISSUER of a certificate. -/
def certIssuer (c : Bytes) : Bytes := sliceAt c 32 16

/-- The Moabo root's public keys (R389). -/
def rootEd : Bytes := genBytes 32 Config.rootKeys
/-- The root's ML-DSA-65 key. -/
def rootMl : Bytes := genBytes 1952 fun i => Config.rootKeys (32 + i)
/-- The Moabo firmware key pair's public keys (R389). -/
def firmwareEd : Bytes := genBytes 32 fun i => Config.rootKeys (1984 + i)
/-- The firmware key pair's ML-DSA-65 key. -/
def firmwareMl : Bytes := genBytes 1952 fun i => Config.rootKeys (2016 + i)

/-- The TAI of a header with TIMEVALID, newest first (R391). -/
def newestTai : List Rec → Option Nat
  | [] => none
  | r :: l => match r.body with
    | .header h => if h.timevalid then some h.tai else newestTai l
    | _ => newestTai l

/-- Now, in minutes since 2020-01-01 TAI (R391). -/
def State.nowMinutes (s : State) : Option Nat :=
  if s.timeValid then some (taiMinutes s.tick.tai) else (newestTai s.newestFirst).map taiMinutes

/-- Now lies in a certificate's window; with no time, the window is not checked in Manufactured and Enrolled
(R391). -/
def State.inWindowNow (s : State) (c : Bytes) : Bool :=
  match s.nowMinutes with
  | some n => fieldAt c 48 4 ≤ n && (fieldAt c 52 4 = 0xFFFFFFFF || decide (n < fieldAt c 52 4))
  | none => s.lifecycle = lcManufactured || s.lifecycle = lcEnrolled

/-- A certificate's fixed fields (R391). -/
def certForm (c : Bytes) (kind role : Nat) : Bool :=
  c.length = certBytes && c.take 8 = ascii "PORTUMCT" && fieldAt c 8 1 = 1 && certKind c = kind && certRole c = role &&
  fieldAt c 11 1 = 0 && fieldAt c 56 8 = 0 && (kind = 3 || fieldAt c 12 4 = 0)

/-- A certificate valid under R391 with its issuer's keys and SUBJECT. -/
def State.certValid (s : State) (c : Bytes) (kind role : Nat) (ed ml issuer : Bytes) : Except Nat Unit :=
  if !certForm c kind role || certIssuer c != issuer || !s.inWindowNow c then .error 0x08000103
  else s.verify2 ed ml (c.take 2048) (sliceAt c 2048 64) (sliceAt c 2112 3309) (ascii "JV7128-CT")

/-- An anchor certificate: KIND 4, issued by itself (R391). -/
def State.anchorValid (s : State) (c : Bytes) : Except Nat Unit :=
  s.certValid c 4 0 (certEd c) (certMl c) (certSubject c)

/-- A public key of a slot (R148). -/
def State.slotPublic (s : State) (k : Nat) : Bytes := publicOf (s.key k).ty (s.keyBytes k)

/-- Both signatures of the key pair in slots `k` and `k + 1` (R146). -/
def State.signBoth (s : State) (k : Nat) (m ctx : Bytes) : Bytes × State :=
  let (r, s) := s.draw
  (edSign (s.keyBytes k) m ++ mldsaSigned (s.keyBytes (k + 1)) ctx m r, s)

/-- A certificate that the device identity key signs (R391, R399, R401); its validity window, which no rule
states, is free. -/
def State.issueCert (s : State) (kind keygen : Nat) (issuer ed ml : Bytes) : Bytes × State :=
  let (r, s) := s.draw
  let b := ascii "PORTUMCT" ++ leBytes 1 1 ++ leBytes 1 kind ++ zeros 2 ++ leBytes 4 keygen ++
    leBytes 16 Config.dieSerial.toNat ++ issuer ++ leBytes 8 (Config.draw r).toNat ++ zeros 8 ++ ed ++ ml
  let (x, s) := s.signBoth 0 b (ascii "JV7128-CT")
  (b ++ x, s)

/-- SUBJECT of the device's own certificates (R391). -/
def deviceSubject : Bytes := leBytes 16 Config.dieSerial.toNat

/-- A key of 32 drawn bytes in a slot, with its type (R152). -/
def State.drawKey (s : State) (k ty : Nat) : State :=
  let (r, s) := s.draw
  let s := s.raiseKgen k
  s.setKey k { s.key k with ty := ty, key := some (bvBytes 32 (Config.draw r)) }

/-- A new key pair in slots `k` and `k + 1` (R399, R401). -/
def State.drawPair (s : State) (k : Nat) : State := (s.drawKey k 1).drawKey (k + 1) 2

/-- The attestation certificate (R401, R407). -/
def State.issueAttestation (s : State) : State :=
  let (c, s) := s.issueCert 2 0 deviceSubject (s.slotPublic 4) (s.slotPublic 5)
  s.onTrust fun t => { t with attCert := some c }

/-- The evidence certificate of a generation (R401). -/
def State.issueEvidence (s : State) (g : Nat) : State :=
  let (c, s) := s.issueCert 3 g deviceSubject (s.slotPublic 2) (s.slotPublic 3)
  s.onTrust fun t => { t with evCerts := t.evCerts ++ [c] }

/-- The device identity and attestation keys at the first boot (R399). -/
def State.makeIdentity (s : State) : State :=
  let s := (s.drawPair 0).drawPair 4
  let (c, s) := s.issueCert 1 0 (zeros 16) (s.slotPublic 0) (s.slotPublic 1)
  (s.onTrust fun t => { t with idCert := some c }).issueAttestation

/-! ## Sessions end -/

/-- Every role session, challenge and debug unlock ends (R403, R409). -/
def State.endSessions (s : State) : State := s.onTrust fun t => { t with roles := emptyMap, chals := emptyMap }

/-- A core that debug held runs again (R436). -/
def CoreS.resume (c : CoreS) : CoreS := { c with halted := false, haltReq := false, stepping := false }

/-- Debug is locked, and every halted core resumes (R409, R436). -/
def State.lockDebug (s : State) : State :=
  let s := (s.setF .TT_DBG_UNLOCKED 0).setF .TT_DBG_SCOPE 0
  { s with cores := s.cores.mapVal CoreS.resume }

/-- A change of lifecycle state ends sessions and debug (R403, R409). -/
def State.stateChanged (s : State) : State := s.endSessions.lockDebug

/-- DEBUG_UNLOCK_END: the unlock ends at the start of tick UNTIL (R409). -/
def execDebugUnlockEnd (s : State) : Res :=
  .next (if s.fb .TT_DBG_UNLOCKED && decide (s.trust.debugUntil ≤ s.tickNo) then s.lockDebug else s)

/-! ## Role sessions -/

/-- A read of 0x4001 draws a challenge, and ends the instance's session (R402). -/
def State.newChallenge (s : State) (i : Inst) : State :=
  let (r, s) := s.draw
  let x := (Config.draw r).toNat
  s.onTrust fun t => { t with
    roles := t.roles.erase i
    chals := t.chals.set i { nonce := leBytes 32 x, id := bitsOf x 256 64, tick := s.tickNo, since := s.ns } }

/-- The 48 bytes of a challenge (R402). -/
def Challenge.bytes (c : Challenge) : Bytes := c.nonce ++ leBytes 8 c.id ++ leBytes 8 c.tick

/-- Roles admitted in a lifecycle state (R407). -/
def roleAdmitted (lcs role : Nat) : Bool :=
  if lcs = lcManufactured || lcs = lcEnrolled then role = roleAuditor || role = roleVendor
  else if lcs = lcRetired then false
  else 1 ≤ role && role ≤ 4

/-- The issuer's keys and SUBJECT for a role certificate (R391, R402); `anchor` is the one the response carries. -/
def State.roleIssuer (s : State) (role : Nat) (anchor : Option Bytes) : Except Nat (Bytes × Bytes × Bytes) :=
  let own (c : Bytes) : Bytes × Bytes × Bytes := (certEd c, certMl c, certSubject c)
  if role = roleVendor || s.lifecycle = lcManufactured then .ok (rootEd, rootMl, zeros 16)
  else if s.lifecycle = lcEnrolled then
    match anchor with
    | some c => match s.anchorValid c with
      | .ok _ => .ok (own c)
      | .error e => .error e
    | none => .error 0x08000103
  else match s.trust.anchor with
    | some c => .ok (own c)
    | none => .error 0x08000103

/-- A challenge lasts 60 s (R402). -/
def Challenge.expired (c : Challenge) (now : Nat) : Bool := decide (c.since + 60000000000 < now)

/-- A response to 0x4002, checked in order (R402). -/
def State.takeResponse (s : State) (i : Inst) (b : Bytes) (old : Bool) : Except Nat State :=
  let enrolled := decide (s.lifecycle = lcEnrolled)
  let ofs := if enrolled then 8 + certBytes else 8
  let total := ofs + certBytes + 3373
  let role := fieldAt b 0 1
  let anchor := if enrolled then some (sliceAt b 8 certBytes) else none
  let cert := sliceAt b ofs certBytes
  let signed := ofs + certBytes
  if b.length < total then .error 0x06070013
  else if total < b.length then .error 0x06070012
  else if fieldAt b 1 7 != 0 then .error 0x06090030
  else match s.trust.chals.find i with
    | none => .error 0x08000104
    | some c =>
      if old || c.expired s.ns then .error 0x08000104
      else if !roleAdmitted s.lifecycle role then .error 0x08000108
      else match s.roleIssuer role anchor with
        | .error e => .error e
        | .ok (ed, ml, subject) =>
          match s.certValid cert 5 role ed ml subject with
          | .error e => .error e
          | .ok _ =>
            match s.verify2 (certEd cert) (certMl cert) (c.bytes ++ b.take signed) (sliceAt b signed 64)
                (sliceAt b (signed + 64) 3309) (ascii "JV7128-RS") with
            | .error e => .error e
            | .ok _ => .ok (s.onTrust fun t => { t with
                chals := t.chals.erase i
                roles := t.roles.set i { role := role, id := c.id, edPub := certEd cert, mlPub := certMl cert, anchor := anchor } })

/-- A write to 0x4003 ends the instance's session (R403). -/
def State.endRole (s : State) (i : Inst) : State := s.onTrust fun t => { t with roles := t.roles.erase i }

/-- ROLE_SESSION_TIMEOUT: 600 s with no write on the instance (R403). -/
def execRoleSessionTimeout (i : Inst) (s : State) : Res := .next (s.endRole i)

/-! ## Attestation -/

/-- SHA-512 of bytes 0 to 251 of the header at PR_LASTSIG, zero where there is none (R404). -/
def State.lastSigHash (s : State) : Bytes :=
  match s.recAt (s.f .PR_LASTSIG_LASTSIG) with
  | some r => leBytes 64 (sha512 r.head).toNat
  | none => zeros 64

/-- LHASH: the values in force of the class L entries that hold one (R404). -/
def State.lHash (s : State) : Bytes :=
  leBytes 64 (sha512 (lEntries.flatMap fun x => match lookupEntry x.1 x.2 with
    | .ok e => s.entryBytes none x.1 x.2 e
    | .error _ => [])).toNat

/-- Bytes 0 to 423 of a quote (R404). -/
def State.quoteBody (s : State) : Bytes :=
  let flags := b2n (s.fb .TT_DBG_UNLOCKED) + 2 * s.f .TT_BOOT_TRIAL + 4 * s.f .PR_STAT_SEALED + 8 * b2n s.timeValid
  ascii "PORTUMAQ" ++ leBytes 1 1 ++ leBytes 1 s.lifecycle ++ leBytes 1 flags ++ leBytes 1 (s.f .TT_BOOT_SOURCE) ++
  leBytes 1 (s.f .TT_ARB_FWCTR) ++ leBytes 1 (s.f .TT_ARB_APPCTR) ++ zeros 2 ++ s.trust.attNonce.getD (zeros 32) ++
  leBytes 64 s.devKey.toNat ++ fitTo 64 s.trust.fwHash ++ leBytes 64 (sha512 s.trust.appHashes.flatten).toNat ++
  leBytes 8 s.tickNo ++ leBytes 8 (if s.timeValid then s.tick.tai else 0) ++ leBytes 8 s.nextLsn ++
  leBytes 8 (s.f .PR_LASTSIG_LASTSIG) ++ s.lastSigHash ++ leBytes 4 s.trust.keygen ++ leBytes 4 (s.f .WT_SEQ_TABLESEQ) ++
  leBytes 8 (s.f .FG_EPOCH_EPOCHS) ++ leBytes 1 (s.f .FG_CTRL_MODE) ++ zeros 7 ++ s.lHash

/-- A quote is made for an instance; in Retired both signature fields are zero (R404). -/
def State.newQuote (s : State) (i : Inst) : State :=
  let b := s.quoteBody
  let (x, s) := if s.lifecycle = lcRetired then (zeros 3373, s) else s.signBoth 4 b (ascii "JV7128-AQ")
  s.onTrust fun t => { t with quotes := t.quotes.set i (b ++ x) }

/-! ## Rinse -/

/-- A bank without its salt. -/
def Bank.rinse (b : Bank) : Bank := { b with salt := 0 }

/-- Key commands' jobs that wait for a place end (R412, R463). -/
def State.dropKeyJobs (s : State) : State :=
  s.seals.keyJobs.foldl State.dropKeyJob { s with seals := { s.seals with keyJobs := [] } }

/-- Rinse (R412): the VBAT key, every Seal job, every slot, the Watch salts, every role session. -/
def State.rinse (s : State) : State :=
  let s := ((numsFrom 0 8).foldl (fun s e => s.faultEngine e false) s).dropKeyJobs
  let s := { s with seals := { s.seals with keys := emptyMap, eng := emptyMap } }
  let s := s.onWatch fun w => { w with active := w.active.rinse, next := w.next.rinse }
  let s := s.onTrust fun t => { t with latched := false }
  s.endSessions

/-- A write of 1 to TT_RINSE.START (R412, R414). -/
def State.startRinse (s : State) : State := s.rinse.setF .TT_RINSE_START 1

/-- RINSE_START: the trust block is the Steward's alone (R20, R412, R414). -/
def execRinseStart (m : Master) (s : State) : Res :=
  .next (s.present m 0x40D00030 fun s => if Master.isSteward m then s.startRinse else s)

/-! ## Debug unlock -/

/-- The length of a debug token (R409). -/
def tokenBytes : Nat := 3469

/-- What the Steward does once a record of its own is durable is kept (R406, R409). -/
def State.awaitRecord (s : State) (v : Serves) (a : AfterRec) : State :=
  s.onTrust fun t => { t with awaits := t.awaits ++ [(v, a)] }

/-- A debug token's record waits (R347 row 9). -/
def State.tokenPending (s : State) : Bool := s.trust.awaits.any fun x => match x.2 with
  | .token _ _ => true
  | .transition _ _ => false

/-- A debug token, checked, and its record submitted; the unlock follows it (R347, R409; log entry 18). -/
def State.takeToken (s : State) (r : RoleSess) (b : Bytes) (v : Serves) : Except Nat State :=
  let scope := fieldAt b 9 1
  if b.length < tokenBytes then .error 0x06070013
  else if tokenBytes < b.length then .error 0x06070012
  else if b.take 8 != ascii "PORTUMDU" || fieldAt b 8 1 != 1 || fieldAt b 10 6 != 0 || scope = 0 || 3 < scope then .error 0x06090030
  else if fieldAt b 16 8 != r.id then .error 0x08000104
  else if fieldAt b 32 64 != s.devKey.toNat then .error 0x06090030
  else if s.tokenPending then .error 0x08000109
  else match s.verify2 r.edPub r.mlPub (b.take 96) (sliceAt b 96 64) (sliceAt b 160 3309) (ascii "JV7128-DU") with
    | .error c => .error c
    | .ok _ =>
      if fieldAt b 24 8 ≤ s.tickNo then .error 0x08000106
      else s.awaitRecord v (.token scope (fieldAt b 24 8)) |>.submitDev (.config 0x4030 0 (BitVec.ofNat 8 roleVendor) s.tickNo
        (BitVec.ofNat 64 r.id) (sha512 b) 96 (b.take 96)) v

/-- The unlock, once its record is durable, unless its UNTIL has come (R409). -/
def State.unlock (s : State) (scope until_ : Nat) (v : Serves) : State :=
  if until_ ≤ s.tickNo then s.abortWrite v 0x08000106
  else (((s.setF .TT_DBG_UNLOCKED 1).setF .TT_DBG_SCOPE scope).onTrust fun t => { t with debugUntil := until_ }).writeOk v

end Sys2Proof.Machine
end

