-- ==== Sys2Proof/Machine/Images.lean ====
section
/-! DEFINITION. Images, banks and their update, confirmation, the start of the application images (R393-R398). -/

namespace Sys2Proof.Machine

/-! ## Images -/

/-- The bytes of a place that holds images, by offset and number. -/
abbrev Reader := Nat → Nat → Bytes

/-- The length of an image header (R393). -/
def imageHead : Nat := 3584

/-- The size of a bank (R17). -/
def bankSize : Nat := 8388608

/-- An image found at an offset of a bank: KIND, SVN, VERSION, LEN, ENTRY, LOADPHYS, BODYHASH (R393). -/
structure Image where
  ofs : Nat
  kind : Nat
  svn : Nat
  version : Nat
  len : Nat
  entry : Nat
  load : Nat
  hash : Bytes
  deriving DecidableEq, Repr

/-- The image whose header stands at an offset (R393). -/
def imageAt (rd : Reader) (ofs : Nat) : Image :=
  let h := rd ofs 112
  { ofs := ofs, kind := fieldAt h 9 1, svn := fieldAt h 10 1, version := fieldAt h 12 4, len := fieldAt h 16 4
    entry := fieldAt h 20 4, load := fieldAt h 24 8, hash := sliceAt h 48 64 }

/-- The header's own fields keep R393's form for an image of a KIND. -/
def imageForm (rd : Reader) (x : Image) (kind : Nat) : Bool :=
  let h := rd x.ofs imageHead
  h.take 8 = ascii "PORTUMIM" && fieldAt h 8 1 = 1 && x.kind = kind && decide (x.svn ≤ 63) && fieldAt h 11 1 = 0 &&
  decide (1 ≤ x.len) && decide (x.len ≤ 8385024) && x.entry % 4 = 0 && decide (x.entry < x.len) &&
  (if kind = 2 then x.load % 16 = 0 && inGeneralDram x.load && inGeneralDram (x.load + x.len - 1) else x.load = 0) &&
  (sliceAt h 3485 99).all (· = 0)

/-- The counter of an image's KIND (R395). -/
def State.svnFloor (s : State) (kind : Nat) : Nat := if kind = 2 then s.f .TT_ARB_APPCTR else s.f .TT_ARB_FWCTR

/-- The signers of a KIND: the anchor keys installed at commissioning, or the firmware key pair (R393). -/
def State.imageKeys (s : State) (kind : Nat) : Bytes × Bytes :=
  if kind = 2 then (match s.trust.anchor with
    | some c => (certEd c, certMl c)
    | none => ([], []))
  else (firmwareEd, firmwareMl)

/-- R394 in order, with the abort codes of R397 step 1; `limit` is the end of the place. -/
def State.checkImage (s : State) (rd : Reader) (limit : Nat) (x : Image) (kind : Nat) : Except Nat Unit :=
  let h := rd x.ofs imageHead
  let dev := sliceAt h 32 16
  let k := s.imageKeys kind
  if !imageForm rd x kind || decide (limit < x.ofs + imageHead + x.len) ||
      !(dev.all (· = 0) || dev = leBytes 16 (s.devKey.toNat % 2 ^ 128)) then .error 0x06090030
  else if x.svn < s.svnFloor kind then .error 0x06090032
  else match s.verify2 k.1 k.2 (h.take 112) (sliceAt h 112 64) (sliceAt h 176 3309) (ascii "JV7128-IM") with
    | .error c => .error c
    | .ok _ =>
      if leBytes 64 (sha512 (rd (x.ofs + imageHead) x.len)).toNat = x.hash then .ok () else .error 0x08000103

/-- Where the image after `x` starts: a multiple of 4 KiB (R393). -/
def Image.next (x : Image) : Nat := 4096 * divUp (x.ofs + imageHead + x.len) 4096

/-- The images of a bank from an offset, each checked: a MAGIC of zero ends the list (R393, R394). -/
def State.imagesFrom (s : State) (rd : Reader) (kind ofs : Nat) : Nat → Except Nat (List Image)
  | 0 => .ok []
  | n + 1 =>
    if bankSize ≤ ofs || (rd ofs 8).all (· = 0) then .ok []
    else
      let x := imageAt rd ofs
      match s.checkImage rd bankSize x kind with
      | .error c => .error c
      | .ok _ => (s.imagesFrom rd 2 x.next n).map (x :: ·)

/-- Every image of a bank: the first of KIND 1, the others of KIND 2 (R393, R397 step 1). -/
def State.checkBank (s : State) (rd : Reader) : Except Nat (List Image) :=
  if (rd 0 8).all (· = 0) then .error 0x06090030 else s.imagesFrom rd 1 0 2049

/-- The base of a bank (R17). -/
def bankBase (bank : Nat) : Nat := 0x10000000 + bank * bankSize

/-- The bytes of a bank. -/
def State.bankReader (s : State) (bank : Nat) : Reader := fun ofs n => (numsFrom (bankBase bank + ofs) n).map s.bankByte

/-- The bytes of the recovery flash (R381). -/
def flashReader : Reader := fun ofs n => (numsFrom ofs n).map Config.flashByte

/-- A bank still holds the firmware the device was made with: an accepted image of KIND 1 and no other (log entry
9). -/
def State.bankShipped (s : State) (bank : Nat) : Bool :=
  s.trust.banks.get .shipped bank = .shipped &&
    !s.trust.fwStores.keys.any fun a => bankBase bank ≤ a && decide (a < bankBase bank + bankSize)

/-- The image of the firmware a device is made with (log entry 9). -/
def shippedImage : Image :=
  { ofs := 0, kind := 1, svn := 0, version := Config.firmwareVersion.toNat, len := bankSize - imageHead, entry := 0, load := 0
    hash := leBytes 64 Config.firmwareHash.toNat }

/-- The first KIND 1 image of a bank, if R394 accepts it. -/
def State.bankFirmware (s : State) (bank : Nat) : Option Image :=
  if s.bankShipped bank then some shippedImage
  else
    let x := imageAt (s.bankReader bank) 0
    match s.checkImage (s.bankReader bank) bankSize x 1 with
    | .ok _ => some x
    | .error _ => none

/-- The KIND 3 image of the recovery flash, if R394 accepts it. -/
def State.flashFirmware (s : State) : Option Image :=
  let x := imageAt flashReader 0
  match s.checkImage flashReader bankSize x 3 with
  | .ok _ => some x
  | .error _ => none

/-- The KIND 2 images of a bank, if R394 accepts all of them (R396 step 1). -/
def State.bankApps (s : State) (bank : Nat) : Option (List Image) :=
  if s.bankShipped bank then some []
  else match s.imagesFrom (s.bankReader bank) 2 (imageAt (s.bankReader bank) 0).next 2048 with
    | .ok l => some l
    | .error _ => none

/-! ## Delivery -/

/-- The bank that is not active. -/
def State.idleBank (s : State) : Nat := 1 - s.f .TT_BOOT_ACTIVE

/-- A bank gets new content: bytes that stores have written there are gone (R397 step 2). -/
def State.writeBank (s : State) (bank : Nat) (b : Bytes) : State :=
  s.onTrust fun t => { t with
    banks := t.banks.set bank (.written b)
    fwStores := t.fwStores.keep fun a => !(decide (bankBase bank ≤ a) && decide (a < bankBase bank + bankSize)) }

/-- The bytes of a content, zero above it. -/
def contentReader (b : Bytes) : Reader := fun ofs n => fitTo n (sliceAt b ofs n)

/-- The whole content of a bank update: every image checked, the inactive bank written, the record submitted
(R397 steps 1 to 4). -/
def State.takeBank (s : State) (r : RoleSess) (b : Bytes) (v : Serves) : Except Nat State :=
  if s.trust.delivery.isSome then .error 0x08000109
  else match s.checkBank (contentReader b) with
    | .error c => .error c
    | .ok _ =>
      let t := s.tickNo + 2
      let h := sha512 b
      match (s.writeBank s.idleBank b).submitDev (.config 0x4070 0 (BitVec.ofNat 8 roleInstaller) t (BitVec.ofNat 64 r.id) h
          (BitVec.ofNat 16 (min b.length 32767 + 32768)) (leBytes 64 h.toNat)) v with
      | .error c => .error c
      | .ok s => .ok (s.onTrust fun x => { x with delivery := some { serves := v, efftick := t, active := false } })

/-- The record of the update under way among durable or failed records. -/
def takeBankRecord (l : List (DevRec × Serves)) : Option ((DevRec × Serves) × List (DevRec × Serves)) := takeConfig 0x4070 0 l

/-- BANK_ACTIVATE: the record is durable, so the new bank is active with a trial pending; an update whose record
failed is over (R397 step 5). -/
def execBankActivate (s : State) : Res :=
  .next (
    match s.trust.delivery with
    | none => s
    | some d =>
      if d.active then s
      else match takeBankRecord s.press.devDone with
        | some (_, rest) =>
          let s := s.onPress fun p => { p with devDone := rest }
          let s := ((s.setF .TT_BOOT_ACTIVE s.idleBank).setF .TT_BOOT_TRIAL 1).setF .TT_BOOT_TRIED 0
          (s.onTrust fun t => { t with delivery := some { d with active := true } }).writeOk d.serves
        | none =>
          match takeBankRecord s.press.devFailed with
          | some (_, rest) =>
            (s.onPress fun p => { p with devFailed := rest }).onTrust fun t => { t with delivery := none }
          | none => s)

/-! ## Confirmation -/

/-- Confirmation: TRIAL and TRIED clear, and the counters rise to the SVNs of the running bank (R398, R395). -/
def State.confirmBoot (s : State) : State :=
  if s.fb .TT_BOOT_TRIAL then
    let s := (s.setF .TT_BOOT_TRIAL 0).setF .TT_BOOT_TRIED 0
    let s := s.setF .TT_ARB_FWCTR (max (s.f .TT_ARB_FWCTR) s.trust.fwSvn)
    match s.trust.appSvn with
    | some n => s.setF .TT_ARB_APPCTR (max (s.f .TT_ARB_APPCTR) n)
    | none => s
  else s

/-- BOOT_CONFIRM: a write of 1 to TT_BOOT.CONFIRM, which the Steward makes once HM_STAT.READY reads 1, or step 7 of
R392 completes; the trust block is the Steward's alone (R398, R414). -/
def execBootConfirm (m : Master) (s : State) : Res :=
  .next (s.present m 0x40D00008 fun s => if Master.isSteward m then s.confirmBoot else s)

/-! ## Application images -/

/-- A body copied to LOADPHYS, where the Guard admits the Steward, and its PEGGED code entry with OWNER 1 (R396 steps 2 and 3): its INDEX. -/
def State.loadImage (s : State) (bank : Nat) (x : Image) : Option Nat × State :=
  let s := s.stewardStore x.load (s.bankReader bank (x.ofs + imageHead) x.len)
  match s.takeFree with
  | none => (none, s)
  | some (i, s) =>
    (some i, s.setEntry i { base := x.load, limit := x.len - 1, gen := (s.entry i).gen, owner := 1, ty := 2, valid := true,
                            pegged := true, colour := s.pageColour x.load, maxRights := 2 ^ rL + 2 ^ rX })

/-- Every image loaded in order, with the INDEXes of their entries. -/
def State.loadImages (s : State) (bank : Nat) : List Image → List (Option Nat) × State
  | [] => ([], s)
  | x :: l =>
    let r := s.loadImage bank x
    let q := r.2.loadImages bank l
    (r.1 :: q.1, q.2)

/-- An entry register that names an offset of an entry (R222). -/
def entryRegister (index gen ofs : Nat) : Word :=
  BitVec.ofNat 64 ((index % 2 ^ 22) * 2 ^ 40 + (gen % 2 ^ 16) * 2 ^ 24 + (ofs / 4 % 2 ^ 22) * 4)

/-- ENTRY_M of every core, and a Steward Request on each (R396 steps 4 and 5). -/
def State.startCores (s : State) (w : Word) : State :=
  (numsFrom 0 128).foldl (fun (s : State) k => s.onCore k fun c => { c with crs := c.crs.set 15 w, pSreq := true }) s

/-- Step 8 of R392: the application images are checked, loaded and started; false where one fails (R396). -/
def State.startApps (s : State) : Bool × State :=
  let bank := s.f .TT_BOOT_SOURCE
  if 2 ≤ bank then (true, s)
  else match s.bankApps bank with
    | none => (false, s)
    | some l =>
      let r := s.loadImages bank l
      let s := r.2.onTrust fun t => { t with
        appHashes := l.map Image.hash
        appSvn := l.foldl (fun o x => some (match o with
          | some n => min n x.svn
          | none => x.svn)) none }
      match l, r.1 with
      | x :: _, some i :: _ => (true, s.startCores (entryRegister i (s.entry i).gen x.entry))
      | _, _ => (true, s)

/-- Steps 8 and 9 of R392 in Commissioned and Service: the images, AM_CTRL.ENABLE, the Press and the Hamper; a
device whose image fails leaves the Hamper disabled (R396). -/
def State.startService (s : State) : State :=
  let r := s.startApps
  ((r.2.setF .AM_CTRL_ENABLE 1).onTrust fun t => { t with pressDue := true, enableDue := r.1 }).enableService

end Sys2Proof.Machine
end

