-- ==== Sys2Proof/Machine/Lifecycle.lean ====
section
/-! DEFINITION. Lifecycle transitions, key rotation, retirement (R400, R405-R408). -/

namespace Sys2Proof.Machine

/-- PLEN of a transition request (R406). -/
def ltPayLen (b : Bytes) : Nat := fieldAt b 96 4

/-- The payload of a transition request (R406). -/
def ltPayload (b : Bytes) : Bytes := sliceAt b 128 (ltPayLen b)

/-- The transitions of R407. -/
def transitionOk (src dst : Nat) : Bool :=
  (src = lcManufactured && dst = lcEnrolled) || (src = lcEnrolled && dst = lcCommissioned) ||
  ((src = lcCommissioned || src = lcService) && (dst = lcCommissioned || dst = lcService)) ||
  (src != lcRetired && dst = lcRetired)

/-- The request's own fields keep R406's form. -/
def transitionForm (b : Bytes) : Bool :=
  b.take 8 = ascii "PORTUMLT" && fieldAt b 8 1 = 1 && fieldAt b 11 1 = 0 && (sliceAt b 100 28).all (· = 0) &&
  decide (ltPayLen b ≤ 16384) && (fieldAt b 10 1 != lcRetired || fieldAt b 24 8 = 0)

/-- A length that disagrees with what the request declares (R347 row 7). -/
def transitionLength (b : Bytes) : Option Nat :=
  if b.length < 128 then some 0x06070013 else if b.length != 128 + ltPayLen b + 3373 then some 0x06070010 else none

/-- The payload a transition requires (R407). -/
def State.checkPayload (s : State) (r : RoleSess) (src dst : Nat) (p : Bytes) : Except Nat Unit :=
  if dst = lcEnrolled then
    if certEd p != s.slotPublic 0 || certMl p != s.slotPublic 1 then .error 0x08000103
    else s.certValid p 1 0 rootEd rootMl (zeros 16)
  else if src = lcEnrolled && dst = lcCommissioned then
    match r.anchor with
    | some a => if p = a then s.anchorValid a else .error 0x08000103
    | none => .error 0x08000103
  else if p.isEmpty then .ok () else .error 0x06090030

/-- A rotation is under way (R347 row 9). -/
def State.rotationPending (s : State) : Bool := s.trust.rotateAt.isSome || s.trust.rotating.isSome

/-- The record of an earlier transition waits (R347 row 9). -/
def State.transitionPending (s : State) : Bool := s.trust.awaits.any fun x => match x.2 with
  | .transition _ _ => true
  | .token _ _ => false

/-- The checks of a transition request, in order (R400, R406, R407). -/
def State.checkTransition (s : State) (r : RoleSess) (b : Bytes) (vbat : Bool) : Except Nat Unit :=
  let src := fieldAt b 9 1
  let dst := fieldAt b 10 1
  let n := 128 + ltPayLen b
  match transitionLength b with
  | some c => .error c
  | none =>
    if !transitionForm b then .error 0x06090030
    else if !sessionOk r (fieldAt b 16 8) (fieldAt b 12 4) then .error 0x08000104
    else if src != s.lifecycle || !transitionOk src dst then .error 0x08000108
    else if fieldAt b 32 64 != s.devKey.toNat then .error 0x06090030
    else if s.trust.retiring.isSome || s.transitionPending || (src = dst && s.rotationPending) then .error 0x08000109
    else match s.checkPayload r src dst (ltPayload b) with
      | .error c => .error c
      | .ok _ =>
        match s.verify2 r.edPub r.mlPub (b.take n) (sliceAt b n 64) (sliceAt b (n + 64) 3309) (ascii "JV7128-LT") with
        | .error c => .error c
        | .ok _ =>
          if s.tooSoon (fieldAt b 24 8) then .error 0x08000106
          else if src = lcEnrolled && dst = lcCommissioned && !vbat then .error 0x08000108
          else if src = lcEnrolled && dst = lcCommissioned && s.seals.entFail then .error 0x08000000
          else .ok ()

/-- The lifecycle record of a transition (R100). -/
def State.transitionRecord (s : State) (r : RoleSess) (b : Bytes) : DevRec :=
  .lifecycle (BitVec.ofNat 8 (fieldAt b 9 1)) (BitVec.ofNat 8 (fieldAt b 10 1)) (BitVec.ofNat 64 r.id) (sha512 b) s.devKey

/-- Manufactured to Enrolled (R407). -/
def State.enroll (s : State) (cert : Bytes) : State :=
  ((s.onTrust fun t => { t with idCert := some cert }).issueAttestation.onTrust fun t => { t with enrolled := true }).stateChanged

/-- Enrolled to Commissioned (R400, R401, R407). -/
def State.commission (s : State) (anchor : Bytes) : State :=
  let s := s.onTrust fun t => { t with latched := true, anchor := some anchor, keygen := 1 }
  let s := (s.drawPair 2).issueEvidence 1
  ((s.onTrust fun t => { t with commissioned := true }).stateChanged).startService

/-- Commissioned and Service (R407). -/
def State.setService (s : State) (on : Bool) : State := (s.onTrust fun t => { t with service := on }).stateChanged

/-- Rotation is armed for its EFFTICK (R405). -/
def State.armRotation (s : State) (efftick : Nat) : State := s.onTrust fun t => { t with rotateAt := some (s.effTick efftick) }

/-- Retirement begins: the Hamper and the Press take nothing more (R408 step 1). -/
def State.disableService (s : State) : State :=
  ((s.setF .HM_CTRL_ENABLE 0).setF .PR_CTRL_ENABLE 0).onTrust fun t => { t with pressDue := false, enableDue := false }

/-- The record of a retirement is durable: the block closes with SEALED at the next boundary (R408 steps 2 and 3). -/
def State.beginRetire (s : State) (v : Serves) : State :=
  (s.onPress fun p => { p with sealNext := true }).onTrust fun t => { t with retiring := some v }

/-- The effects of a transition whose record is durable, and its WRITE-OK once it is in force (R407, R347). -/
def State.transitionEffect (s : State) (dst : Nat) (b : Bytes) (v : Serves) : State :=
  if dst = lcRetired then s.beginRetire v
  else if dst = s.lifecycle then (s.armRotation (fieldAt b 24 8)).writeOk v
  else if dst = lcEnrolled then (s.enroll (ltPayload b)).writeOk v
  else if dst = lcService then (s.setService true).writeOk v
  else if s.lifecycle = lcService then (s.setService false).writeOk v
  else (s.commission (ltPayload b)).writeOk v

/-- A transition request: its checks, and its record submitted; its effects follow the record (R406-R408; log entry
18). -/
def State.takeTransition (s : State) (i : Inst) (r : RoleSess) (b : Bytes) (vbat : Bool) (v : Serves) : Except Nat State :=
  match s.checkTransition r b vbat with
  | .error c => .error c
  | .ok _ =>
    let dst := fieldAt b 10 1
    let t := if dst = lcRetired then s.disableService else s
    ((t.noteCrseq i r (fieldAt b 12 4)).awaitRecord v (.transition dst b)).submitDev (s.transitionRecord r b) v

/-! ## Records of the Steward's own that are durable -/

/-- A record that a transition or an unlock waits for. -/
def isAwaited : DevRec → Bool
  | .lifecycle _ _ _ _ _ => true
  | .config i _ _ _ _ _ _ _ => i = 0x4030
  | .watchDelta _ _ _ _ _ => false

/-- The Steward acts on the oldest durable record of its own that something waits for. -/
def State.actOn (s : State) (x : DevRec × Serves) : State :=
  match takeFirst (fun a : Serves × AfterRec => decide (a.1 = x.2)) s.trust.awaits with
  | none => s
  | some ((v, a), rest) =>
    let s := s.onTrust fun t => { t with awaits := rest }
    match a with
    | .transition dst b => s.transitionEffect dst b v
    | .token scope until_ => s.unlock scope until_ v

/-- The Steward acts on its records that have become durable, in order, and forgets what waited for those that failed
(R406, R409, R109). -/
def State.stewardActs (s : State) : State :=
  let done := s.press.devDone.filter fun x => isAwaited x.1
  let failed := s.press.devFailed.filter fun x => isAwaited x.1
  let s := s.onPress fun p => { p with
    devDone := p.devDone.filter fun x => !isAwaited x.1, devFailed := p.devFailed.filter fun x => !isAwaited x.1 }
  let s := done.foldl State.actOn s
  s.onTrust fun t => { t with awaits := t.awaits.filter fun a => !failed.any fun x => decide (x.2 = a.1) }

/-- WRITE_VERIFY_DONE: a write-verify attempt ends (R109), and the Steward acts on its record if it is one. -/
def execWriteVerifyDone (ok : Bool) (s : State) : Res :=
  .next (match s.press.writing with
    | none => s
    | some w => ((if ok then (s.durable w.rec_ w.src).pressPump else s.attemptFailed w).stewardActs).enableService.serveHost)

/-! ## Rotation -/

/-- A part of a signature record. -/
def Body.isPart (b : Body) (lsn part : Nat) : Bool :=
  match b with
  | .sig l p _ => l = lsn && p = part
  | _ => false

/-- The ring holds a complete signature record of a block (R114). -/
def State.sigComplete (s : State) (lsn : Nat) : Bool :=
  (numsFrom 0 15).all fun p => s.records.any fun r => r.body.isPart lsn p

/-- The headers of a generation, written or not. -/
def State.headersOf (s : State) (g : Nat) : List Rec :=
  (s.records ++ s.press.hdrs ++ (s.press.writing.map Writing.rec_).toList).filter fun r => match r.body with
    | .header h => h.keygen = g
    | _ => false

/-- Every header of a generation has a complete signature record (R405). -/
def State.generationSigned (s : State) (g : Nat) : Bool :=
  s.press.recQ.isEmpty && (s.headersOf g).all fun r => s.sigComplete r.lsn

/-- The jobs of the headers closed while the keys were not made (R405). -/
def State.sendWaitingSigs (s : State) : State :=
  (s.onPress fun p => { p with jobs := p.jobs ++ p.sigs.flatMap fun j => sigJobs j.lsn j.msg }).sendJobs

/-- The next generation of the Device Evidence Key, its certificate, and the headers that waited for it (R401, R405). -/
def State.nextGeneration (s : State) : State :=
  let s := (s.drawPair 2).issueEvidence s.trust.keygen
  (s.onTrust fun t => { t with rotating := none }).sendWaitingSigs

/-- EVIDENCE_KEY_ROTATION: slots 2 and 3 get generation g + 1 once every header of g is signed (R405). -/
def execEvidenceKeyRotation (s : State) : Res :=
  .next (match s.trust.rotating with
    | none => s
    | some g => if s.generationSigned g && !s.seals.entFail then s.nextGeneration else s)

/-- A rotation at its boundary: headers close with the next generation (R405). -/
def State.rotationBoundary (s : State) : State :=
  match s.trust.rotateAt with
  | none => s
  | some t =>
    if t ≤ s.tickNo then s.onTrust fun x => { x with rotateAt := none, rotating := some x.keygen, keygen := x.keygen + 1 } else s

/-! ## Retirement -/

/-- RETIREMENT_RINSE: the sealed ledger's last record is durable: Rinse, and the Retired fuse (R408 step 4). -/
def execRetirementRinse (s : State) : Res :=
  .next (match s.trust.retiring with
    | none => s
    | some v =>
      if s.fb .PR_STAT_SEALED && !s.trust.retired then
        ((s.rinse.onTrust fun t => { t with retired := true, retiring := none }).stateChanged).writeOk v
      else s)

end Sys2Proof.Machine
end

