-- ==== Sys2Proof/Machine/Resets.lean ====
section
/-! DEFINITION. Resets (R12, R126, R415-R420, R424): what each kind clears, and the commands that raise them. -/

namespace Sys2Proof.Machine

/-! ## What a reset of the device clears -/

/-- The reach of a reset kind (R12, R415): a wider reset has a greater number. -/
def ResetKind.reach : ResetKind → Nat
  | .por => 5
  | .bor => 4
  | .tzr => 3
  | .wdr => 2
  | .sdr => 1
  | _ => 0

/-- The CAUSE code of a reset kind (R101, R437). -/
def ResetKind.cause : ResetKind → Nat
  | .por => 1
  | .bor => 2
  | .tzr => 3
  | .wdr => 4
  | .sdr => 5
  | _ => 0

/-- A register whose Persists column lets it outlive a reset (R12). -/
def Reg.outlives (r : Reg) (k : ResetKind) : Bool :=
  match r.persists with
  | .none => true
  | p => decide (k.reach < p.reach)

/-- The reset takes the rails down: DRAM and Tile Store data are lost (R415, R418). -/
def ResetKind.losesPower (k : ResetKind) : Bool := decide (4 ≤ k.reach)

/-- The fixed regions of DRAM (R17). -/
def fixedRegion (a : Nat) : Bool := 0x2EFC00000 ≤ a && a ≤ 0x2FFFFFFFF

/-- What a reset leaves of memory (R418; log entry 4). -/
def memAfter (k : ResetKind) (m : List Host.Cell) : List Host.Cell :=
  if k.losesPower then [] else m.filter fun c => !fixedRegion c.1

/-- The write-verify in progress completes (R126, R416), or its slot holds no record where the rails fall (R429). -/
def State.endWrite (s : State) (k : ResetKind) : State :=
  match s.press.writing with
  | none => s
  | some w =>
    if k.losesPower then s.onPress fun p => { p with writing := none, slots := p.slots.set (slotIndex w.rec_.lsn) (.bad w.rec_) }
    else s.durable w.rec_ w.src

/-- A write in progress is durable: the device had the time to complete it (R428). -/
def State.finishWrite (s : State) : State :=
  match s.press.writing with
  | none => s
  | some w => s.durable w.rec_ w.src

/-- What no reset clears of the Press: the ledger die (R418). -/
def PressS.after (p : PressS) : PressS :=
  { slots := p.slots, remapped := p.remapped, sparesUsed := p.sparesUsed, tickMarks := p.tickMarks, archMarks := p.archMarks
    parkFlag := p.parkFlag }

/-- An application slot with the VOLATILE flag is cleared by every reset (R150, R418). -/
def KeySlot.after (k : Nat) (x : KeySlot) : KeySlot := if x.isVolatile && decide (16 ≤ k) then { x with key := none } else x

/-- The key store after a reset. -/
def SealS.after (x : SealS) : SealS := { keys := ⟨x.keys.entries.map fun e => (e.1, e.2.after e.1)⟩ }

/-- What the dictionary keeps (R338, R418). -/
def DictS.after (d : DictS) (k : ResetKind) : DictS :=
  { paramA := d.paramA, paramB := d.paramB, toDefault := d.toDefault, retained := if k.reach ≤ 2 then d.retained else emptyMap }

/-- What trust keeps: fuses, cells, certificates, banks, a rotation under way (R401, R405, R418). -/
def TrustS.after (t : TrustS) : TrustS :=
  { enrolled := t.enrolled, commissioned := t.commissioned, retired := t.retired, service := t.service, latched := t.latched
    idCert := t.idCert, attCert := t.attCert, anchor := t.anchor, evCerts := t.evCerts, keygen := t.keygen
    rotateAt := t.rotateAt, rotating := t.rotating, banks := t.banks, fwStores := t.fwStores, bootDue := true }

/-- What the counts of resets, the memory errors and the JTAG port keep (R417, R430, R435). -/
def PowerS.after (p : PowerS) (k : ResetKind) : PowerS :=
  { tlrs := if k = .por then 0 else p.tlrs, crrs := if k = .por then 0 else p.crrs
    jtagIr := if k.losesPower then 1 else p.jtagIr, preload := if k.losesPower then 0 else p.preload
    badGrans := if k.losesPower then [] else p.badGrans.filter fun g => !fixedRegion (16 * g) }

/-- Store buffers drain before a reset that the device takes under power (R416). -/
def State.drainStores (s : State) (k : ResetKind) : State :=
  if k.losesPower then s else s.cores.keys.foldl State.drainAll s

/-- Outputs that a reset takes back: TICKOUT and the GPIO drivers (R41, R382). -/
def State.dropPins (s : State) : State :=
  let s := if s.tick.tickout then s.emit (.tickout false) else s
  if s.f .GP_DIR_OUTEN = 0 then s else s.emit (.gpio 0 0)

/-- Every part of the device cleared as R418 says. -/
def State.clearFor (s : State) (k : ResetKind) : State :=
  { s with
    ctl := s.ctl.keep fun x => x.1.reg.outlives k
    mem := memAfter k s.mem
    tags := []
    queues := emptyMap
    tick := {}
    meters := {}
    hamper := {}
    press := s.press.after
    watch := { highMark := s.watch.highMark }
    seals := s.seals.after
    registry := {}
    guard := {}
    cores := emptyMap
    ports := { gpioIn := s.ports.gpioIn, vex := s.ports.vex }
    dict := s.dict.after k
    trust := s.trust.after
    power := s.power.after k
    peers := emptyMap
    emcyOn := []
    emcyLog := if k.reach ≤ 2 then s.emcyLog else []
    mailOut := []
    tagLog := []
    ns := 0 }

/-- The counter of PW_RLOG that a reset raises (R437). -/
def ResetKind.counter : ResetKind → Option Fld
  | .bor => .some .PW_RLOG_BORS
  | .tzr => .some .PW_RLOG_TZRS
  | .wdr => .some .PW_RLOG_WDRS
  | .sdr => .some .PW_RLOG_SDRS
  | _ => Option.none

/-- PW_RSTAT and PW_RLOG after a reset (R417, R437). -/
def State.noteReset (s : State) (k : ResetKind) (rail : Nat) : State :=
  let s := (s.setF .PW_RSTAT_CAUSE k.cause).setF .PW_RSTAT_RAIL rail
  match k.counter with
  | .some x => s.bump x
  | .none => s

/-- A POR, BOR, TZR, WDR or SDR (R415-R418); the device is to boot (R392). -/
def State.resetDevice (s : State) (k : ResetKind) (rail : Nat := 0) : State :=
  ((((s.drainStores k).endWrite k).dropPins).clearFor k).noteReset k rail

/-! ## Cores and tiles -/

/-- A control-space field of a core that a CRR clears (R293, R418). -/
def crrField (k : Nat) (x : Fld × Nat) : Bool :=
  x.1.reg.persists = .crr && (if x.1.reg = Reg.TC_CORE then x.2 = k else coreOf x.2 = k)

/-- No core is check-stopped any more: that condition ends (R292, R356). -/
def State.endCheckStop (s : State) : State := if s.cores.entries.any fun e => e.2.cstop then s else s.emcyEnd 0xFF07

/-- A core reset (R415, R416): its store buffer drains, requests its tasks hold are discarded, and its state is
cleared. -/
def State.resetCore (s : State) (k : Nat) : State :=
  let s := s.drainAll k
  let s := ((s.core k).created.map fun e => taskNo k e.1).foldl State.discardTask s
  (({ s with ctl := s.ctl.keep fun x => !crrField k x }.setCore k (({} : CoreS).setCr 31 s.ns)).settle k).endCheckStop

/-- Bit `t` of the tile lists cleared: the tile runs, and Quiet ends (R421, R437). -/
def State.wakeTile (s : State) (t : Nat) : State :=
  let s := (s.setF .PW_STATE_DOZING (clearBitOf (s.f .PW_STATE_DOZING) t)).setF .PW_STATE_ASLEEP
    (clearBitOf (s.f .PW_STATE_ASLEEP) t)
  if s.f .PW_STATE_STATE = 3 then s.setF .PW_STATE_STATE 0 else s

/-- A woken tile or core sleeps again in Standby (R424). -/
def State.resleep (s : State) (t : Nat) : State :=
  if s.f .PW_STATE_STATE = 4 then s.setF .PW_STATE_ASLEEP (setBitOf (s.f .PW_STATE_ASLEEP) t) else s

/-- The size of a Tile Store (R17). -/
def tileStore : Nat := 0x80000

/-- A tile reset: a core reset of each of its cores, its tile Registry cache, its Tile Store tags, TC_CSINFO
(R415). -/
def State.resetTile (s : State) (t : Nat) : State :=
  let s := (numsFrom (8 * t) 8).foldl State.resetCore (s.wakeTile t)
  let s := s.onRegistry fun r => { r with tile := r.tile.erase t }
  let s := { s with ctl := s.ctl.keep fun x => !(x.1.reg = Reg.TC_CSINFO && tileOf x.2 = t) }
  (s.clearTags (0x20000000 + 0x100000 * t) tileStore).resleep t

/-- The tiles of a mask, reset in order; the Steward counts them in 0x3801 (R417). -/
def State.resetTiles (s : State) (mask : Nat) : State :=
  ((numsFrom 0 16).filter (bitOf mask)).foldl
    (fun (s : State) t => { s.resetTile t with power := { (s.resetTile t).power with tlrs := s.power.tlrs + 1 } }) s

/-- A write of PW_CRR with GO (R415, R437). -/
def State.writeCrr (s : State) (v : Nat) : State :=
  let k := bitsOf v 0 8
  if bitOf v 8 && decide (k < stewardCore) then
    let s := ((s.wakeTile (tileOf k)).resetCore k).resleep (tileOf k)
    { s with power := { s.power with crrs := s.power.crrs + 1 } }
  else s

/-! ## Commands -/

/-- POWER_ON_RESET (R415, R426). -/
def execPowerOnReset (s : State) : Res := .next (s.resetDevice .por)

/-- BOR: the rails that fell, and whether a warning's completion was done: then the park flag is written (R415, R428,
R429, R437). -/
def execBor (rails : BitVec 3) (s : State) : Res :=
  .next (
    let done := s.power.warned && s.press.writing.isNone
    let s := if done then s.onPress fun p => { p with parkFlag := true } else s
    s.resetDevice .bor (rails.toNat + 8 * b2n done))

/-- TZR: the end of a tamper sequence that found main power present: Rinse and the fuse burn are complete (R411,
R415). -/
def execTzr (s : State) : Res :=
  .next (if s.trust.rinsing && s.fb .TT_RINSE_DONE && s.trust.retired then s.resetDevice .tzr else s)

/-- WDR (R415). -/
def execWdr (s : State) : Res := .next (s.resetDevice .wdr)

/-- LOCKSTEP_MISMATCH: WDR (R417). -/
def execLockstepMismatch (s : State) : Res := .next (s.resetDevice .wdr)

/-- A write of PW_SDR (R415, R437). -/
def State.writeSdr (s : State) (key : Nat) : State := if key = 0x53524453 then s.resetDevice .sdr else s

/-- SDR: the key written to PW_SDR by the Steward (R415, R437). -/
def execSdr (m : Master) (key : BitVec 32) (s : State) : Res :=
  .next (s.present m 0x40B00020 fun s => if Master.isSteward m then s.writeSdr key.toNat else s)

/-- TLR: a write of PW_TLR by the Steward (R415, R437). -/
def execTlr (m : Master) (tiles : BitVec 16) (s : State) : Res :=
  .next (s.present m 0x40B00028 fun s => if Master.isSteward m then s.resetTiles tiles.toNat else s)

/-- CRR: a write of PW_CRR by the Steward (R415, R437). -/
def execCrr (m : Master) (v : Word) (s : State) : Res :=
  .next (s.present m 0x40B00030 fun s => if Master.isSteward m then s.writeCrr v.toNat else s)

/-- A write of PW_WDKICK (R419): the key restarts the watchdog, any other value expires it. -/
def State.writeKick (s : State) (key : Nat) : State :=
  if key = 0x4B43494B then { s with power := { s.power with wdStart := s.ns } } else s.resetDevice .wdr

/-- WATCHDOG_KICK: only the Steward restarts the watchdog (R419, R437). -/
def execWatchdogKick (m : Master) (key : BitVec 32) (s : State) : Res :=
  .next (s.present m 0x40B00040 fun s => if Master.isSteward m then s.writeKick key.toNat else s)

/-- WATCHDOG_EXPIRE: WDR; the count pauses in Standby (R419, R420). -/
def execWatchdogExpire (s : State) : Res := .next (if s.f .PW_STATE_STATE = 4 then s else s.resetDevice .wdr)

/-- TRIAL_TIMEOUT: 10 s after the release of the SDR that started a trial, without confirmation (R398, R420). -/
def execTrialTimeout (s : State) : Res :=
  .next (if s.fb .TT_BOOT_TRIAL && s.fb .TT_BOOT_TRIED then s.resetDevice .wdr else s)

/-- BANK_SWITCH_SDR: SDR at the boundary that starts EFFTICK of a bank update (R397 step 6). -/
def execBankSwitchSdr (s : State) : Res :=
  .next (match s.trust.delivery with
    | some d => if d.active && decide (d.efftick ≤ s.tickNo) then s.resetDevice .sdr else s
    | none => s)

end Sys2Proof.Machine
end

