-- ==== Sys2Proof/Machine/Power.lean ====
section
/-! DEFINITION. Tamper, Rinse's end, power states, power failure (R410, R411, R421-R428). -/

namespace Sys2Proof.Machine

/-- Changes the power state's part. -/
def State.onPower (s : State) (g : PowerS → PowerS) : State := { s with power := g s.power }

/-! ## Tiles -/

/-- Every core of a tile is idle, and no access of its cores is outstanding (R421). -/
def State.tileIdle (s : State) (t : Nat) : Bool :=
  (numsFrom (8 * t) 8).all fun k =>
    let c := s.core k
    c.running.isNone && c.idleM.isNone && c.store.isEmpty && c.flights.isEmpty && c.fill.isNone

/-- TILE_DOZE: with DOZEEN, an idle tile's clocks stop (R421). -/
def execTileDoze (t : Fin 16) (s : State) : Res :=
  .next (
    if s.fb .PW_TILECFG_DOZEEN && s.tileIdle t.val && !bitOf (s.f .PW_STATE_ASLEEP) t.val then
      s.setF .PW_STATE_DOZING (setBitOf (s.f .PW_STATE_DOZING) t.val)
    else s)

/-- A tile sleeps: its caches of Registry entries are emptied; with all 16 asleep the device is Quiet (R421). -/
def State.sleepTile (s : State) (t : Nat) : State :=
  let s := (s.setF .PW_STATE_DOZING (clearBitOf (s.f .PW_STATE_DOZING) t)).setF .PW_STATE_ASLEEP
    (setBitOf (s.f .PW_STATE_ASLEEP) t)
  let s := (numsFrom (8 * t) 8).foldl (fun (s : State) k => s.onCore k fun c => { c with sdc := [] }) s
  let s := s.onRegistry fun r => { r with tile := r.tile.erase t }
  if s.f .PW_STATE_ASLEEP = 65535 && s.f .PW_STATE_STATE = 0 then s.setF .PW_STATE_STATE 3 else s

/-- TILE_SLEEP: with SLEEPEN, a tile that has dozed SLEEPUS µs sleeps (R421). -/
def execTileSleep (t : Fin 16) (s : State) : Res :=
  .next (if s.fb .PW_TILECFG_SLEEPEN && bitOf (s.f .PW_STATE_DOZING) t.val then s.sleepTile t.val else s)

/-- TILE_WAKE: a dozing or sleeping tile wakes; in Standby the tiles sleep on (R421, R424). -/
def execTileWake (t : Fin 16) (s : State) : Res := .next (if s.inStandby then s else s.wakeTile t.val)

/-! ## Standby -/

/-- A queued request is discarded with NACK-BUSY (R422 step 2). -/
def State.discardQueued (s : State) (n d : Nat) : State :=
  match (s.session n).at d with
  | .queued r => (s.dropPos n d r).reply r.peer r.hdr 10
  | _ => s

/-- Every position of every session, through an operation on one. -/
def State.overWindows (s : State) (g : State → Nat → Nat → State) : State :=
  s.hamper.sess.keys.foldl (fun s n => (numsFrom 0 16).foldl (fun s d => g s n d) s) s

/-- Standby is asked for: the Hamper is disabled and queued requests are discarded (R422 steps 1 and 2). -/
def State.requestStandby (s : State) : State :=
  if s.fb .PW_REQ_STANDBY || s.inStandby then s
  else
    let s := (s.setF .PW_REQ_STANDBY 1).onPower fun p => { p with
      standbyStage := 1, hmWas := s.fb .HM_CTRL_ENABLE, prWas := s.fb .PR_CTRL_ENABLE }
    (s.setF .HM_CTRL_ENABLE 0).overWindows State.discardQueued

/-- Some request is dispatched or committing (R422 step 2). -/
def State.requestsHeld (s : State) : Bool := s.hamper.sess.entries.any fun e => e.2.busy

/-- Every header has its signature record and, with ARCHEN, every slot has drained (R422 step 3). -/
def State.pressQuiet (s : State) : Bool :=
  s.press.hdrs.isEmpty && !s.newSlot && s.press.devSlots.isEmpty && s.press.recQ.isEmpty && s.press.sigs.isEmpty && s.press.leaves.isEmpty &&
  (!s.fb .PR_CTRL_ARCHEN || s.f .PR_ARCHLSN_ARCHLSN = s.nextLsn)

/-- The links go down, the tiles sleep, the Darner's patrol pauses (R422 step 4, R423). -/
def State.enterStandby (s : State) : State :=
  let s := s.setF .PR_CTRL_ENABLE 0
  let s := (numsFrom 0 16).foldl State.sleepTile s
  let s := if s.ports.archiveLink then s.archiveLinkLost else s
  let s := s.hostLinkLost
  let s := [0, 1, 2, 3].foldl State.loseExchange s
  ((s.setF .PW_STATE_STATE 4).setF .DN_STAT_PAUSED 1).onPower fun p => { p with standbyStage := 4 }

/-- The steps of R422 go on as their conditions hold: at a boundary, which has closed the tick's block. -/
def State.standbyBoundary (s : State) : State :=
  let s := if s.power.standbyStage = 1 && !s.requestsHeld then s.onPower fun p => { p with standbyStage := 2 }
    else if s.power.standbyStage = 2 then s.onPower fun p => { p with standbyStage := 3 }
    else s
  if s.power.standbyStage = 3 && s.pressQuiet then s.enterStandby else s

/-- Standby, or the way into it, ends: the steps are reversed, and the watchdog starts from its full period (R419,
R422, R423). -/
def State.leaveStandby (s : State) : State :=
  if s.power.standbyStage = 0 then s
  else
    let slept := s.inStandby
    let s := (s.setF .PW_REQ_STANDBY 0).setF .DN_STAT_PAUSED 0
    let s := if slept then ((s.setF .PW_STATE_STATE 0).setF .PW_STATE_ASLEEP 0).setF .PW_STATE_DOZING 0 else s
    let s := (s.setF .HM_CTRL_ENABLE (b2n s.power.hmWas)).setF .PR_CTRL_ENABLE (b2n s.power.prWas)
    s.onPower fun p => { p with standbyStage := 0, wdStart := if slept then s.ns else p.wdStart }

/-- STANDBY_REQUEST: the Steward sets PW_REQ.STANDBY (R422, R437). -/
def execStandbyRequest (m : Master) (s : State) : Res :=
  .next (s.present m 0x40B00008 fun s => if Master.isSteward m then s.requestStandby else s)

/-- A dispatched request still held after 1 s is discarded under R81 (R422 step 2). -/
def State.discardDispatched (s : State) (n d : Nat) : State :=
  match (s.session n).at d with
  | .dispatched r => s.discardFault n d r
  | _ => s

/-- STANDBY_ENTRY_TIMEOUT: 1 s with a request still dispatched, or 10 s of waiting for signatures and archive
(R422). -/
def execStandbyEntryTimeout (drainWait : Bool) (s : State) : Res :=
  .next (
    if drainWait then (if s.power.standbyStage = 3 then s.enterStandby else s)
    else if s.power.standbyStage = 1 then s.overWindows State.discardDispatched
    else s)

/-- STANDBY_WAKE: a wake source (R422, R423). -/
def execStandbyWake (s : State) : Res := .next s.leaveStandby

/-- WAKE_TIMER_EXPIRE: the tick number has reached PW_WAKETMR, with TIMER set (R423, R437). -/
def execWakeTimerExpire (s : State) : Res :=
  .next (if s.fb .PW_WAKE_TIMER && decide (s.f .PW_WAKETMR_TICK ≤ s.tickNo) then s.leaveStandby else s)

/-- GPIO_EDGE: GP_EDGE, and a wake from Standby where PW_WAKE selects the pin (R382, R423). -/
def execGpioEdge (i : Fin 16) (level : Bool) (s : State) : Res :=
  .next (
    let edge := !bitOf (s.f .GP_DIR_OUTEN) i.val && bitOf s.ports.gpioIn i.val != level
    let s := s.gpioLevel i.val level
    if edge && bitOf (s.f .PW_WAKE_GPIO) i.val then s.leaveStandby else s)

/-! ## Power failure -/

/-- POWER_FAIL_WARNING: the Press starts no further write, and everything stops issuing; store buffers are abandoned
(R125, R427, R428). -/
def execPowerFailWarning (_rail : BitVec 3) (s : State) : Res :=
  .next (
    if s.power.warned then s
    else
      let s := (s.onPress fun p => { p with parked := true }).onPower fun p => { p with warned := true }
      { s with cores := s.cores.mapVal fun c => { c with store := [] } })

/-- POWER_FAIL_BOR_TIMER: every rail stayed above its warning threshold for 1 ms: the completion is done, and the
device raises BOR itself (R427, R428, R437). -/
def execPowerFailBorTimer (s : State) : Res :=
  .next (
    if s.power.warned then (s.finishWrite.onPress fun p => { p with parkFlag := true }).resetDevice .bor 8
    else s)

/-! ## Tamper -/

/-- TT_TSTAT after a detection (R410, R414). -/
def State.latchTamper (s : State) (source : Nat) : State :=
  (s.setF .TT_TSTAT_SOURCE (setBitOf (s.f .TT_TSTAT_SOURCE) source)).setF .TT_TSTAT_LATCH 1

/-- Sources that are not watched from VBAT (R410). -/
def needsMain (source : Nat) : Bool := source = 3 || source = 4

/-- TAMPER_DETECT: an armed source is latched. With main power the response runs: Rinse, the sealing of the ledger,
debug locked; without it the monitor runs Rinse from VBAT and stops there (R410, R411). -/
def execTamperDetect (source : Fin 8) (mainPower : Bool) (s : State) : Res :=
  .next (
    if !bitOf (armedSources s.lifecycle) source.val || (!mainPower && needsMain source.val) then s
    else
      let seen := s.fb .TT_TSTAT_LATCH
      let s := s.latchTamper source.val
      if seen then s
      else if !mainPower then s.rinse
      else
        let s := s.leaveStandby.startRinse.onTrust fun t => { t with rinsing := true }
        (s.lockDebug).startSealing (s.f .TT_TSTAT_SOURCE))

/-- RINSE_COMPLETE: START reads 0 and DONE 1; in a tamper response the Retired fuse is blown as well (R411, R412,
R414). -/
def execRinseComplete (s : State) : Res :=
  .next (
    if s.fb .TT_RINSE_START then
      let s := (s.setF .TT_RINSE_START 0).setF .TT_RINSE_DONE 1
      if s.trust.rinsing then (s.onTrust fun t => { t with retired := true }).stateChanged else s
    else s)

end Sys2Proof.Machine
end

