-- ==== Sys2Proof/Machine/Recovery.lean ====
section
/-! DEFINITION. Ledger recovery (R30, R31, R127, R128, R461) and the values of class L entries at boot (R339, R349). -/

namespace Sys2Proof.Machine

/-! ## Class L values -/

/-- The headers of the ring, newest first. -/
def State.ringHeaders (s : State) : List Rec := s.newestFirst.filter fun r => r.body.kind = 6

/-- A header covers an LSN (R112). -/
def Body.covers (b : Body) (lsn : Nat) : Bool :=
  match b with
  | .header h => decide (0 < h.count) && decide (h.first ≤ lsn) && decide (lsn ≤ h.last)
  | _ => false

/-- TICK of a header. -/
def Body.tick (b : Body) : Option Nat :=
  match b with
  | .header h => some h.tick
  | _ => none

/-- The headers that recovery writes (R127). -/
def State.recoveredHeaders (s : State) : List Body := (s.press.recQ.map DevSlot.body).filter fun b => b.kind = 6

/-- The TICK of the block that holds a leaf: its header stands in the ring, is one that recovery writes, or is the one of
TICK `t` that recovery is about to write; none where no header covers it (R127, R349). -/
def State.leafTick (s : State) (t : Option Nat) (lsn : Nat) : Option Nat :=
  match (s.ringHeaders.map Rec.body ++ s.recoveredHeaders).find? fun b => b.covers lsn with
  | some b => b.tick
  | none => t

/-- A configuration record of an entry: its EFFTICK, LEN and VALUE. -/
structure ConfRec where
  efftick : Nat
  len : Nat
  value : Bytes
  deriving DecidableEq, Repr

/-- The record of a leaf is effective for a tick of effect: a header covers it, with a TICK below (R349). -/
def State.leafBefore (s : State) (t : Option Nat) (lsn e : Nat) : Bool :=
  match s.leafTick t lsn with
  | some n => decide (n < e)
  | none => false

/-- The effective configuration records of an entry in the ring, newest first (R349). -/
def State.effective (s : State) (t : Option Nat) (index sub : Nat) : List ConfRec :=
  s.newestFirst.filterMap fun r => match r.body with
    | .dev (.config i k _ e _ _ n v) =>
      if i.toNat = index && k.toNat = sub && s.leafBefore t r.lsn e then some ⟨e, n.toNat, v⟩ else none
    | _ => none

/-- The value a record gives: its own, or the saved version that its SHA-512 names (R100, R339). -/
def State.recordValue (s : State) (index sub : Nat) (c : ConfRec) : Option Bytes :=
  if bitOf c.len 15 then
    ((s.dict.params.versions.get [] (index, sub)).find? fun x => leBytes 64 (sha512 x.2).toNat = c.value.take 64).map Prod.snd
  else some (c.value.take c.len)

/-- A class L entry at tick `now`: EFFTICK and value in force, none for the default, and whether a value was lost
(R339). -/
def State.valueL (s : State) (t : Option Nat) (now index sub : Nat) : Option (Nat × Bytes) × Bool :=
  match (s.effective t index sub).find? fun c => decide (c.efftick ≤ now) with
  | some c => ((s.recordValue index sub c).map fun b => (c.efftick, b), (s.recordValue index sub c).isNone)
  | none => (inForce now (s.dict.params.versions.get [] (index, sub)), false)

/-- The change of a class L entry that is pending at tick `now`, and whether a value was lost (R339). -/
def State.pendingL (s : State) (t : Option Nat) (now index sub : Nat) : Option Change × Bool :=
  let mk (e : Nat) (b : Bytes) : Change := { index := index, sub := sub, value := b, efftick := e, serves := {}, armed := true }
  match (s.effective t index sub).find? fun c => decide (now < c.efftick) with
  | some c => ((s.recordValue index sub c).map (mk c.efftick), (s.recordValue index sub c).isNone)
  | none => (((s.dict.params.versions.get [] (index, sub)).find? fun x => decide (now < x.1)).map fun x => mk x.1 x.2, false)

/-! ## The tick number -/

/-- The tick number whose low bits equal a WTICK, above 0, not above the mark and less than 2^32 below it (R127). -/
def tickOfMark (mark wtick : Nat) : Option Nat :=
  let d := (mark + 2 ^ 32 - wtick % 2 ^ 32) % 2 ^ 32
  if d < mark then some (mark - d) else none

/-- The Tick Unit starts at a tick number with the period in force (R461). -/
def State.startTicks (s : State) (t : Option Nat) (n : Nat) : State :=
  let period := match (s.valueL t n 0x2000 1).1 with
    | some x => leNat x.2 % 4
    | none => 1
  let s := ((s.setF .TU_TICK_TICK n).setF .TU_PHASE_PHASE 0).setF .TU_CTRL_PERIOD period
  (({ s with tick := { s.tick with running := true } }.correct).reloadMeters).keepMark n

/-- The Tick Unit starts, unless it runs already: a recovery asked for again steps no tick (R30; log entry 119). -/
def State.startTicksOnce (s : State) (t : Option Nat) (n : Nat) : State := if s.tick.running then s else s.startTicks t n

/-! ## Recovery -/

/-- A slot that recovery writes takes its place among its writes; each passes a write-verify like any other (R109,
R127). -/
def State.recoverPut (s : State) (b : Body) (src : WSrc) (wtick : Option Nat := none) : State :=
  s.onPress fun p => { p with recQ := p.recQ ++ [⟨b, src, wtick⟩] }

/-- The generation whose private keys slots 2 and 3 hold (R405). -/
def State.keysOf (s : State) : Nat := s.trust.rotating.getD s.trust.keygen

/-- A header's signatures can be made now: its generation's keys, a READY engine, entropy (R113, R155). -/
def State.canSign (s : State) (g : Nat) : Bool :=
  decide (g ≤ s.keysOf) && s.anyReady && !s.seals.entFail && (s.key 2).key.isSome && (s.key 3).key.isSome

/-- The 15 parts of a signature record (R114). -/
def sigPartBodies (lsn : Nat) (ed ml : Bytes) : List Body :=
  (numsFrom 0 15).map fun i => .sig lsn i (sliceAt (fitTo 3420 (ed ++ ml)) (228 * i) 228)

/-- A header without a complete signature record is signed, and its record written (R113, R127). -/
def State.recoverSign (s : State) (lsn g : Nat) (m : Bytes) : State :=
  if s.canSign g then
    let (x, s) := s.signBoth 2 m (ascii "JV7128-TB")
    (sigPartBodies lsn (x.take 64) (x.drop 64)).foldl (fun s b => s.recoverPut b .sigPart) s
  else
    (s.onPress fun p => { p with sigs := p.sigs ++ [{ lsn := lsn, msg := m }]
                                 jobs := if g ≤ s.keysOf then p.jobs ++ sigJobs lsn m else p.jobs }).sendJobs

/-- The headers with KEYGEN 1 or more that have no complete signature record, oldest first (R127). -/
def State.unsigned (s : State) : List (Nat × Nat × Bytes) :=
  s.ringHeaders.reverse.filterMap fun r => match r.body with
    | .header h => if 0 < h.keygen && !s.sigComplete r.lsn then some (r.lsn, h.keygen, r.head) else none
    | _ => none

/-- A block counted in RECBLK (R130). -/
def State.noteRecovered (s : State) : State := s.bump .PR_CNTERR_RECBLK

/-- The block over leaves no header covers: its header, and its signature unless its KEYGEN is 0 (R127). -/
def State.recoverBlock (s : State) (t : Nat) (leaves : List Nat) : State :=
  let h := s.header t leaves true false s.keygenNow
  let r : Rec := ⟨s.recLsn, s.tickNo % 2 ^ 32, .header h⟩
  let s := (s.onPress fun p => { p with newest := some r, leaves := [] }).noteRecovered.recoverPut r.body .header (some r.wtick)
  if h.keygen = 0 then s else s.recoverSign r.lsn h.keygen r.head

/-- The recovery record (R101). -/
def State.recoveryRecord (s : State) (flags blocks tail lasttick newtick : Nat) : Body :=
  .recovery (s.f .PW_RSTAT_CAUSE) flags blocks tail lasttick newtick (s.f .PR_ARCHLSN_ARCHLSN) s.trust.fwVersion

/-- A tamper record is durable after an LSN (R127). -/
def State.tamperAfter (s : State) (from_ : Nat) : Bool := s.records.any fun r => decide (from_ ≤ r.lsn) && r.body.kind = 9

/-- With the keys rinsed: a tamper record unless one is durable; the sealed header follows the last of recovery's
records (R127, R129). -/
def State.recoverSeal (s : State) (from_ : Nat) : State :=
  if s.tamperAfter from_ then s
  else s.recoverPut (.tamper (s.f .TT_TSTAT_SOURCE) s.tickNo (s.f .PR_LASTSIG_LASTSIG)) .ownRec

/-- The ring's newest header with a complete signature record. -/
def State.lastSigned (s : State) : Nat := ((s.ringHeaders.find? fun r => s.sigComplete r.lsn).map Rec.lsn).getD noLsn

/-- The registers and the validity map that recovery loads from a ring that holds records (R95, R127). -/
def State.loadRing (s : State) (tail lowest : Nat) : State :=
  let torn := (s.press.slots.entries.filter fun e => match e.2 with
    | .bad r => decide (tail < r.lsn)
    | .good _ => false).length
  let arch := s.press.archMarks.head?
  let s := ((s.setF .PR_NEXTLSN_NEXTLSN (tail + 1)).setF .PR_ARCHLSN_ARCHLSN (arch.getD lowest)).bump .PR_CNTERR_TORN torn
  let s := (s.setF .PR_STAT_PFDONE (b2n s.press.parkFlag)).setF .PR_SPARE_USED s.press.sparesUsed
  let s := ((s.setF .PR_LASTBLK_LASTBLK ((s.ringHeaders.head?.map Rec.lsn).getD noLsn)).setF .PR_LASTSIG_LASTSIG s.lastSigned)
  let s := s.onPress fun p => { p with
    parkFlag := false, recovered := true, valid := s.records.map fun r => slotIndex r.lsn
    newest := s.ringHeaders.head?, issued := arch.getD lowest }
  s.noteOcc

/-- Recovery of a ring that holds records (R127). -/
def State.recoverRing (s : State) (tail lowest : Nat) : State :=
  let noArch := s.press.archMarks.isEmpty
  let s := s.loadRing tail lowest
  let torn := s.f .PR_CNTERR_TORN
  let h := s.press.newest
  let hTick := (h.map Rec.hdrTick).getD 0
  let isSealed := match h.map Rec.body with
    | some (.header x) => x.isSealed
    | _ => false
  let from_ := match h.map Rec.body with
    | some (.header x) => x.last + 1
    | _ => 0
  let nokeys := s.fb .TT_TSTAT_LATCH
  let leaves := s.newestFirst.filter fun r => r.body.isLeaf && decide (from_ ≤ r.lsn)
  let found := match leaves.head? with
    | some r => tickOfMark s.tickMark r.wtick
    | none => none
  let closes := !nokeys && !isSealed && !leaves.isEmpty
  let inferred := closes && (match found with
    | some t => decide (t ≤ hTick)
    | none => true)
  let t := if !closes then 0 else if inferred then hTick + 1 else found.getD 0
  let n := if s.tick.running then s.tickNo else max (max s.tickMark hTick) t + 1
  let s := s.startTicksOnce (if t = 0 then none else some t) n
  let blocks := if nokeys then 0 else s.unsigned.length + b2n (t != 0)
  if isSealed then s.sealLedger
  else
    let s := if nokeys then s else s.unsigned.foldl (fun s x => s.noteRecovered.recoverSign x.1 x.2.1 x.2.2) s
    let lsns := (leaves.map Rec.lsn).reverse
    let s := if t != 0 then s.recoverBlock t lsns else s.onPress fun p => { p with leaves := lsns }
    let flags := b2n (torn != 0) + 2 * s.f .PR_STAT_PFDONE + 4 * b2n inferred + 8 * b2n noArch
    let s := s.recoverPut (s.recoveryRecord flags blocks tail hTick n) .ownRec
    (if nokeys then s.recoverSeal from_ else s).pressPump

/-- No archive mark cell is valid on a ring that holds records: the archive EMCY, where archive enable is 1 (R121,
R127). At boot it follows the dictionary load, before which no port carries it. -/
def State.noteArchMark (s : State) : State :=
  if s.dict.loaded && s.archiveEnabled && s.press.recovered && s.press.archMarks.isEmpty && !s.records.isEmpty then
    s.emcy 0xFF02 6
  else s

/-- A blank ring: the first boot of the die, or a ledger fault (R128). -/
def State.recoverBlank (s : State) : State :=
  let first := s.press.archMarks.isEmpty && s.press.tickMarks.isEmpty
  let s := s.onPress fun p => { p with recovered := true, valid := [], issued := 0 }
  let s := ((s.setF .PR_NEXTLSN_NEXTLSN 0).setF .PR_ARCHLSN_ARCHLSN 0).setF .PR_SPARE_USED s.press.sparesUsed
  let s := (s.setF .PR_LASTBLK_LASTBLK noLsn).setF .PR_LASTSIG_LASTSIG noLsn
  let s := if first then s else (s.setF .PR_STAT_LFAULT 1).emcy 0xFF01 0
  s.startTicksOnce none (s.tickMark + 1)

/-- What a recovery makes anew from the ring, where one has gone before since the Press was last cleared: headers not
yet written, signatures under way (log entry 119). -/
def State.dropUnwritten (s : State) : State := (s.onPress fun p => { p with hdrs := [], leaves := [] }).dropSigJobs

/-- Ledger recovery (R127, R128): the reading and loading; its writes pass the write channel. It starts where no write
and no recovery is under way, and not on a ledger that takes no writes any more until a reset (R109, R129). -/
def State.recoverLedger (s : State) : State :=
  if s.press.writing.isSome || !s.press.recQ.isEmpty || s.fb .PR_STAT_LFAULT || s.fb .PR_STAT_SEALED || s.press.tampering then s
  else
    let s := s.dropUnwritten
    match s.newestFirst with
    | [] => s.recoverBlank
    | r :: l => (s.recoverRing r.lsn ((l.getLast?.map Rec.lsn).getD r.lsn)).noteArchMark

/-- LEDGER_RECOVERY: the Steward sets PR_CTRL.RECOVER (R127, R130). -/
def execLedgerRecovery (m : Master) (s : State) : Res :=
  .next (s.present m 0x40200000 fun s => if Master.isSteward m then s.recoverLedger else s)

end Sys2Proof.Machine
end

