-- ==== Sys2Proof/Machine/Boot.lean ====
section
/-! DEFINITION. The boot (R392, R395-R399, R408, R411, R413) and the dictionary load (R339). -/

namespace Sys2Proof.Machine

/-! ## The Boot ROM -/

/-- Step 1: a tamper response whose fuse is not blown is completed (R392, R411). -/
def State.finishTamper (s : State) : State :=
  if s.fb .TT_TSTAT_LATCH && !s.trust.retired then
    (s.rinse.setF .TT_RINSE_DONE 1).onTrust fun t => { t with retired := true }
  else s

/-- Step 3: what a pending trial makes of TT_BOOT (R398). -/
def State.trialBoot (s : State) : State :=
  if !s.fb .TT_BOOT_TRIAL then s.setF .TT_BOOT_TRIED 0
  else if s.fb .TT_BOOT_TRIED then
    ((s.setF .TT_BOOT_ACTIVE s.idleBank).setF .TT_BOOT_TRIAL 0).setF .TT_BOOT_TRIED 0
  else s.setF .TT_BOOT_TRIED 1

/-- Step 3: the image that runs, and where it comes from (R392, R414). -/
def State.chooseFirmware (s : State) : Option (Nat × Image) :=
  let a := s.f .TT_BOOT_ACTIVE
  ((s.bankFirmware a).map fun x => (a, x)).or
    (((s.bankFirmware (1 - a)).map fun x => (1 - a, x)).or (s.flashFirmware.map fun x => (2, x)))

/-- The image that runs is noted (R392, R404). -/
def State.runFirmware (s : State) (source : Nat) (x : Image) : State :=
  (s.setF .TT_BOOT_SOURCE source).onTrust fun t => { t with fwVersion := x.version, fwSvn := x.svn, fwHash := x.hash }

/-- The Seal Engines pass their known-answer tests and are enabled (R392 steps 2 and 4). -/
def State.enableSeals (s : State) : State := (numsFrom 0 8).foldl (fun (s : State) e => s.setF .SE_CTRL_ENABLE 1 e) s

/-! ## The dictionary load -/

/-- The entry is in a set that takes its defaults at this boot (R340). -/
def State.takesDefault (s : State) (index : Nat) : Bool :=
  s.dict.toDefault.any fun sub => decide ((storeRange sub).1 ≤ index) && decide (index ≤ (storeRange sub).2)

/-- What a P entry is loaded with: what was written since the last reset that clears such values, what was saved, its
default (R338-R340). -/
def State.bootValue (s : State) (x : Nat × Nat × DEntry) : Bytes :=
  let k := (x.1, x.2.1)
  let d := s.entryDefault x.1 x.2.1 x.2.2
  if s.takesDefault x.1 then d else (s.dict.retained.find k).getD (s.dict.params.saved.get d k)

/-- Loads one P entry. -/
def State.loadEntry (s : State) (x : Nat × Nat × DEntry) : State :=
  let b := s.bootValue x
  if s.entryBytes none x.1 x.2.1 x.2.2 = b then s else s.putEntry x.1 x.2.1 x.2.2 b

/-- Values marked to take their defaults are no longer kept through the narrower resets (R340). -/
def State.dropDefaulted (s : State) : State :=
  s.onDict fun d => { d with retained := d.retained.keep fun k => !s.takesDefault k.1, toDefault := [] }

/-- EMCY 0xFF0A where a class L value is lost (R339, R356). -/
def State.lostValue (s : State) (lost : Bool) (index sub : Nat) : State :=
  if lost then s.emcy 0xFF0A (index + 65536 * sub) else s

/-- A class L value in force at the boot: the Guard's mode, or an application parameter (R339, R354). -/
def State.putValueL (s : State) (index sub : Nat) (b : Bytes) : State :=
  if index = 0x2000 then s
  else if index = 0x3000 then s.setF .FG_CTRL_NEXTMODE (leNat b)
  else s.onDict fun d => { d with vals := d.vals.set (index, sub) b }

/-- An application parameter, whose area in memory is written once the Guard's update has been made (R352, R392). -/
def isAppEntry (index : Nat) : Bool := 0x4100 ≤ index && index ≤ 0x410F

/-- Loads one class L entry, and arms its pending change (R339). -/
def State.loadL (s : State) (x : Nat × Nat) : State :=
  let v := s.valueL none s.tickNo x.1 x.2
  let p := s.pendingL none s.tickNo x.1 x.2
  let s := (s.lostValue v.2 x.1 x.2).lostValue p.2 x.1 x.2
  let s := match v.1 with
    | some (_, b) => s.putValueL x.1 x.2 b
    | none => s
  match p.1 with
  | some c => (if isAppEntry c.index then s else s.armEntry c).onDict fun d => { d with changes := d.changes ++ [c] }
  | none => s

/-- The areas of an application parameter in memory: the version in force, and the one that is pending (R352). -/
def State.loadApp (s : State) (x : Nat × Nat) : State :=
  let t := match (s.valueL none s.tickNo x.1 x.2).1 with
    | some (e, b) => s.putApp x.1 x.2 e b
    | none => s
  match (s.pendingL none s.tickNo x.1 x.2).1 with
  | some c => t.putApp x.1 x.2 c.efftick c.value
  | none => t

/-- The boot update of the Guard, from the loaded values, while nothing runs (R329, R354). -/
def State.bootUpdate (s : State) : State :=
  let s := s.setF .FG_UPD_NRANGE s.dict.ranges
  let s := if s.badUpdate then s.setF .FG_STAT_CFGERR 1
    else ((s.commitUpdate.onGuard fun g => { g with committed := false, undo := [], oldPages := [] }).bump
      .FG_EPOCH_EPOCHS).setF .FG_STAT_QUIET 1
  s.onDict fun d => { d with ranges := 0 }

/-- The entry of the application parameter segment (R352). -/
def appIndex : Nat := 131073

/-- The application parameter segment (R352): its memory, cleared and loaded where the Guard admits the Steward, and its
entry, of its pages' colour. -/
def State.makeAppSegment (s : State) : State :=
  let s := if s.stewardAdmits true appBase 1048576 then s.clearRange appBase 1048576 else s.stewardNote true appBase 1048576
  let s := s.setEntry appIndex
    { base := appBase, limit := 1048575, ty := 1, valid := true, pegged := true, ledgerOnly := true
      colour := s.pageColour appBase, maxRights := 2 ^ rL }
  let s := s.onDict fun d => { d with appIndex := some appIndex }
  (lEntries.filter fun x => isAppEntry x.1).foldl State.loadApp s

/-- The places the Steward chooses in general DRAM, in their units: 64 MiB for the Reply Logs and the shadow copy, 512 MiB
for the request buffers (R17, R19, R90, R156; log entry 9). -/
def logUnit : Nat := 64 + Config.logBase.toNat % 123
def shadowUnit : Nat := 64 + Config.shadowBase.toNat % 123
def bufUnit : Nat := 8 + Config.bufBase.toNat % 15

/-- The request buffers' entries, the application segment's, and the free list behind them (R65, R352, R392 step 6). -/
def State.bootEntries (s : State) : State :=
  let s := (s.setF .HM_LOGBASE_BASE logUnit).setF .HM_BUFBASE_BASE bufUnit
  let s := (s.setF .WT_SHADOW_BASE shadowUnit).setF .HM_BUFIDX_FIRST 1
  (s.onRegistry fun r => { r with
    freeFrom := appIndex + 1, bufRun := some (1, bufUnit * 2 ^ 29) }).makeAppSegment

/-- EMCY 0xFF0A where no copy of the parameter area has a correct CRC (R340, R356). -/
def State.checkParams (s : State) : State :=
  if s.dict.paramA.valid || s.dict.paramB.valid then s else s.emcy 0xFF0A 0

/-- The load (R339): class L, then every P entry, GPIO directions among them, then the values are served. -/
def State.loadDict (s : State) : State :=
  let s := lEntries.foldl State.loadL s.checkParams
  let s := ((pEntries 0x1000 0x5FFF).foldl State.loadEntry s).dropDefaulted
  let g (k : Nat) : Nat := leNat (s.dict.vals.get (zeros 8) (0x3440, k))
  let s := (s.setF .GP_DIR_OUTEN (g 1)).setF .GP_OUT_OUT (g 2)
  let s := if g 1 = 0 then s else s.driveGpio
  s.onDict fun d => { d with loaded := true }

/-! ## The Steward's steps -/

/-- Step 5 at the first boot: the identity and attestation keys, and the lifecycle record at LSN 0 (R399). -/
def State.firstBoot (s : State) : State :=
  let s := if s.trust.idCert.isNone && s.lifecycle = lcManufactured then s.makeIdentity else s
  if s.nextLsn = 0 && s.lifecycle = lcManufactured then
    match s.submitDev (.lifecycle 0 (BitVec.ofNat 8 lcManufactured) 0 0 s.devKey) {} with
    | .ok t => t
    | .error _ => s
  else s

/-- A lifecycle record with TO Retired stands in the ring (R408). -/
def State.retireRecord (s : State) : Bool :=
  s.records.any fun r => match r.body with
    | .dev (.lifecycle _ dst _ _ _) => dst.toNat = lcRetired
    | _ => false

/-- The state that the newest lifecycle record enters. -/
def State.newestLifecycle (s : State) : Option Nat :=
  s.newestFirst.findSome? fun r => match r.body with
    | .dev (.lifecycle _ dst _ _ _) => some dst.toNat
    | _ => none

/-- The state cell is checked against the newest lifecycle record, and set as it says (R407). -/
def State.checkCell (s : State) : State :=
  match s.newestLifecycle with
  | some dst => if dst = lcCommissioned || dst = lcService then s.onTrust fun t => { t with service := decide (dst = lcService) }
      else s
  | none => s

/-- A retirement that a reset has cut is resumed (R408). -/
def State.resumeRetire (s : State) : State :=
  if s.retireRecord && !s.trust.retired && !s.fb .TT_TSTAT_LATCH then
    (if s.fb .PR_STAT_SEALED then s.onTrust fun t => { t with retiring := some {} } else s.beginRetire {})
  else s

/-- Step 7: the entry registers of every core (R392; log entry 9). -/
def State.loadEntries (s : State) : State :=
  (numsFrom 0 129).foldl (fun (s : State) k => s.onCore k fun c =>
    (numsFrom 14 10).foldl (fun (c : CoreS) n =>
      { c with crs := c.crs.set n (Config.entryWord n k &&& BitVec.ofNat 64 (crMask n)) }) c) s

/-- Step 7: the Steward's own eight task sets (R206, R392; log entry 124). -/
def State.stewardSets (s : State) : State :=
  (numsFrom 8192 8).foldl (fun (s : State) t =>
    (s.storeReg .TC_ENTRY t (Config.taskEntry (t - 8192)).toNat).createTask t) s

/-- Steps 8 and 9, by lifecycle state (R392, R413). -/
def State.bootService (s : State) : State :=
  if s.lifecycle = lcRetired then (s.onTrust fun t => { t with enableDue := true }).enableService
  else if s.trust.retiring.isSome then s
  else if s.lifecycle = lcCommissioned || s.lifecycle = lcService then s.startService
  else s

/-- Steps 4 to 9 (R392). -/
def State.bootSteward (s : State) : State :=
  let s := (s.registryInit.setF .RW_CTRL_ENABLE 1).setF .WT_CTRL_ENABLE 1
  let s := s.recoverLedger.checkCell.firstBoot.resumeRetire
  let s := (s.loadDict.bootUpdate.bootEntries.noteArchMark).startBinding
  let s := s.startRebuild.loadEntries.stewardSets
  s.bootService

/-- BOOT (R392): what the Boot ROM and the Steward do after a reset has been released, once; a pin-driving JTAG
instruction holds the device (R436). -/
def execBoot (s : State) : Res :=
  .next (
    if !s.trust.bootDue || s.pinsHeld then s
    else
      let s := s.onTrust fun t => { t with bootDue := false }
      let s := s.finishTamper.enableSeals.trialBoot
      match s.chooseFirmware with
      | none => s.onTrust fun t => { t with halted := true }
      | some (source, x) => (s.runFirmware source x).bootSteward)

end Sys2Proof.Machine
end

