-- ==== Sys2Proof/Machine/Test.lean ====
section
/-! DEFINITION. Memory self-tests, link patterns, halting cores (R431-R434, R436, R439). -/

namespace Sys2Proof.Machine

/-! ## Memory self-test -/

/-- No task is Ready, Running, Waiting or Descheduled on any core (R431). -/
def State.noTasks (s : State) : Bool :=
  s.cores.entries.all fun e => e.2.created.all fun x => x.2.state = .stopped

/-- The precondition of a test; the time of test 1 lies within the boot (R431). -/
def State.bistAllowed (s : State) (target : Nat) : Bool :=
  match target with
  | 2 => !s.fb .HM_CTRL_ENABLE && s.noTasks
  | 3 => true
  | 4 => true
  | 5 => s.fb .PR_CTRL_ENABLE && !s.fb .PR_STAT_LFAULT
  | _ => false

/-- A START of this TARGET finds its precondition unmet (R431). -/
def State.bistRefuses (s : State) (target : Nat) : Bool :=
  s.power.bist.isNone && target != 0 && decide (target < 6) && !s.bistAllowed target

/-- TS_BIST.START is written 1: the test of TARGET starts, or is refused (R431, R439). -/
def State.startBist (s : State) (target : Nat) : State :=
  if s.power.bist.isSome || target = 0 || 6 ≤ target then s
  else
    let s := ((s.setF .TS_BISTRES_DONE 0).setF .TS_BISTRES_PASS 0).setF .TS_BISTRES_FAILS 0
    if s.bistAllowed target then
      (((s.setF .TS_BIST_START 1).setF .TS_BIST_TARGET target).setF .TS_BISTRES_REFUSED 0).onPower fun p =>
        { p with bist := some target }
    else s.setF .TS_BISTRES_REFUSED 1

/-- A write of TS_BIST (R439). -/
def State.writeBist (s : State) (v : Nat) : State :=
  let s := if s.power.bist.isNone then s.setF .TS_BIST_TARGET (bitsOf v 0 3) else s
  if bitOf v 8 then s.startBist (bitsOf v 0 3) else s

/-- BIST_START: admitted as the Guard decides for slot 34 (R431, R439). -/
def execBistStart (m : Master) (target : Fin 8) (s : State) : Res :=
  .next (s.present m 0x40C00000 fun s => s.writeBist (256 + target.val))

/-- General DRAM and the fixed regions hold what a march leaves (R431; log entry 4). -/
def State.marchDram (s : State) : State := { s with mem := s.mem.filter fun c => !(0x100000000 ≤ c.1 && c.1 ≤ 0x2FFFFFFFF) }

/-- Spares that fail are out of use and counted (R431). -/
def State.retireSpares (s : State) (n : Nat) : State :=
  let s := s.onPress fun p => { p with sparesUsed := min spareCount (p.sparesUsed + n) }
  s.setF .PR_SPARE_USED s.press.sparesUsed

/-- BIST_COMPLETE: the result; test 2 ends in SDR, test 5 retires the spares that failed (R431, R439). -/
def execBistComplete (fails : BitVec 32) (s : State) : Res :=
  .next (match s.power.bist with
    | none => s
    | some t =>
      let s := ((s.setF .TS_BIST_START 0).setF .TS_BISTRES_DONE 1).setF .TS_BISTRES_PASS (b2n (fails = 0))
      let s := (s.setF .TS_BISTRES_FAILS fails.toNat).onPower fun p => { p with bist := none }
      if t = 2 then s.marchDram.resetDevice .sdr
      else if t = 5 then s.retireSpares fails.toNat
      else s)

/-! ## Link patterns -/

/-- The port of a link (R432). -/
def linkPort (l : Nat) : Nat := if l < 8 then l else if l < 12 then 8 else if l < 14 then 9 else l - 4

/-- A pattern a link supports (R432, R439). -/
def patternOk (l p : Nat) : Bool := if l < 14 then 1 ≤ p && p ≤ 4 else p = 5

/-- Changes a link's generator and checker. -/
def State.setTest (s : State) (l : Nat) (t : LinkTest) : State := s.onPorts fun q => { q with tests := q.tests.set l t }

/-- A link's generator and checker. -/
def State.linkTest (s : State) (l : Nat) : LinkTest := s.ports.tests.get {} l

/-- A pattern on a PCIe lane takes the port's link down (R433). -/
def State.patternLink (s : State) (l : Nat) : State :=
  if l < 8 || 14 ≤ l then s else s.portOff (linkPort l)

/-- TS_CTRL.INJECT: one bit of the generated stream is inverted; a link looped back inside the device shows it to its
own checker (R434, R439). -/
def State.injectError (s : State) (l : Nat) : State :=
  let t := s.linkTest l
  if t.gen && t.chk && s.f .TS_CTRL_LOOP l = 1 && s.fb .TS_STAT_SYNC l then
    (s.bump .TS_ERRS_ERRORS 1 l).bump .TS_BITS_BITS 1 l
  else s

/-- A write of TS_CTRL that starts nothing and sets BADCFG: the port is enabled, or the link does not support the
pattern (R433). -/
def State.patternRefused (s : State) (l v : Nat) : Bool :=
  let p := bitsOf v 0 3
  !(p = 0 || 6 ≤ p) && (s.fb .P_CTRL_ENABLE (linkPort l) || !patternOk l p)

/-- A write of TS_CTRL (R433, R439). -/
def State.writeTsCtrl (s : State) (l v : Nat) : State :=
  let p := bitsOf v 0 3
  let store (s : State) : State :=
    (((s.setF .TS_CTRL_PATTERN p l).setF .TS_CTRL_LOOP (bitsOf v 3 2) l).setF .TS_CTRL_GEN (bitsOf v 5 1) l).setF .TS_CTRL_CHK
      (bitsOf v 6 1) l
  let s :=
    if p = 0 || 6 ≤ p then (store (s.stopPattern l))
    else if s.patternRefused l v then s.setF .TS_STAT_BADCFG 1 l
    else (store (s.patternLink l)).setTest l { gen := bitOf v 5, chk := bitOf v 6 }
  if bitOf v 7 then s.injectError l else s

/-- The address of TS_CTRL[l] (R439). -/
def tsAddr (l : Nat) : Nat := 0x40C00100 + 32 * l

/-- LINK_PATTERN_START (R433, R439). -/
def execLinkPatternStart (m : Master) (l : Fin 20) (v : Word) (s : State) : Res :=
  .next (s.present m (tsAddr l.val) fun s => s.writeTsCtrl l.val v.toNat)

/-- PATTERN_INJECT (R434, R439). -/
def execPatternInject (m : Master) (l : Fin 20) (s : State) : Res :=
  .next (s.present m (tsAddr l.val) fun s => s.injectError l.val)

/-- CHECKER_SYNC_CHANGE: the checker enters or leaves SYNC; `bits` and `errs` are what it compared, and what
differed, in SYNC since it entered (R434). -/
def execCheckerSyncChange (l : Fin 20) (sync : Bool) (bits errs : Word) (s : State) : Res :=
  .next (
    if !(s.linkTest l.val).chk then s
    else
      let was := s.fb .TS_STAT_SYNC l.val
      let s := if was then (s.bump .TS_BITS_BITS bits.toNat l.val).bump .TS_ERRS_ERRORS errs.toNat l.val else s
      let s := if was && !sync then s.bump .TS_STAT_SYNCLOSS 1 l.val else s
      s.setF .TS_STAT_SYNC (b2n sync) l.val)

/-! ## Halting cores -/

/-- A halt asked for takes effect at an interruptible point (R436). -/
def CoreS.tryHalt (c : CoreS) : CoreS :=
  if c.haltReq && c.interruptible then { c with halted := true, haltReq := false } else c

/-- TS_HALT is taken from master 60 alone, with SCOPE 3 (R439). -/
def State.mayHalt (s : State) (m : Master) : Bool :=
  (match m with
   | .dev id => id.val = 60
   | .core _ => false) && s.f .TT_DBG_SCOPE = 3 && s.fb .TT_DBG_UNLOCKED

/-- HALT, STEP and RESUME of a core (R436). -/
def State.haltCore (s : State) (k : Nat) (halt step resume : Bool) : State :=
  if stewardCore ≤ k then s
  else s.onCore k fun c =>
    let c := if halt && !c.halted then { c with haltReq := true }.tryHalt else c
    let c := if step && c.halted then { c with stepping := true } else c
    if resume then c.resume else c

/-- A write of TS_HALT (R436, R439). -/
def State.writeHalt (s : State) (v : Nat) : State :=
  (s.setF .TS_HALT_CORE (bitsOf v 0 8)).haltCore (bitsOf v 0 8) (bitOf v 8) (bitOf v 9) (bitOf v 10)

/-- A write of TS_HALT by a master, if it is taken. -/
def State.askHalt (s : State) (m : Master) (v : Nat) : State :=
  s.present m 0x40C00080 fun s => if s.mayHalt m then s.writeHalt v else s

/-- TS_HALT_CORE (R436). -/
def execTsHaltCore (m : Master) (k : CoreId) (s : State) : Res := .next (s.askHalt m (k.val + 256))

/-- TS_STEP (R436). -/
def execTsStep (m : Master) (k : CoreId) (s : State) : Res := .next (s.askHalt m (k.val + 512))

/-- TS_RESUME (R436). -/
def execTsResume (m : Master) (k : CoreId) (s : State) : Res := .next (s.askHalt m (k.val + 1024))

end Sys2Proof.Machine
end

