-- ==== Sys2Proof/Machine/Darner.lean ====
section
/-! DEFINITION. Uncorrectable memory errors and the Darner's patrols (R83, R144, R164, R169, R280, R430). -/

namespace Sys2Proof.Machine

/-- Granules whose tags one word of the tag region holds (R17, R164; log entry 41). -/
def tagsPerWord : Nat := 64

/-- An uncorrectable error in a tag word: every tag it covers reads 0 (R164). -/
def State.loseTags (s : State) (word : Nat) : State :=
  let g := 0x10000000 + tagsPerWord * word
  { s with tags := s.tags.filter fun x => !(decide (g ≤ x) && decide (x < g + tagsPerWord)) }.bump .DN_CNTTAG_TAGUE

/-- The requests whose buffer is hit are discarded as in R81 (R83). -/
def State.loseBuffer (s : State) (b : Nat) : State :=
  match s.bufHolder b with
  | some (n, d, r) =>
    match (s.session n).at d with
    | .committing _ => s
    | _ => s.discardFault n d r
  | none => s

/-- Session state or a Reply Log is hit: LOGERR, and a rebuild at once (R83). -/
def State.loseSessions (s : State) : State := (s.setF .HM_STAT_LOGERR 1).startRebuild

/-- What an uncorrectable error in DRAM does beyond being counted (R83, R144, R164, R169, R280). -/
def State.hitEffect (s : State) : DramHit → State
  | .buffer b => s.loseBuffer b
  | .sessionState => s.loseSessions
  | .replyLog => s.loseSessions
  | .tagWord w => s.loseTags w
  | .watch b shadow =>
    s.onWatch fun w => if shadow then { w with badShadow := b :: removeNum b w.badShadow }
                       else { w with badHome := b :: removeNum b w.badHome }
  | .registry i => (s.setF .RW_STAT_ECCERR 1).emcy 0xFF04 i
  | .data a => s.onPower fun p => { p with badGrans := a / 16 :: removeNum (a / 16) p.badGrans }

/-- DRAM_UNCORRECTABLE_ERROR: an access meets an uncorrectable error (R83). -/
def execDramUncorrectableError (h : DramHit) (s : State) : Res := .next (s.hitEffect h)

/-- What stands at an address of DRAM (R17, R83, R90, R156). -/
def State.hitAt (s : State) (a : Nat) : DramHit :=
  let buf := s.f .HM_BUFBASE_BASE * 2 ^ 29
  let log := s.f .HM_LOGBASE_BASE * 2 ^ 26
  let sh := s.watchBase true
  if 0x2EFC00000 ≤ a && a ≤ 0x2EFFFFFFF then .sessionState
  else if 0x2F0000000 ≤ a && a ≤ 0x2F3FFFFFF then .watch ((a - 0x2F0000000) / 64) false
  else if 0x2F4000000 ≤ a && a ≤ 0x2FBFFFFFF then .registry ((a - 0x2F4000000) / 32)
  else if 0x2FC000000 ≤ a && a ≤ 0x2FFFFFFFF then .tagWord ((a - 0x2FC000000) / 8)
  else if buf != 0 && decide (buf ≤ a) && decide (a < buf + 2 ^ 29) then .buffer ((a - buf) / 4096)
  else if log != 0 && decide (log ≤ a) && decide (a < log + 2 ^ 26) then .replyLog
  else if sh != 0 && decide (sh ≤ a) && decide (a < sh + watchSize) then .watch ((a - sh) / 64) true
  else .data a

/-- DRAM_PATROL: one step of the DRAM patrol; it pauses in Standby (R423, R430). -/
def execDramPatrol (h : PatrolHit) (s : State) : Res :=
  .next (
    if s.inStandby then s
    else match h with
      | .clean => s
      | .corrected => s.bump .DN_CNTDRAM_CE
      | .uncorrectable a => ((s.bump .DN_CNTDRAM_UE).setF .DN_LASTUE_ADDR a).hitEffect (s.hitAt a))

/-- A slot of the ring that no longer passes R97. -/
def LCell.damage : LCell → LCell
  | .good r => .bad r
  | .bad r => .bad r

/-- A corrected slot waits to be rewritten by the Press (R92, R430). -/
def State.askRepair (s : State) (i : Nat) : State :=
  (s.onPress fun p => { p with repairs := removeNum i p.repairs ++ [i] }).pressPump

/-- LEDGER_PATROL: one slot of the ring; a corrected slot is rewritten with its own bytes (R92, R430). -/
def execLedgerPatrol (h : PatrolHit) (slot : Nat) (s : State) : Res :=
  .next (match h with
    | .clean => s
    | .corrected => (s.bump .DN_CNTLED_CE).askRepair (slot % ringSlots)
    | .uncorrectable _ =>
      let i := slot % ringSlots
      let s := ((s.bump .DN_CNTLED_UE).setF .DN_STAT_LEDGERUE 1).setF .DN_LASTUE_ADDR (windowBase + 256 * i)
      match s.press.slots.find i with
      | some c => s.onPress fun p => { p with slots := p.slots.set i c.damage }
      | none => s)

/-- A byte of a bank that no longer reads as it was written (R430; log entry 7). -/
def State.damageBank (s : State) (a : Nat) : State :=
  let (r, s) := s.draw
  if inBank a then s.onTrust fun t => { t with fwStores := t.fwStores.set a ((Config.draw r).setWidth 8) } else s

/-- FW_PATROL: one step over the banks and the parameter area (R430). -/
def execFwPatrol (h : PatrolHit) (s : State) : Res :=
  .next (match h with
    | .clean => s
    | .corrected => s.bump .DN_CNTFW_CE
    | .uncorrectable a => (((s.bump .DN_CNTFW_UE).setF .DN_STAT_FWUE 1).setF .DN_LASTUE_ADDR a).damageBank a)

end Sys2Proof.Machine
end

