-- ==== Sys2Proof/Machine/Bus.lean ====
section
/-! DEFINITION. Accesses to control-space registers past the Fabric Guard: who may write a register, what a
write does, what a read returns (R7, R8, R20-R22 and the register tables of each block). -/

namespace Sys2Proof.Machine

/-- Registers whose writes are taken from the Steward alone (R56, R90, R130, R156, R157, R196, R293, R317, R359,
R414, R437, R438). -/
def Reg.stewardOnly : Reg → Bool
  | .TU_CTRL | .TU_PEND | .TU_PENDAT | .TU_REFOFS => true
  | .HM_CTRL | .HM_CFG | .HM_LOGBASE | .HM_BUFBASE | .HM_BUFIDX => true
  | .PR_CTRL | .PR_ACFG | .PR_ABIND => true
  | .WT_CTRL | .WT_STAT | .WT_SHADOW | .WT_SEQ | .WT_PEND | .WT_PENDAT | .WT_COUNT | .WT_SALTLO | .WT_SALTHI
  | .WT_CNTLK | .WT_CNTRES | .WT_STASH => true
  | .SE_CTRL | .SE_STAT => true
  | .RW_CTRL | .RW_CFG | .RW_SWEEP => true
  | .TC_CORE => true
  | .FG_CTRL | .FG_STAT | .FG_UPD | .FG_EPOCH | .FG_LOG | .FG_CNT | .FG_PCRANGE | .FG_PCSEL | .FG_PCVIEW
  | .FG_RALLOW | .FG_WALLOW | .FG_BASE | .FG_LIMIT | .FG_LRALLOW | .FG_LWALLOW | .FG_LBASE | .FG_LLIMIT => true
  | .P_CTRL | .LP_CFG | .HP_CFG | .CN_CFG | .SL_CFG | .AP_CFG => true
  | .TT_LCS | .TT_BOOT | .TT_ARB | .TT_TSTAT | .TT_TARM | .TT_DBG | .TT_RINSE => true
  | .PW_STATE | .PW_REQ | .PW_RSTAT | .PW_RLOG | .PW_SDR | .PW_TLR | .PW_CRR | .PW_WDCFG | .PW_WDKICK | .PW_WDSTAT
  | .PW_TILECFG | .PW_WAKE | .PW_WAKETMR | .PW_PFCFG => true
  | .DN_CFG | .DN_STAT | .DN_LASTUE | .DN_CNTDRAM | .DN_CNTLED | .DN_CNTFW | .DN_CNTTAG => true
  | _ => false

/-- The target takes a master's write of a register (R21, R197, R293, R439). -/
def State.mayWrite (s : State) (m : Master) (r : Reg) (i : Nat) : Bool :=
  match r with
  | .RW_CMD | .RW_ARG0 | .RW_ARG1 | .RW_ARG2 | .RW_RESULT => ownsBlock m i
  | .TC_CTRL | .TC_ENTRY => s.mayControl m i
  | .TC_STOPINFO => !s.slotExists i
  | .TC_CSINFO => false
  | .TS_HALT => s.mayHalt m
  | r => !r.stewardOnly || Master.isSteward m

/-- A write of WT_PEND (R140, R142, R156). -/
def State.writeWtPend (s : State) (v : Nat) : State :=
  let s := if bitOf v 1 then s.askRestore else s
  if bitOf v 0 then s.armList else s

/-- A write of WT_SALTLO or WT_SALTHI: a half of the next bank's salt (R156). -/
def State.writeSalt (s : State) (high : Bool) (v : Word) : State :=
  s.onWatch fun w =>
    let x := w.next.salt
    { w with next := { w.next with salt := if high then v ++ x.extractLsb' 0 64 else x.extractLsb' 64 64 ++ v } }

/-- A write of WT_STASH[i][w]: 8 bytes of an entry of the next bank's stash (R156). -/
def State.writeStash (s : State) (n v : Nat) : State :=
  s.onWatch fun w =>
    let l := (numsFrom 0 8).map fun i => fitTo 32 (w.next.stash.getD i [])
    let put (e : Bytes) : Bytes := e.take (8 * (n % 4)) ++ leBytes 8 v ++ e.drop (8 * (n % 4) + 8)
    { w with next := { w.next with stash := updateAt put (n / 4) l } }

/-- A write of RW_CMD[b] by its owner: ignored while an earlier command has not completed; a reserved bit that is
not zero makes it FORMAT (R197, R198). -/
def State.writeRwCmd (s : State) (m : Master) (b v : Nat) : State :=
  if s.blockBusy b then s
  else
    let bad := bitsOf v 4 6 != 0 || bitsOf v 48 16 != 0
    let s := s.writeCmd m b (if bad then 0 else bitsOf v 0 4) (bitsOf v 10 22) (bitsOf v 32 16)
    s.setF .RW_CMD_OP (bitsOf v 0 4) b

/-- A write of RW_ARG0 or RW_ARG2 of a command block: whether a reserved bit of it was set (R198). -/
def State.noteArg (s : State) (b n : Nat) (bad : Bool) : State :=
  s.onRegistry fun g =>
    let l := g.argBad.filter fun x => x != (b, n)
    { g with argBad := if bad then (b, n) :: l else l }

/-- A write of P_CTRL (R359). -/
def State.writePctrl (s : State) (p v : Nat) : State :=
  let s := s.setEnable p (bitOf v 0)
  if bitOf v 1 then s.resetPort p 0 else s

/-- A write of HM_CTRL (R88, R90). -/
def State.writeHmCtrl (s : State) (v : Nat) : State :=
  let s := s.setF .HM_CTRL_ENABLE (bitsOf v 0 1)
  if bitOf v 1 && !s.hamper.rebuilding then s.startRebuild else s

/-- A write of PR_CTRL (R127, R130). -/
def State.writePrCtrl (s : State) (v : Nat) : State :=
  let s := (s.setF .PR_CTRL_ENABLE (bitsOf v 0 1)).setF .PR_CTRL_ARCHEN (bitsOf v 1 1)
  (if bitOf v 2 then s.recoverLedger else s).pressPump

/-- A write of RW_CTRL (R195, R196): commands that waited for ENABLE are served. -/
def State.writeRwCtrl (s : State) (v : Nat) : State :=
  let s := s.setF .RW_CTRL_ENABLE (bitsOf v 0 1)
  let s := if bitOf v 1 then s.registryInit else s
  s.walkPump s.registry.waiting.length

/-- A write of TT_BOOT (R398, R414). -/
def State.writeTtBoot (s : State) (v : Nat) : State :=
  let s := (s.setF .TT_BOOT_ACTIVE (bitsOf v 0 1)).setF .TT_BOOT_TRIAL (bitsOf v 1 1)
  if bitOf v 2 then s.confirmBoot else s

/-- A staged register of the Guard takes no write while an update holds (R330). -/
def State.stage (s : State) (r : Reg) (i v : Nat) : State := if s.fb .FG_UPD_HOLD then s else s.storeReg r i v

/-- What a write that its target takes does (R7): registers whose fields act, then those that hold a value. -/
def State.applyWrite (s : State) (m : Master) (r : Reg) (i v : Nat) : State :=
  match r with
  | .TU_CTRL => (s.storeReg r i v).holdTickout
  | .TU_PEND => s.writePend v
  | .TU_PENDAT => if s.fb .TU_PEND_ARM then s else s.storeReg r i v
  | .TU_REFOFS => s.writeRefofs v
  | .HM_CTRL => s.writeHmCtrl v
  | .PR_CTRL => s.writePrCtrl v
  | .WT_PEND => s.writeWtPend v
  | .WT_PENDAT => if s.fb .WT_PEND_ARM then s else s.storeReg r i v
  | .WT_SALTLO => s.writeSalt false (BitVec.ofNat 64 v)
  | .WT_SALTHI => s.writeSalt true (BitVec.ofNat 64 v)
  | .WT_STASH => s.writeStash i v
  | .SE_CTRL => (s.storeReg r i v).sendJobs
  | .SE_STAT => if bitOf v 2 then s.clearFault i else s
  | .RW_CTRL => s.writeRwCtrl v
  | .RW_SWEEP => let t := s.storeReg r i v; if bitOf v 0 then t.askSweep else t
  | .RW_CMD => s.writeRwCmd m i v
  | .RW_ARG0 => (s.storeReg r i v).noteArg i 0 (bitsOf v 40 24 != 0)
  | .RW_ARG2 => ((s.storeReg r i v).noteArg i 2 (bitsOf v 28 4 != 0 || bitsOf v 34 30 != 0)).onRegistry fun g =>
      { g with argExtra := g.argExtra.erase i }
  | .FG_CTRL | .FG_PCRANGE | .FG_RALLOW | .FG_WALLOW | .FG_BASE | .FG_LIMIT => s.stage r i v
  | .FG_UPD => s.writeUpd v
  | .P_CTRL => s.writePctrl i v
  | .SL_TRIG => s.writeTrig (i - 12) v
  | .GP_DIR | .GP_OUT => (s.storeReg r i v).driveGpio
  | .GP_SET => s.gpioSet v
  | .GP_CLR => s.gpioClr v
  | .TT_BOOT => s.writeTtBoot v
  | .TT_RINSE => if bitOf v 0 then s.startRinse else s
  | .PW_REQ => if bitOf v 0 then s.requestStandby else s
  | .PW_SDR => s.writeSdr (bitsOf v 0 32)
  | .PW_TLR => s.resetTiles (bitsOf v 0 16)
  | .PW_CRR => s.writeCrr v
  | .PW_WDKICK => s.writeKick (bitsOf v 0 32)
  | .TS_BIST => s.writeBist v
  | .TS_HALT => s.writeHalt v
  | .TS_CTRL => s.writeTsCtrl i v
  | .TC_CTRL => s.writeCtrl i v
  | .TC_ENTRY | .TASK_ALLOW | .TASK_OVR => if s.slotExists i then s.storeReg r i v else s
  | .TC_PEND => if bitOf v 1 then s.ringDoorbell i else s
  | .TC_CORE => if bitOf v 0 then s.onCore i fun c => { c with pSreq := true } else s
  | r => s.storeReg r i v

/-- A write of a register; none where the target refuses it (R21). An offset that no table lists ignores writes
(R22). -/
def State.writeReg (s : State) (m : Master) (a : Nat) (v : Word) : Option State :=
  match regAt a with
  | none => some s
  | some (r, i) => if s.mayWrite m r i then some (s.applyWrite m r i v.toNat) else none

/-- PGEN and DEPTH, which a READ leaves in RW_ARG2 (R197). -/
def State.argBits (s : State) (r : Reg) (i : Nat) : Nat :=
  if r = .RW_ARG2 then
    match s.registry.argExtra.find i with
    | some x => x.1 % 2 ^ 16 * 2 ^ 34 + x.2 % 4 * 2 ^ 50
    | none => 0
  else 0

/-- A read of a register; an offset that no table lists reads zero (R7, R8, R22). -/
def State.readReg (s : State) (a : Nat) : Word :=
  match regAt a with
  | none => 0
  | some (r, i) => BitVec.ofNat 64 (s.regRead r i + s.argBits r i)

/-- REGISTER_WRITE: a single naturally aligned 64-bit write; a write that the Guard or the target refuses changes
no register (R7, R21, R22). -/
def execRegisterWrite (m : Master) (addr : Nat) (v : Word) (s : State) : Res :=
  .next (if addr % 8 != 0 || !inControl addr then s else s.present m addr fun s => (s.writeReg m addr v).getD s)

end Sys2Proof.Machine
end

