-- ==== Sys2Proof/Machine/Serve.lean ====
section
/-! DEFINITION. Requests to the Parameter Dictionary: the checks of R347, pieces, answers kept under their TAGs,
and the commands that carry requests (R340-R348, R351, R354, R397, R402-R409). -/

namespace Sys2Proof.Machine

/-! ## Checks -/

/-- An instance that reaches an entry (R342). -/
def reaches (i : Inst) (index : Nat) : Bool :=
  if index = 0x2A10 || index = 0x4070 then !Inst.isCan i
  else if index = 0x4030 then decide (i = .mailbox)
  else true

/-- The lifecycle state admits a write of an entry (R347 row 5, R407). -/
def State.stateAdmits (s : State) (index : Nat) : Bool :=
  let l := s.lifecycle
  if index = 0x2A10 || index = 0x4020 then l = lcCommissioned || l = lcService
  else if index = 0x4070 || index = 0x4010 then l != lcRetired
  else if index = 0x4030 then l = lcManufactured || l = lcEnrolled || l = lcService
  else true

/-- Rows 1 to 5 of R347 for a write. -/
def State.checkAccess (s : State) (i : Inst) (index sub : Nat) : Except Nat DEntry :=
  match lookupEntry index sub with
  | .error c => .error c
  | .ok e =>
    if e.acc = .ro || e.acc = .const then .error 0x06010002
    else if !reaches i index then .error 0x0800010B
    else if e.role != 0 && !s.hasRole i e.role then .error 0x08000101
    else if !s.stateAdmits index then .error 0x08000108
    else .ok e

/-- A read's checks: row 1, row 3, and a wo entry (R342, R347). -/
def checkRead (i : Inst) (index sub : Nat) : Except Nat DEntry :=
  match lookupEntry index sub with
  | .error c => .error c
  | .ok e =>
    if !reaches i index then .error 0x0800010B
    else if e.acc = .wo then .error 0x06010001
    else .ok e

/-- Domain objects that carry their own signature (R347 row 6). -/
def signedDomain (index : Nat) : Bool := index = 0x2A10 || index = 0x4010 || index = 0x4020

/-! ## Writes -/

/-- An answer that follows at once, or an abort (R347). -/
def State.finishNow (s : State) (v : Serves) (r : Except Nat State) : State := s.answerWrite v r

/-- An answer that follows once the change is in force or armed, or an abort (R347). -/
def State.finishLater (s : State) (v : Serves) : Except Nat State → State
  | .ok t => t
  | .error c => s.abortWrite v c

/-- The session of the instance, which row 4 found. -/
def State.withRole {α : Type} (s : State) (i : Inst) (g : RoleSess → Except Nat α) : Except Nat α :=
  match s.roleOf i with
  | some r => g r
  | none => .error 0x08000101

/-- A write that passes rows 7 to 9 does `g` (R347). -/
def State.checked (s : State) (index sub : Nat) (e : DEntry) (b : Bytes) (g : State → Except Nat State) : Except Nat State :=
  match s.checkValue index sub e b with
  | .error c => .error c
  | .ok _ => g s

/-- A write of 0x3800:03: Standby is asked for, or left (R422, R439). -/
def State.writePower (s : State) (v : Nat) : State := if v = 4 then s.requestStandby else s.leaveStandby

/-- VBAT as the transition finds it: as the command says, or free (R400; log entry 38). -/
def State.vbatFor (s : State) (x : Option Bool) : Bool := x.getD (Config.vbatOk s.fresh)

/-- A write of a register that the register may refuse: then 0x0606_0000, with what the refusal itself leaves (R347,
R431, R433). -/
def State.refusable (s : State) (v : Serves) (e : DEntry) (b : Bytes) (refused : State → Bool) (g : State → State) : State :=
  match s.checked v.index v.sub e b fun s => .ok (g s) with
  | .error c => s.abortWrite v c
  | .ok t => if refused t then t.abortWrite v 0x06060000 else t.writeOk v

/-- The whole value of a write past rows 1 to 5: rows 6 to 9, its effect and its answer (R347). -/
def State.performWrite (s : State) (i : Inst) (v : Serves) (e : DEntry) (b : Bytes) (vbat : Option Bool) (old : Bool) :
    State :=
  let now := s.finishNow v
  let later := s.finishLater v
  let chk (g : State → State) := now (s.checked v.index v.sub e b fun s => .ok (g s))
  if e.cls = .l && !signedDomain v.index then s.abortWrite v 0x08000102
  else match e.ty.lengthCode b.length with
    | some c => s.abortWrite v c
    | none =>
      match v.index, v.sub with
      | 0x1010, n => chk fun s => s.storeParams n
      | 0x1011, n => chk fun s => s.markDefaults n
      | 0x2A10, _ => match s.takeList i b v with
        | .ok t => t
        | .error (c, t) => t.abortWrite v c
      | 0x2C20, 1 => later (s.checked v.index v.sub e b fun s => s.takeKeyCmd (leNat b) v)
      | 0x3000, 4 => later (s.checked v.index v.sub e b fun s => .ok (s.takeApply v))
      | 0x3800, 3 => chk fun s => s.writePower (leNat b)
      | 0x3C00, 1 => s.refusable v e b (fun t => bitOf (leNat b) 8 && s.bistRefuses (bitsOf (leNat b) 0 3) && t.fb .TS_BISTRES_REFUSED)
          fun s => s.writeBist (leNat b)
      | 0x4002, _ => now (s.takeResponse i b old)
      | 0x4003, _ => now (.ok (s.endRole i))
      | 0x4010, _ => later (s.withRole i fun r => s.takeTransition i r b (s.vbatFor vbat) v)
      | 0x4020, _ => later (s.withRole i fun r => s.takeChange i r b v)
      | 0x4030, _ => later (s.withRole i fun r => s.takeToken r b v)
      | 0x4070, _ => later (s.withRole i fun r => s.takeBank r b v)
      | index, sub =>
        if 0x3C01 ≤ index && index ≤ 0x3C14 && sub = 1 then
          s.refusable v e b (fun _ => s.patternRefused (index - 0x3C01) (leNat b)) fun s => s.writeTsCtrl (index - 0x3C01) (leNat b)
        else now (s.plainWrite index sub e b)

/-! ## Pieces -/

/-- A value that moves in pieces (R344, R345). -/
def DTy.isDomain : DTy → Bool
  | .domain _ => true
  | _ => false

/-- The transfer of an entry that is open on an instance. -/
def State.transferOf (s : State) (v : Serves) (i : Inst) : Option Transfer :=
  (s.dict.transfers.get [] i).find? fun t => t.index = v.index && t.sub = v.sub

/-- The transfer of an entry is closed. -/
def State.closeTransfer (s : State) (i : Inst) (v : Serves) : State :=
  let l := (s.dict.transfers.get [] i).filter fun t => !(t.index = v.index && t.sub = v.sub)
  s.onDict fun d => { d with transfers := d.transfers.set i l }

/-- The transfer of an entry stands with what has been received, the latest last. -/
def State.keepTransfer (s : State) (i : Inst) (v : Serves) (b : Bytes) : State :=
  let s := s.closeTransfer i v
  let t : Transfer := { index := v.index, sub := v.sub, data := b, tag := v.tag, replyq := v.replyq }
  s.onDict fun d => { d with transfers := d.transfers.set i (d.transfers.get [] i ++ [t]) }

/-- A WRITE or a piece of one (R345, R347). -/
def State.serveWrite (s : State) (i : Inst) (v : Serves) (ofs : Nat) (final : Bool) (data : Bytes) : State :=
  match s.checkAccess i v.index v.sub with
  | .error c => (s.closeTransfer i v).abortWrite v c
  | .ok e =>
    let got := ((s.transferOf v i).map Transfer.data).getD []
    if ofs != got.length then (s.closeTransfer i v).abortWrite v 0x0800010D
    else
      let b := got ++ data
      if e.ty.isDomain && !final then (s.keepTransfer i v b).answer v 0x82 0 b.length none []
      else (s.performWrite i v e b none false).closeTransfer i v

/-- DOMAIN_IDLE_TIMEOUT: the transfer that has waited longest on an instance has had no piece for more than 1 s (R345,
R346). -/
def execDomainIdleTimeout (i : Inst) (s : State) : Res :=
  .next (match s.dict.transfers.get [] i with
    | [] => s
    | t :: _ =>
      let v : Serves := { inst := some i, tag := t.tag, index := t.index, sub := t.sub, replyq := t.replyq }
      (s.closeTransfer i v).answer v 0x8F 0 t.data.length (some 0x0800010D) [])

/-! ## Reads -/

/-- The most data a response carries to an instance (R344, R363); a CAN server's segments carry the whole value. -/
def State.pieceLimit (s : State) (i : Inst) : Nat :=
  match i with
  | .plp p =>
    let l := s.link p
    let port := l.port.getD 0
    let ip := if isV4 ((l.src.map Source.addr).getD 0) then 28 else 48
    min 4032 (s.maxFrame port - 18 - 4 * s.f .LP_CFG_VLANEN port - ip - 64)
  | .mailbox => 4032
  | _ => domainMax

/-- The value a read moves, with what the read makes when it begins: a challenge, a quote (R402, R404). -/
def State.readValue (s : State) (i : Inst) (index sub : Nat) (e : DEntry) (ofs : Nat) : Bytes × State :=
  if index = 0x4001 then
    let s := if ofs = 0 then s.newChallenge i else s
    (((s.trust.chals.find i).map Challenge.bytes).getD (zeros 48), s)
  else if index = 0x4060 && sub = 2 then
    let s := if ofs = 0 then s.newQuote i else s
    (s.trust.quotes.get [] i, s)
  else (s.entryBytes (some i) index sub e, s)

/-- A READ: up to LEN bytes from OFFSET, FINAL where the end is reached (R345, R347). -/
def State.serveRead (s : State) (i : Inst) (v : Serves) (ofs len : Nat) : State :=
  match checkRead i v.index v.sub with
  | .error c => s.abortWrite v c
  | .ok e =>
    let (b, s) := s.readValue i v.index v.sub e ofs
    let d := sliceAt b ofs (min len (s.pieceLimit i))
    s.readOk v ofs (decide (b.length ≤ ofs + d.length)) d

/-! ## Messages -/

/-- The instance serves requests now: the dictionary is loaded, and its channel carries them (R339, R341, R357,
R367). -/
def State.serves (s : State) (i : Inst) : Bool :=
  s.dict.loaded &&
  match i with
  | .canA => s.fieldUp 10 && !s.ports.canStopped.contains 0
  | .canB => s.fieldUp 11 && !s.ports.canStopped.contains 1
  | .mailbox => s.hostUp && decide (s.mailOut.length < mailLimit)
  | .plp p => let x := s.peers.get {} p; x.valid && x.mgmt && (s.link p).port.isSome

/-- The stored answer to a TAG (R346). -/
def State.storedAnswer (s : State) (i : Inst) (tag : BitVec 32) : Option Bytes :=
  if Inst.isCan i then none else (s.tagLog.find? fun e => e.1 = i && e.2.1 = tag).map fun e => e.2.2

/-- The stored answer is sent again (R346). -/
def State.repeatAnswer (s : State) (i : Inst) (replyq : BitVec 16) (m : Bytes) : State :=
  match i with
  | .plp p => s.sendSeq p (mgmtFrame replyq m)
  | _ => s.mail m

/-- A request of an instance: not served where the instance serves none, answered again where its TAG has been
answered, else `g` (R346). -/
def State.request (s : State) (i : Inst) (v : Serves) (g : State → State) : State :=
  if !s.serves i then s
  else match s.storedAnswer i v.tag with
    | some m => s.repeatAnswer i v.replyq m
    | none => g s

/-- OPs of R344. -/
def opRead : Nat := 1
def opWrite : Nat := 2

/-- A message that R344 answers ABORT 0x0504_0001: an OP not listed, or one that only the Steward sends, FLAGS[7:1] or
reserved bytes. -/
def badMessage (q : Mgmt) : Bool :=
  !(q.op.toNat = opRead || q.op.toNat = opWrite) || 2 ≤ q.flags.toNat || !q.rsvZero

/-- A management message, or an SDO request, on an instance (R344-R347). -/
def State.serveMessage (s : State) (i : Inst) (replyq : BitVec 16) (q : Mgmt) (badLength : Bool) : State :=
  let v : Serves := { inst := some i, tag := q.tag, index := q.index.toNat, sub := q.sub.toNat, replyq := replyq }
  s.request i v fun s =>
    if !Inst.isCan i && (badMessage q || badLength) then s.abortWrite v 0x05040001
    else if q.op.toNat = opRead then s.serveRead i v q.ofs q.len
    else s.serveWrite i v q.ofs (bitOf q.flags.toNat 0) (fitTo q.len q.data)

/-- A write of a whole value by an instance (R347). -/
def State.writeWhole (s : State) (i : Inst) (tag : BitVec 32) (index sub : Nat) (b : Bytes) (vbat : Option Bool := none)
    (old : Bool := false) : State :=
  let v : Serves := { inst := some i, tag := tag, index := index, sub := sub }
  s.request i v fun s => match s.checkAccess i index sub with
    | .error c => s.abortWrite v c
    | .ok e => s.performWrite i v e b vbat old

/-- A read of an entry by an instance (R347). -/
def State.readWhole (s : State) (i : Inst) (tag : BitVec 32) (index sub len : Nat) : State :=
  let v : Serves := { inst := some i, tag := tag, index := index, sub := sub }
  s.request i v fun s => s.serveRead i v 0 len

/-! ## Commands that carry requests -/

/-- DICT_READ (R347). -/
def execDictRead (i : Inst) (q : Mgmt) (s : State) : Res :=
  .next (s.serveMessage i 0 { q with op := 1 } false)

/-- DICT_WRITE (R347). -/
def execDictWrite (i : Inst) (q : Mgmt) (s : State) : Res :=
  .next (s.serveMessage i 0 { q with op := 2 } false)

/-- STORE_PARAMETERS: a write to 0x1010 (R340). -/
def execStoreParameters (i : Inst) (tag : BitVec 32) (sub : Byte) (v : BitVec 32) (s : State) : Res :=
  .next (s.writeWhole i tag 0x1010 sub.toNat (leBytes 4 v.toNat))

/-- RESTORE_DEFAULTS: a write to 0x1011 (R340). -/
def execRestoreDefaults (i : Inst) (tag : BitVec 32) (sub : Byte) (v : BitVec 32) (s : State) : Res :=
  .next (s.writeWhole i tag 0x1011 sub.toNat (leBytes 4 v.toNat))

/-- CHANGE_REQUEST: a write to 0x4020 (R348). -/
def execChangeRequest (i : Inst) (tag : BitVec 32) (req : Bytes) (s : State) : Res := .next (s.writeWhole i tag 0x4020 0 req)

/-- FG_APPLY: a write to 0x3000:04 (R354). -/
def execFgApply (i : Inst) (tag : BitVec 32) (v : Byte) (s : State) : Res := .next (s.writeWhole i tag 0x3000 4 [v])

/-- A key command with its CMD, written to 0x2C20:01 (R351). -/
def State.keyCmd (s : State) (i : Inst) (tag : BitVec 32) (cmd : Nat) (v : Word) : State :=
  s.writeWhole i tag 0x2C20 1 (BitVec.ofNat 8 cmd :: (leBytes 8 v.toNat).drop 1)

/-- KEYGEN (R351). -/
def execKeyCmdKeygen (i : Inst) (tag : BitVec 32) (v : Word) (s : State) : Res := .next (s.keyCmd i tag 1 v)

/-- KEYIMPORT (R351). -/
def execKeyCmdKeyimport (i : Inst) (tag : BitVec 32) (v : Word) (s : State) : Res := .next (s.keyCmd i tag 2 v)

/-- KEYDESTROY (R351). -/
def execKeyCmdKeydestroy (i : Inst) (tag : BitVec 32) (v : Word) (s : State) : Res := .next (s.keyCmd i tag 3 v)

/-- WATCH_LIST_WRITE: a list written to 0x2A10; the WRITE-OK follows once the switch is armed (R138, R347). -/
def execWatchListWrite (i : Inst) (tag : BitVec 32) (list : Bytes) (s : State) : Res :=
  .next (s.writeWhole i tag 0x2A10 0 list)

/-- BANK_UPDATE: a bank image written to 0x4070 (R397). -/
def execBankUpdate (i : Inst) (tag : BitVec 32) (content : Bytes) (s : State) : Res :=
  .next (s.writeWhole i tag 0x4070 0 content)

/-- ROLE_CHALLENGE: a read of 0x4001 (R402). -/
def execRoleChallenge (i : Inst) (tag : BitVec 32) (s : State) : Res := .next (s.readWhole i tag 0x4001 0 48)

/-- ROLE_RESPONSE: a response written to 0x4002 (R402). -/
def execRoleResponse (i : Inst) (tag : BitVec 32) (resp : Bytes) (old : Bool) (s : State) : Res :=
  .next (s.writeWhole i tag 0x4002 0 resp none old)

/-- ROLE_END: a write to 0x4003 (R403). -/
def execRoleEnd (i : Inst) (tag : BitVec 32) (s : State) : Res := .next (s.writeWhole i tag 0x4003 0 [])

/-- ATTEST_NONCE: a nonce written to 0x4060:01 (R404). -/
def execAttestNonce (i : Inst) (tag : BitVec 32) (nonce : Bytes) (s : State) : Res := .next (s.writeWhole i tag 0x4060 1 nonce)

/-- ATTEST_QUOTE: a read of 0x4060:02 from its start (R404). -/
def execAttestQuote (i : Inst) (tag : BitVec 32) (s : State) : Res := .next (s.readWhole i tag 0x4060 2 domainMax)

/-- LIFECYCLE_TRANSITION: a request written to 0x4010 (R406-R408). -/
def execLifecycleTransition (i : Inst) (tag : BitVec 32) (req : Bytes) (vbatOk : Bool) (s : State) : Res :=
  .next (s.writeWhole i tag 0x4010 0 req (some vbatOk))

/-- DEBUG_UNLOCK: a token written to 0x4030 (R409). -/
def execDebugUnlock (i : Inst) (tag : BitVec 32) (token : Bytes) (s : State) : Res := .next (s.writeWhole i tag 0x4030 0 token)

end Sys2Proof.Machine
end

