-- ==== Sys2Proof/Machine/Receive.lean ====
section
/-! DEFINITION. What arrives at a port and reaches the Hamper or the Steward: PLP frames, CAN frames, mailbox
messages; TPDOs (R44, R52, R60-R69, R344, R357, R367, R373). -/

namespace Sys2Proof.Machine

/-! ## PLP frames -/

/-- The management message of a KIND 7 frame's payload (R344). -/
def mgmtOf (p : Bytes) : Mgmt where
  op := BitVec.ofNat 8 (fieldAt p 0 1)
  flags := BitVec.ofNat 8 (fieldAt p 1 1)
  index := BitVec.ofNat 16 (fieldAt p 2 2)
  sub := BitVec.ofNat 8 (fieldAt p 4 1)
  rsvZero := fieldAt p 5 3 = 0 && fieldAt p 24 8 = 0
  tag := BitVec.ofNat 32 (fieldAt p 8 4)
  ofs := fieldAt p 12 4
  len := fieldAt p 16 4
  data := p.drop 32

/-- The port's DMA channel moves the bytes of every frame but a link-only one into a request buffer (R44, R65). -/
def movesBytes (f : Frame) : Bool := f.hdr.kind != 3

/-- A management frame's write into a buffer waits at the Guard (R65, R329); the Hamper's own wait in its inbox. -/
def State.mgmtWaits (s : State) (peer port : Nat) (f : Frame) : Bool :=
  decide (f.hdr.kind = 7) && decide (s.landing ⟨peer, f, port⟩ = .waits)

/-- A frame past R63 at the link layer: the port becomes the current one, its acknowledgement is taken, its sequence
number is classified; a new one is passed up, or served (R66-R69, R343, R344, R464). -/
def State.linkFrame (s : State) (peer port : Nat) (src : Source) (f : Frame) : State :=
  let h := f.hdr
  let s := s.setLink peer ((s.link peer).arrive port src)
  let s := if bitOf h.flags.toNat 0 then s.takeAck peer h.lack.toNat h.sack.toNat else s
  if h.kind = 3 then s.sendUnsent peer
  else
    let (c, l) := (s.link peer).take h
    let s := s.setLink peer l
    let s := if bitOf h.flags.toNat 1 then s.loseInst (.plp peer) else s
    if c = .dup then (s.bump .HM_CNTLINK_LDUP).sendUnsent peer
    else
      let s := (s.passUp peer port f).sendUnsent peer
      if h.kind = 7 then
        (s.landFrame ⟨peer, f, port⟩ (s.landing ⟨peer, f, port⟩)).serveMessage (.plp peer) h.replyq (mgmtOf f.payload) false
      else s

/-- The frame at the head of a receive buffer is taken out of it. -/
def State.popRx (s : State) (p : Nat) : State := s.setRx p ((s.rxQueue p).drop 1)

/-- A charged frame at the head of a Lane Port's receive buffer (R44, R55, R61-R63, R361), or it waits for the DMA meter. -/
def State.takeRx (s : State) (p : Nat) (x : RxFrame) : State :=
  match x.content with
  | .udp _ src _ _ _ _ len f =>
    if !s.isPlp p x.content then (s.popRx p).laneOther p x.content
    else match s.peerOf src with
      | none => (s.popRx p).bump .HM_CNTDROP_HDRDROP
      | some peer =>
        if badHeader f.hdr len f.payload (s.peers.get {} peer).mgmt then (s.popRx p).bump .HM_CNTDROP_HDRDROP
        else if movesBytes f && s.exhausted (dmaMeter p) then s.noteHeld (dmaMeter p)
        else if s.mgmtWaits peer p f then s
        else
          let s := if movesBytes f then s.charge (dmaMeter p) (32 + f.payload.length) else s
          (s.popRx p).linkFrame peer p src f
  | c => (s.popRx p).laneOther p c

/-- The frames of a receive buffer charged to the port meter, oldest first, as far as it admits them (R44, R462). -/
def State.chargeFrames (s : State) (p : Nat) : List RxFrame → List RxFrame × State
  | [] => ([], s)
  | x :: l =>
    if x.charged then
      let r := s.chargeFrames p l
      (x :: r.1, r.2)
    else if s.admits (portMeter p) then
      let r := (s.charge (portMeter p) 1).chargeFrames p l
      ({ x with charged := true } :: r.1, r.2)
    else (x :: l, s.noteHeld (portMeter p))

/-- The frames that a receive buffer holds are charged to the port meter, or wait for it (R44, R52). -/
def State.chargeRx (s : State) (p : Nat) : State :=
  let r := s.chargeFrames p (s.rxQueue p)
  r.2.setRx p r.1

/-- The Lane Ports' held frames are released at a boundary, in order (R32, R46). -/
def State.releaseLanes (s : State) : State := (numsFrom 0 8).foldl State.chargeRx s

/-- LINK_FRAME_RECEIVE: the oldest frame in a Lane Port's receive buffer (R68). -/
def execLinkFrameReceive (p : Fin 8) (s : State) : Res :=
  .next (
    let t := s.chargeRx p.val
    match t.rxQueue p.val with
    | x :: _ => if x.charged then t.takeRx p.val x else t
    | [] => s)

/-! ## Mailbox -/

/-- MAILBOX_COPY: the Steward copies the delivered message and serves it; it waits while 16 outbound messages are held
or before the dictionary load (R344, R367). -/
def execMailboxCopy (s : State) : Res :=
  .next (match s.ports.mailbox.inMsg with
    | none => s
    | some (n, q) =>
      if !s.dict.loaded || decide (mailLimit ≤ s.mailOut.length) then s
      else
        let carried := if q.op.toNat = opRead then 0 else q.len
        let t := s.onMailbox fun b => { b with inMsg := none, busy := false }
        t.serveMessage .mailbox 0 q (n != 32 + carried))

/-! ## CAN -/

/-- The SDO server's instance of a CAN port. -/
def canServer (c : CanPort) : Inst := if c = 0 then .canA else .canB

/-- A received frame's service (R341, R357, R373). -/
def State.takeCan (s : State) (c : CanPort) (f : CanFrame) : State :=
  let sdo (op : Nat) (index : BitVec 16) (sub : Byte) (data : Bytes) : State :=
    s.serveMessage (canServer c) 0
      { op := BitVec.ofNat 8 op, flags := 1, index := index, sub := sub, rsvZero := true, tag := 0, ofs := 0,
        len := if op = opRead then domainMax else data.length, data := data } false
  match f with
  | .extended => s
  | .nmt cmd node => s.nmt c.val cmd.toNat node.toNat
  | .sdoRead index sub => sdo opRead index sub []
  | .sdoWrite index sub data => sdo opWrite index sub data
  | .other => s

/-- Frames a CAN port's receive buffer holds (R52). -/
def canBuffer : Nat := 64

/-- The held frames of a CAN port. -/
def State.canHeld (s : State) (c : CanPort) : List CanFrame := s.ports.canRx.get [] c.val

/-- A frame joins a CAN port's receive buffer, or is dropped (R52). -/
def State.holdCan (s : State) (c : CanPort) (f : CanFrame) : State :=
  let p := canPort c
  if canBuffer ≤ (s.canHeld c).length then s.bump .ENG_OVR_DROPS 1 (10 + p)
  else (s.noteHeld (portMeter p)).onPorts fun q => { q with canRx := q.canRx.set c.val (s.canHeld c ++ [f]) }

/-- CAN_FRAME_RECEIVE: counted, charged, or held; a frame on a port that stays up in Standby wakes the device (R44,
R52, R373, R424, R437). -/
def execCanFrameReceive (c : CanPort) (f : CanFrame) (s : State) : Res :=
  .next (
    let p := canPort c
    if !s.fieldUp p then s
    else
      let s1 := if s.inStandby then s.leaveStandby else s
      let s1 := s1.bump .CN_CNT_RXFRAMES 1 p
      if !(s1.canHeld c).isEmpty || s1.exhausted (portMeter p) then s1.holdCan c f
      else (s1.charge (portMeter p) 1).takeCan c f)

/-- Held frames of a CAN port are released at a boundary, in order, as the port meter admits them (R32, R46, R52). -/
def State.releaseCan (s : State) (c : CanPort) : Nat → State
  | 0 => s
  | n + 1 =>
    match s.canHeld c with
    | [] => s
    | f :: l =>
      let p := canPort c
      if s.exhausted (portMeter p) then s.noteHeld (portMeter p)
      else
        let t := (s.charge (portMeter p) 1).onPorts fun q => { q with canRx := q.canRx.set c.val l }
        (t.takeCan c f).releaseCan c n

/-- The mapped entries of a TPDO, with their bytes (R357). -/
def State.tpdoData (s : State) (n : Nat) : Bytes :=
  (numsFrom 1 8).flatMap fun k =>
    let m := leNat ((lookupEntry (0x1A00 + n) k).toOption.elim [] fun e => s.entryBytes none (0x1A00 + n) k e)
    if m = 0 then []
    else match lookupEntry (m / 65536) (m / 256 % 256) with
      | .ok e => fitTo (m % 256 / 8) (s.entryBytes none (m / 65536) (m / 256 % 256) e)
      | .error _ => []

/-- A TPDO is enabled: bit 31 of its COB-ID is 0 (R357; log entry 39). -/
def State.tpdoOn (s : State) (n : Nat) : Bool :=
  match lookupEntry (0x1800 + n) 1 with
  | .ok e => !bitOf (leNat (s.entryBytes none (0x1800 + n) 1 e)) 31
  | .error _ => false

/-- TPDO_EVENT: the event timer of a TPDO expires (R357). -/
def execTpdoEvent (c : CanPort) (n : Fin 4) (s : State) : Res :=
  .next (
    if s.dict.loaded && s.fieldUp (canPort c) && !s.ports.canStopped.contains c.val && s.tpdoOn n.val then
      s.emit (.canTpdo c n.val (s.tpdoData n.val))
    else s)

end Sys2Proof.Machine
end

