-- ==== Sys2Proof/Machine/Boundary.lean ====
section
/-! DEFINITION. The tick boundary: one cycle, its steps in the order of R32, and what other rules place in it
(R30, R33, R38-R41, R46, R141, R348, R379, R405, R422). -/

namespace Sys2Proof.Machine

/-- Step 1: the tick number rises by one, the phase returns to 0, a period change is applied, the correction of
the new tick is set, TICKOUT rises (R30, R32, R33, R38-R41). -/
def State.startTick (s : State) (tai : Nat) : State :=
  let s := (s.setF .TU_TICK_TICK (s.tickNo + 1)).setF .TU_PHASE_PHASE 0
  ({ s with tick := { s.tick with tai := tai } }).applyPeriod.discipline.raiseTickout

/-- Step 5: held jobs, dispatches, frames and requests are released in the order of R46; descheduled tasks may run. -/
def State.releaseAll (s : State) : State :=
  let s := s.sendJobs.dispatchAll.releaseOut.releaseLanes.serveHost
  let s := (s.releaseCan 0 (s.canHeld 0).length).releaseCan 1 (s.canHeld 1).length
  s.loopsBoundary.tasksBoundary

/-- What other rules place at a boundary: the Watch List's switch, dictionary changes, a key rotation, the steps of
Standby. -/
def State.otherBoundary (s : State) : State :=
  s.dropFailedList.watchBoundary.changesBoundary.rotationBoundary.standbyBoundary

/-- The meters that hold units as the tick ends have an overrun (R32 step 4, R57). -/
def State.noteHeldUnits (s : State) : State :=
  (numsFrom 0 36).foldl (fun s e => if 0 < s.heldUnits e then s.noteHeld (.eng e) else s) s

/-- A tick boundary (R32). -/
def State.boundary (s : State) (tai : Nat) : State :=
  let t := s.tickNo
  let s := ((s.startTick tai).closeBlock t).discardAllLate
  s.noteHeldUnits.recordMeters.reloadMeters.releaseAll.otherBoundary

/-- TICK_BOUNDARY: the tick length expires; nothing happens while the Tick Unit does not run (R461). The tick number
never passes the mark: one that is due is written first, and a parked die, which writes none, lets no boundary pass it
(R31, R125). `tai` is the boundary's IEEE 1588 time (R112). -/
def execTickBoundary (tai : BitVec 64) (s : State) : Res :=
  .next (
    if !s.tick.running then s
    else
      let t := s.keepMark (s.tickNo + 1)
      if s.tickNo < t.tickMark then t.boundary tai.toNat else s)

end Sys2Proof.Machine
end

