-- ==== Sys2Proof/Machine/Operands.lean ====
section
/-! DEFINITION. Operands of instructions: general, capability and predicate registers, lc, the guard, and
immediates (R199-R202, R208, R213-R218, R232, R275, R277). -/

namespace Sys2Proof.Machine

/-- The value an instruction reads from general register `n` (R200, R232). -/
def CoreS.getG (c : CoreS) (k n : Nat) : Word :=
  match c.gLoc k n with
  | none => 0
  | some l => (seenG l c.flights).getD (c.readLoc l)

/-- Writes general register `n`; a write to g0 is discarded, a load under way for it is too (R200, R232). -/
def CoreS.setG (c : CoreS) (k n : Nat) (v : Word) : CoreS :=
  match c.gLoc k n with
  | none => c
  | some l => { c with flights := dropG l c.flights }.writeLoc v l

/-- The results under way for a general register's place are settled before a new one is under way: one that
the next instruction would see is written, one in its delay position is discarded (R232). -/
def CoreS.settleG (c : CoreS) (l : GLoc) : CoreS :=
  let r := { c with flights := dropG l c.flights }
  match seenG l c.flights with
  | some v => r.writeLoc v l
  | none => r

/-- The same for a capability register's place. -/
def CoreS.settleC (c : CoreS) (l : CLoc) : CoreS :=
  let r := { c with flights := dropC l c.flights }
  match seenC l c.flights with
  | some v => r.writeCLoc v l
  | none => r

/-- A result under way is added. -/
def CoreS.addFlight (c : CoreS) (f : Flight) : CoreS := { c with flights := c.flights ++ [f] }

/-- The result of an operation beside the pipe, or of a load, goes to general register `n` (R232, R302). -/
def CoreS.setGLate (c : CoreS) (k n : Nat) (v : Word) (load : Bool) : CoreS :=
  match c.gLoc k n with
  | none => c
  | some l => (c.settleG l).addFlight (.g l v load 0)

/-- The value an instruction reads from capability register `n` (R232). -/
def CoreS.getC (c : CoreS) (n : Nat) : Cap :=
  match c.cLoc n with
  | none => nullCap
  | some l => (seenC l c.flights).getD (c.readCLoc l)

/-- Writes capability register `n`. -/
def CoreS.setC (c : CoreS) (n : Nat) (v : Cap) : CoreS :=
  match c.cLoc n with
  | none => c
  | some l => { c with flights := dropC l c.flights }.writeCLoc v l

/-- A capability load's result goes to capability register `n` (R232, R235). -/
def CoreS.setCLate (c : CoreS) (n : Nat) (v : Cap) : CoreS :=
  match c.cLoc n with
  | none => c
  | some l => (c.settleC l).addFlight (.c l v 0)

/-- Predicate `n` (R200, R275). -/
def CoreS.getP (c : CoreS) (n : Nat) : Bool :=
  if n = 0 then true
  else match c.running with
    | none => n ≥ 4 && bitOf c.mb.p n
    | some i =>
      if n < 4 || c.level = 0 then bitOf (c.slot i).p n
      else if c.level = 1 then bitOf (c.slot i).sb.p n
      else bitOf c.mb.p n

/-- A number with bit `n` set to `b`. -/
def putBit (x n : Nat) (b : Bool) : Nat := if b then setBitOf x n else clearBitOf x n

/-- Writes predicate `n`; a write to p0 is discarded (R200). -/
def CoreS.setP (c : CoreS) (n : Nat) (b : Bool) : CoreS :=
  if n = 0 then c
  else match c.running with
    | none => if n < 4 then c else { c with mb := { c.mb with p := putBit c.mb.p n b } }
    | some _ =>
      if n < 4 || c.level = 0 then c.onTask fun t => { t with p := putBit t.p n b }
      else if c.level = 1 then c.onTask fun t => { t with sb := { t.sb with p := putBit t.sb.p n b } }
      else { c with mb := { c.mb with p := putBit c.mb.p n b } }

/-- lc (R199, R275). -/
def CoreS.getLc (c : CoreS) : Nat :=
  match c.running with
  | none => c.mb.lc
  | some i => if c.level = 0 then (c.slot i).lc else if c.level = 1 then (c.slot i).sb.lc else c.mb.lc

/-- Writes lc, 32 bits. -/
def CoreS.setLc (c : CoreS) (v : Nat) : CoreS :=
  match c.running with
  | none => { c with mb := { c.mb with lc := v % 2 ^ 32 } }
  | some _ =>
    if c.level = 0 then c.onTask fun t => { t with lc := v % 2 ^ 32 }
    else if c.level = 1 then c.onTask fun t => { t with sb := { t.sb with lc := v % 2 ^ 32 } }
    else { c with mb := { c.mb with lc := v % 2 ^ 32 } }

/-- ARITH in force for the running task; zero on an idle core (R222, R277). -/
def CoreS.arith (c : CoreS) : Nat :=
  match c.running with
  | some i => (c.slot i).arith.toNat
  | none => 0

/-- PG 0 with SN 1 is not a guard (R208). -/
def guardOk (p : Guard) : Bool := !(p.pg.val = 0 && p.sn)

/-- The guard holds (R207, R208). -/
def CoreS.guardOn (c : CoreS) (p : Guard) : Bool := c.getP p.pg.val != p.sn

/-! ## The state's registers -/

/-- A general register of core `k`. -/
def State.g (s : State) (k n : Nat) : Word := (s.core k).getG k n

/-- Writes a general register of core `k`. -/
def State.setG (s : State) (k n : Nat) (v : Word) : State := s.onCore k fun c => c.setG k n v

/-- A result beside the pipe for a general register of core `k`. -/
def State.setGLong (s : State) (k n : Nat) (v : Word) : State := s.onCore k fun c => c.setGLate k n v false

/-- A capability register of core `k`. -/
def State.c (s : State) (k n : Nat) : Cap := (s.core k).getC n

/-- Writes a capability register of core `k`. -/
def State.setC (s : State) (k n : Nat) (v : Cap) : State := s.onCore k fun c => c.setC n v

/-- pcc's OFFSET on core `k`. -/
def State.here (s : State) (k : Nat) : Nat := (s.core k).pcc.offset

/-- The OFFSET raised by a signed amount, modulo 2^32 (R236). -/
def Cap.moved (c : Cap) (d : Int) : Cap := c.withOffset (ofSigned 32 ((c.offset : Int) + d))

/-- An exception at the instruction itself, with no FINFO or FOFS. -/
def State.faultHere (s : State) (k code : Nat) : Act := .fault s ⟨code, 0, 0⟩ (s.here k)

end Sys2Proof.Machine
end

