-- ==== Sys2Proof/Machine/Access.lean ====
section
/-! DEFINITION. Accesses of a core to memory: the checks of both halves, the Fabric Guard, the store buffer
and the targets (R21, R171-R175, R231-R235, R305-R311). -/

namespace Sys2Proof.Machine

/-- What a check or an access comes to: it passes with a value, waits and is presented again, or raises an
exception. -/
inductive Got (α : Type) where
  | ok (s : State) (a : α)
  | wait (s : State)
  | bad (s : State) (e : Exc)

/-- The next check or access, after one that passed. -/
def Got.bind {α β : Type} (g : Got α) (f : State → α → Got β) : Got β :=
  match g with
  | .ok s a => f s a
  | .wait s => .wait s
  | .bad s e => .bad s e

/-- What the instruction does once its checks have passed; a fault is precise at the instruction (R171). -/
def Got.act {α : Type} (g : Got α) (k : Nat) (f : State → α → Act) : Act :=
  match g with
  | .ok s a => f s a
  | .wait s => .wait s
  | .bad s e => .fault s e (s.here k)

/-! ## Checks -/

/-- How an access is reported: its capability register, its effective offset, which half, and whether it is a
fetch (R222 FINFO). -/
structure Tell where
  creg : Nat
  ofs : Int
  half : Bool := false
  fetch : Bool := false

/-- A fault of a check of R171. -/
def Tell.exc (t : Tell) (f : CFault) : Exc := capExc t.creg f t.ofs t.half t.fetch

/-- Checks 1 to 4 of R171. -/
def State.check14 (s : State) (k : Nat) (c : Cap) (sealedOk : Bool) (t : Tell) : Got Entry :=
  match checks123 c sealedOk with
  | some f => .bad s (t.exc f)
  | none => match s.entryFor k c.index c.gen with
    | .hit s e => .ok s e
    | .wait s => .wait s
    | .fail s f => .bad s (t.exc f)

/-- Checks 1 to 5 of R171. -/
def State.check15 (s : State) (k : Nat) (c : Cap) (sealedOk : Bool) (t : Tell) : Got Entry :=
  (s.check14 k c sealedOk t).bind fun s e =>
    if c.gen != e.gen then .bad s (t.exc (.generation 5)) else .ok s e

/-- Checks 1 to 9 of R171 on an access of `n` bytes. -/
def State.check19 (s : State) (k : Nat) (c : Cap) (kind : AccKind) (n : Nat) (t : Tell) : Got Entry :=
  (s.check14 k c false t).bind fun s e =>
    match s.checks59 c e (k = stewardCore) kind t.ofs n with
    | some f => .bad s (t.exc f)
    | none => .ok s e

/-- The target refuses an access the Guard admits: in control space all but a single aligned 64-bit one, and
a fetch from the targets of R297 (R21, R297). -/
def targetRefuses (a n : Nat) (fetch : Bool) : Bool :=
  (inControl a && !(n = 8 && a % 8 = 0 && !fetch)) || (fetch && (inLedger a || inParam a))

/-- A Target Refusal: CHECK 0 and FOFS; R280 names no other field, so that FINFO is zero (R281 step 4). -/
def Tell.refusal (t : Tell) : Exc := ⟨cRefusal, 0, t.ofs⟩

/-- Check 10: the Fabric Guard, then the target (R171, R326). The access presents the COLOUR of its entry (R194). -/
def State.check10 (s : State) (k colour : Nat) (write : Bool) (a n : Nat) (t : Tell) : Got Unit :=
  match s.verdict (s.coreAgent k colour) write a n with
  | .hold => .wait s
  | .refuse b r =>
    let s := s.guardNote (s.coreAgent k colour) write t.fetch a n
    let t := { t with ofs := t.ofs + ((b - a : Nat) : Int) }
    if r = .unassigned then .bad s t.refusal else .bad s (t.exc .guard)
  | .allow => if targetRefuses a n t.fetch then .bad s t.refusal else .ok s ()

/-- An access past its checks: its entry's TYPE and COLOUR, the effective rights, and the physical address and size of
each half. -/
structure Passed where
  ty : Nat
  colour : Nat
  rights : Nat
  parts : List (Nat × Nat)

/-- The halves of an access of `n` bytes: offset, size, second half (R233). -/
def halves (ofs : Int) (n : Nat) : List (Int × Nat × Bool) :=
  let r := (ofs % (n : Int)).toNat
  if r = 0 then [(ofs, n, false)] else [(ofs, n - r, false), (ofs + ((n - r : Nat) : Int), r, true)]

/-- Every half passes checks 1 to 10, in order (R174, R234). -/
def State.passParts (s : State) (k creg : Nat) (c : Cap) (kind : AccKind) :
    List (Int × Nat × Bool) → Got Passed
  | [] => .ok s ⟨0, 0, 0, []⟩
  | (ofs, n, h) :: l =>
    let t : Tell := { creg := creg, ofs := ofs, half := h }
    (s.check19 k c kind n t).bind fun s e =>
      (s.check10 k e.colour kind.isWrite (physAddr e ofs) n t).bind fun s _ =>
        (s.passParts k creg c kind l).bind fun s p =>
          .ok s ⟨e.ty, e.colour, effRights c e (k = stewardCore), (physAddr e ofs, n) :: p.parts⟩

/-- The Guard counts what it admitted (R333). -/
def State.notePassed (s : State) (k : Nat) (write : Bool) (p : Passed) : State :=
  p.parts.foldl (fun s x => s.guardNote (s.coreAgent k p.colour) write false x.1 x.2) s

/-- A data access of `n` bytes through capability register `creg` (R171, R233, R234). -/
def State.passData (s : State) (k creg : Nat) (c : Cap) (kind : AccKind) (ofs : Int) (n : Nat) : Got Passed :=
  (s.passParts k creg c kind (halves ofs n)).bind fun s p => .ok (s.notePassed k kind.isWrite p) p

/-- An access that is never split (R175). -/
def State.passWhole (s : State) (k creg : Nat) (c : Cap) (kind : AccKind) (ofs : Int) (n : Nat) : Got Passed :=
  (s.passParts k creg c kind [(ofs, n, false)]).bind fun s p => .ok (s.notePassed k kind.isWrite p) p

/-! ## The store buffer -/

/-- The byte an entry holds for a physical address. -/
def StoreEnt.byteAt (e : StoreEnt) (a : Nat) : Option Byte :=
  if a / 16 = e.gran then
    match e with
    | .data _ l => lookupIn (a % 16) l
    | .capab _ v => (leBytes 16 v.bits.toNat)[a % 16]?
  else none

/-- The bytes an entry holds for a range, where it holds them all. -/
def StoreEnt.bytesAt (e : StoreEnt) (a n : Nat) : Option Bytes :=
  (numsFrom a n).mapM e.byteAt

/-- The entry overlaps a range. -/
def StoreEnt.overlaps (e : StoreEnt) (a n : Nat) : Bool := (numsFrom a n).any fun b => (e.byteAt b).isSome

/-- The youngest entry that overlaps a range, oldest first in the list. -/
def youngest (a n : Nat) (l : List StoreEnt) : Option StoreEnt := (l.filter fun e => e.overlaps a n).getLast?

/-- Entries drain in order until none overlaps the range (R306, R307). -/
def State.drainOver (s : State) (k a n : Nat) : Nat → State
  | 0 => s
  | m + 1 =>
    match (s.core k).store with
    | [] => s
    | e :: r =>
      if (s.core k).store.any fun x => x.overlaps a n then
        ((s.onCore k fun c => { c with store := r }).drainEnt e).drainOver k a n m
      else s

/-- Every entry that overlaps a range has drained. -/
def State.drainFor (s : State) (k a n : Nat) : State := (s.drainOver k a n (s.core k).store.length).settle k

/-- A granule of the range has an uncorrectable error (R280). -/
def State.badIn (s : State) (a n : Nat) : Bool := (numsFrom a n).any fun b => s.power.badGrans.contains (b / 16)

/-- A Machine Check on an access (R280). -/
def machineCheck (ofs : Int) : Exc := ⟨cMachine, 0, ofs⟩

/-- The free values of the parameter area are drawn anew for the next access (log entry 9). -/
def State.drawParam (s : State) (a : Nat) : State := if inParam a then s.draw.2 else s

/-- A load from memory, past the store buffer. -/
def State.loadMem (s : State) (a n : Nat) (ofs : Int) : Got Bytes :=
  if s.badIn a n then .bad s (machineCheck ofs) else .ok (s.drawParam a) (s.targetBytes a n)

/-- The master a core's accesses come from. -/
def coreMaster (k : Nat) : Master := .core (Fin.ofNat 129 k)

/-- A load of a half or of a part within one granule (R306, R310). -/
def State.loadPart (s : State) (k a n : Nat) (ofs : Int) : Got Bytes :=
  if inControl a then .ok s (leBytes 8 (s.readReg a).toNat)
  else match youngest a n (s.core k).store with
    | none => s.loadMem a n ofs
    | some e => match e.bytesAt a n with
      | some b => .ok s b
      | none => (s.drainFor k a n).loadMem a n ofs

/-- The parts of a load, in order. -/
def State.loadParts (s : State) (k : Nat) (ofs : Int) : List (Nat × Nat) → Got Bytes
  | [] => .ok s []
  | (a, n) :: l => (s.loadPart k a n ofs).bind fun s b =>
      (s.loadParts k (ofs + (n : Int)) l).bind fun s r => .ok s (b ++ r)

/-- Bytes written over those an entry holds. -/
def mergeBytes (new old : List (Nat × Byte)) : List (Nat × Byte) :=
  new ++ old.filter fun b => (lookupIn b.1 new).isNone

/-- Bytes with their offsets in a granule. -/
def withOffsets (o : Nat) : Bytes → List (Nat × Byte)
  | [] => []
  | b :: l => (o, b) :: withOffsets (o + 1) l

/-- An entry that takes a data store of its granule: its tag bit is 0 (R305). -/
def StoreEnt.merge (e : StoreEnt) (new : List (Nat × Byte)) : StoreEnt :=
  match e with
  | .data g l => .data g (mergeBytes new l)
  | .capab g v => .data g (mergeBytes new (withOffsets 0 (leBytes 16 v.bits.toNat)))

/-- Entries of the store buffer (R305). -/
def storeSize : Nat := 8

/-- The oldest entry has drained where no entry is free (R305, R307). -/
def State.makeRoom (s : State) (k : Nat) : State :=
  match (s.core k).store with
  | e :: r => if storeSize ≤ (e :: r).length then (s.onCore k fun c => { c with store := r }).drainEnt e else s
  | [] => s

/-- The parts of a range, cut at granules (R261, R305, R306). -/
def granParts (a n : Nat) : List (Nat × Nat) :=
  if n = 0 then []
  else
    let first := min n (16 - a % 16)
    (a, first) :: (numsFrom 0 (divUp (n - first) 16)).map fun i => (a + first + 16 * i, min 16 (n - first - 16 * i))

/-- A new entry at the end of the store buffer. -/
def State.pushStore (s : State) (k : Nat) (e : StoreEnt) : State :=
  (s.makeRoom k).onCore k fun c => { c with store := c.store ++ [e], pushed := c.pushed + 1 }

/-- A data store within one granule enters the store buffer (R305). -/
def State.bufferStore (s : State) (k a : Nat) (b : Bytes) : State :=
  let new := withOffsets (a % 16) b
  match (s.core k).store.getLast? with
  | some e =>
    if e.gran = a / 16 then s.onCore k fun c => { c with store := c.store.dropLast ++ [e.merge new] }
    else s.pushStore k (.data (a / 16) new)
  | none => s.pushStore k (.data (a / 16) new)

/-- A store of a half or of a part within one granule (R305, R310); in control space the target may refuse
it (R21). -/
def State.storePart (s : State) (k a : Nat) (b : Bytes) (t : Tell) : Got Unit :=
  if inControl a then
    match s.writeReg (coreMaster k) a (BitVec.ofNat 64 (leNat b)) with
    | some s => .ok s ()
    | none => .bad s t.refusal
  else .ok (s.bufferStore k a b) ()

/-- The bytes of a VST or of a block-repeat element take one entry for each granule they touch (R305). -/
def State.pushGrans (s : State) (k : Nat) : List (Nat × Nat) → Bytes → State
  | [], _ => s
  | (a, n) :: l, b => (s.pushStore k (.data (a / 16) (withOffsets (a % 16) (b.take n)))).pushGrans k l (b.drop n)

/-- The parts of a block-repeat element's write, in order (R305, R310). -/
def State.elemParts (s : State) (k : Nat) (b : Bytes) (t : Tell) : List (Nat × Nat) → Got Unit
  | [] => .ok s ()
  | (a, n) :: l =>
    (if inControl a then s.storePart k a (b.take n) t else .ok (s.pushGrans k (granParts a n) (b.take n)) ()).bind
      fun s _ => s.elemParts k (b.drop n) t l

/-- The parts of a store, in order. -/
def State.storeParts (s : State) (k : Nat) (b : Bytes) (t : Tell) : List (Nat × Nat) → Got Unit
  | [] => .ok s ()
  | (a, n) :: l => (s.storePart k a (b.take n) t).bind fun s _ => s.storeParts k (b.drop n) t l

/-- An access through a device window, or to control space, waits for the store buffer to drain (R310). -/
def State.drainDevice (s : State) (k : Nat) (p : Passed) : State :=
  if p.ty = 5 || p.parts.any (fun x => inControl x.1) then s.drainAll k else s

/-! ## Data loads and stores -/

/-- A data load of `n` bytes through a capability register (R231). -/
def State.loadData (s : State) (k creg : Nat) (c : Cap) (ofs : Int) (n : Nat) : Got Bytes :=
  (s.passData k creg c .load ofs n).bind fun s p => (s.drainDevice k p).loadParts k ofs p.parts

/-- A data store through a capability register (R231). -/
def State.storeData (s : State) (k creg : Nat) (c : Cap) (ofs : Int) (b : Bytes) : Got Unit :=
  (s.passData k creg c .store ofs b.length).bind fun s p =>
    (s.drainDevice k p).storeParts k b { creg := creg, ofs := ofs } p.parts

/-- A value that a capability load or store, ENQ or DEQ moves while a sweep runs: where its INDEX hits the sweep filter
the core reads the entry through its SDC, and the tag of a value whose entry is quarantined is cleared (R192). -/
def State.sweepFilter (s : State) (k : Nat) (c : Cap) : Got Cap :=
  let filtered (q : Bool) : Cap := if q then { c with tag := false } else c
  if s.fb .RW_STAT_SWEEPING && c.tag && s.registry.sweepSet.any (fun i => decide (i % 4096 = c.index % 4096)) then
    match s.entryFor k c.index c.gen with
    | .hit s e => .ok s (filtered e.quar)
    | .wait s => .wait s
    | .fail _ _ => .ok s (filtered (s.entry c.index).quar)
  else .ok s c

/-- Values moved together (R192). -/
def State.sweepFilters (s : State) (k : Nat) : List Cap → Got (List Cap)
  | [] => .ok s []
  | c :: l => (s.sweepFilter k c).bind fun s c => (s.sweepFilters k l).bind fun s l => .ok s (c :: l)

/-- A capability load (R235, R162, R192, R306). -/
def State.loadCap (s : State) (k creg : Nat) (c : Cap) (ofs : Int) : Got Cap :=
  (s.passWhole k creg c .capLoad ofs 16).bind fun s p =>
    let a := (p.parts.map Prod.fst).headD 0
    let keep (v : Cap) : Cap := { v with tag := v.tag && bitOf p.rights rLC }
    let whole (s : State) : Got Cap :=
      (s.loadMem a 16 ofs).bind fun s b =>
        s.sweepFilter k (keep ⟨BitVec.ofNat 128 (leNat b), hasTags a && s.tag (a / 16)⟩)
    match youngest a 16 (s.core k).store with
    | none => whole s
    | some (.capab _ v) => s.sweepFilter k (keep { v with tag := v.tag && hasTags a })
    | some (.data g l) => match (StoreEnt.data g l).bytesAt a 16 with
      | some b => .ok s ⟨BitVec.ofNat 128 (leNat b), false⟩
      | none => whole (s.drainFor k a 16)

/-- A capability store (R235, R172, R192). -/
def State.storeCap (s : State) (k creg : Nat) (c : Cap) (ofs : Int) (v : Cap) : Got Unit :=
  (s.sweepFilter k v).bind fun s v => (s.passWhole k creg c (.capStore v.tag (!bitOf v.rights rG)) ofs 16).bind fun s p =>
    .ok (s.pushStore k (.capab ((p.parts.map Prod.fst).headD 0 / 16) v)) ()

end Sys2Proof.Machine
end

