-- ==== Sys2Proof/Machine/Issue.lean ====
section
/-! DEFINITION. How a core issues an instruction: what holds it, the pending imprecise trap, the fetch check,
decode, the guard, completion (R173, R207-R212, R225, R226, R288, R297; log entry 11). -/

namespace Sys2Proof.Machine

/-- The core takes no instruction now: no task and no handler, held, parked, its vector unit Waking, waiting for
the Walker, its task due to leave it, or Task Start to come first (R268, R292, R436, R428, R221, R180, R42, R47,
R271). -/
def State.issueHeld (s : State) (k : Nat) : Bool :=
  let c := s.core k
  !c.active || c.cstop || (c.halted && !c.stepping) || s.issueOff || c.vunit = .waking || c.walkWait.isSome ||
  s.leaveDue k || c.startDue

/-- The check of an instruction fetch at an offset of pcc (R173). -/
def State.fetchAt (s : State) (k : Nat) (ofs : Nat) : Got Unit :=
  let c := (s.core k).pcc
  let t : Tell := { creg := 15, ofs := ofs, fetch := true }
  (s.check19 k c .fetch 4 t).bind fun s e =>
    (s.check10 k e.colour false (physAddr e ofs) 4 t).bind fun s _ =>
      let a := physAddr e ofs
      let s := s.guardNote (s.coreAgent k e.colour) false true a 4
      if s.badIn a 4 then .bad s (machineCheck ofs) else .ok s ()

/-- One instruction, or the iterations of a pair, have completed (R222 RETIRED, R288, R302). -/
def CoreS.retire (c : CoreS) (n : Nat) : CoreS :=
  let c := { (c.setCr 33 ((c.cr 33 + n) % 2 ^ 64)).aged with stepping := false, fillFail := [], woken := false }
  (c.onTask fun t => { t with trap := t.trap.map fun a => { a with done := a.done + 1 } }).tryHalt

/-- The core goes on after an instruction. -/
def State.retired (s : State) (k n : Nat) : State := (s.onCore k fun c => c.retire n).tryStop k

/-- pcc moves on by `n` words. -/
def CoreS.advance (c : CoreS) (n : Nat) : CoreS := c.setPcc (c.pcc.withOffset ((c.pcc.offset + 4 * n) % 2 ^ 32))

/-- An instruction that waits is presented again: all that stays of it is the fills it asked for (log entry
3). -/
def State.keepFill (s t : State) (k : Nat) : State :=
  s.onCore k fun c => { c with fill := (t.core k).fill, fillFail := (t.core k).fillFail, sdc := (t.core k).sdc }

/-- A check-stop of the Steward, and so every fault at M on it, raises WDR (R417). -/
def State.stewardStop (s : State) (k : Nat) : State :=
  if k = stewardCore && (s.core k).cstop then s.resetDevice .wdr else s

/-- An instruction raises an exception (R281, R291, R417). -/
def State.trap (s : State) (k : Nat) (e : Exc) (resume : Nat) : State := (s.raise k e resume).stewardStop k

/-- What an instruction's outcome leaves. -/
def State.settleAct (s : State) (k words count : Nat) (a : Act) : State :=
  match a with
  | .done t => (t.onCore k fun c => c.advance words).retired k count
  | .jump t => t.retired k count
  | .wait t => s.keepFill t k
  | .stall t => t.tryStop k
  | .spill t e u => t.spill k e u
  | .fault t e r => t.trap k e r

/-- The pending imprecise trap is taken before this instruction (R288). -/
def CoreS.trapFirst (c : CoreS) (point : Bool) : Option ArithTrap :=
  match c.trapPending with
  | some a => if point || decide (24 ≤ a.done) then some a else none
  | none => none

/-- The fetch has passed: decode, guard, execution (R226). -/
def State.decoded (s : State) (k : Nat) (legal : State → Bool) (p : Guard) (body : State → Act) : State :=
  if !(guardOk p && legal s) then s.trap k ⟨cIllegal, 0, 0⟩ (s.here k)
  else if (s.core k).guardOn p then s.settleAct k 1 1 (body s)
  else s.settleAct k 1 1 (.done s)

/-- Executes an instruction word on core `k`: `legal` holds what R210 and R212 ask beyond the guard, `point`
is one of the points of R288. -/
def State.issue (s : State) (k : Nat) (point : Bool) (legal : State → Bool) (p : Guard) (body : State → Act) :
    State :=
  if s.issueHeld k then s
  else match (s.core k).trapFirst point with
    | some a => s.takeTrap k a
    | none => match s.fetchAt k (s.here k) with
      | .wait t => s.keepFill t k
      | .bad t e => t.trap k e (t.here k)
      | .ok t _ => t.decoded k legal p body

/-- Every word of the form is legal. -/
def always (_ : State) : Bool := true

end Sys2Proof.Machine
end

