-- ==== Sys2Proof/Machine/CapInstr.lean ====
section
/-! DEFINITION. SEAL, UNSEAL, CMINT, DERIVE and RELEASE (R178-R181, R237). -/

namespace Sys2Proof.Machine

/-- The type an authority selects (R181). -/
def sealTypeOf (e : Entry) (ca : Cap) : Nat := (e.base % 2 ^ 16 + ca.offset) % 2 ^ 16

/-- The checks of an authority, and the type it selects (R181). -/
def State.checkAuthority (s : State) (k ca : Nat) (a : Cap) (kind : AccKind) : Got Nat :=
  let t : Tell := { creg := ca, ofs := a.offset }
  (s.check14 k a false t).bind fun s e =>
    match checks567 a e (k = stewardCore) kind a.offset 1 with
    | some f => .bad s (t.exc f)
    | none => .ok s (sealTypeOf e a)

/-- SEAL (R181). -/
def execSealCap (k : CoreId) (p : Guard) (cd cs ca : CReg) (s : State) : Res :=
  .next (s.issue k.val false always p fun s =>
    let c := s.c k.val cs
    let t : Tell := { creg := cs, ofs := c.offset }
    ((s.checkAuthority k.val ca (s.c k.val ca) .sealAuth).bind fun s ty =>
      (s.check15 k.val c false t).bind fun s e =>
        if e.xseal != ty then .bad s (t.exc .sealed) else .ok s ty).act k.val fun s ty =>
          .done (s.setC k.val cd (c.withSeal ty)))

/-- UNSEAL (R181). -/
def execUnsealCap (k : CoreId) (p : Guard) (cd cs ca : CReg) (s : State) : Res :=
  .next (s.issue k.val false always p fun s =>
    let c := s.c k.val cs
    let t : Tell := { creg := cs, ofs := c.offset }
    ((s.checkAuthority k.val ca (s.c k.val ca) .unsealAuth).bind fun s ty =>
      (s.check15 k.val c true t).bind fun s e =>
        if c.sealType != ty || e.xseal != ty then .bad s (t.exc .sealed) else .ok s e).act k.val fun s e =>
          .done (s.setC k.val cd ((c.withSeal 0).withColour e.colour)))

/-- The checks of CMINT on an untagged value (R178). -/
def State.mint (s : State) (k cs : Nat) (v : Cap) : Got Cap :=
  let t : Tell := { creg := cs, ofs := v.offset }
  match s.entryFor k v.index v.gen with
  | .wait s => .wait s
  | .fail s f => .bad s (t.exc f)
  | .hit s e =>
    if v.gen != e.gen then .bad s (t.exc (.generation 5))
    else if v.reserved != 0 || (v.rights &&& (0xFFFF - e.maxRights)) != 0 then .bad s (t.exc .format)
    else if v.sealType != 0 || v.colour != e.colour then .bad s (t.exc .format)
    else .ok s { v with tag := true }

/-- CMINT: level M or the Steward (R178, R212). -/
def execCmint (k : CoreId) (p : Guard) (cd cs : CReg) (s : State) : Res :=
  .next (s.issue k.val false (fun s => (s.core k.val).level = 2 || k.val = stewardCore) p fun s =>
    (s.mint k.val cs (s.c k.val cs)).act k.val fun s v => .done (s.setC k.val cd v))

/-- What DERIVE yields: its capability, a fault, or a wait for the Walker (R179). -/
def State.derive (s : State) (k cs : Nat) (c : Cap) (off len r : Nat) : Got Cap :=
  let t : Tell := { creg := cs, ofs := off }
  (s.check14 k c false t).bind fun s e =>
    let st := decide (k = stewardCore)
    match (checks567 c e st .derive_ off len).or (s.check8 c e (physAddr e off)) with
    | some f => .bad s (t.exc f)
    | none =>
      if off % 16 != 0 || len = 0 then .bad s (t.exc .bounds)
      else if e.depth = 3 then .bad s (t.exc .rights)
      else if (r &&& (0xFFFF - effRights c e st)) != 0 then .bad s (t.exc .rights)
      else if !s.fb .RW_CTRL_ENABLE then .wait s
      else if s.freeCount ≤ s.f .RW_CFG_RESERVE then .bad s ⟨cFull, 0, 0⟩
      else match s.takeFree with
        | none => .bad s ⟨cFull, 0, 0⟩
        | some (n, s1) =>
          let x : Entry := {
            base := e.base + off, limit := len - 1, gen := (s1.entry n).gen, pgen := e.gen, parent := c.index,
            depth := e.depth + 1, owner := s.domain k, ty := e.ty, valid := true, ledgerOnly := e.ledgerOnly,
            colour := e.colour, maxRights := r }
          .ok (s1.setEntry n x) (mkCap n x.gen r e.colour 0 0)

/-- DERIVE (R179). -/
def execDeriveCap (k : CoreId) (p : Guard) (cd cs : CReg) (ga gr : GReg) (s : State) : Res :=
  .next (s.issue k.val false always p fun s =>
    let a := (s.g k.val ga).toNat
    (s.derive k.val cs (s.c k.val cs) (bitsOf a 0 32) (bitsOf a 32 32) ((s.g k.val gr).toNat % 2 ^ 11)).act k.val
      fun s c => .done (s.setC k.val cd c))

/-- A RELEASE that passes its checks asks the Walker for FREE, and the core waits for the epoch (R180). -/
def State.askRelease (s : State) (k i : Nat) : Act :=
  let s := s.onCore k fun c => { c with walkWait := some i }
  .stall (s.walkAdd { by_ := .core k, op := 3, index := i, level := 1, dom := s.domain k })

/-- RELEASE (R180): once its command's epoch has come it completes. -/
def execRelease (k : CoreId) (p : Guard) (cs : CReg) (s : State) : Res :=
  .next (s.issue k.val false always p fun s =>
    let c := s.c k.val cs
    let t : Tell := { creg := cs, ofs := c.offset }
    if (s.core k.val).walkDone = some c.index then .done (s.onCore k.val fun c => { c with walkDone := none })
    else (s.check15 k.val c false t).act k.val fun s e =>
      if e.depth = 0 || e.pegged || e.ledgerOnly || e.owner != s.domain k.val then
        .fault s (t.exc .rights) (s.here k.val)
      else s.askRelease k.val c.index)

end Sys2Proof.Machine
end

