-- ==== Sys2Proof/Machine/Jtag.lean ====
section
/-! DEFINITION. The JTAG port: its instructions, the pin-driving ones, and DBGACC (R409, R435, R436). -/

namespace Sys2Proof.Machine

/-- Codes of the instruction register (R435). -/
def irBypass : Nat := 0b111111
def irIdcode : Nat := 0b000001
def irSample : Nat := 0b000010
def irExtest : Nat := 0b000000
def irClamp : Nat := 0b000100
def irHighz : Nat := 0b000101
def irDbgacc : Nat := 0b100000

/-- The IDCODE: version 0x2, part 0x7128, manufacturer 0x35B (R435). -/
def idCode : Nat := 0x271286B7

/-- The instruction register takes a code; the device performs SDR when a pin-driving instruction is left (R436). -/
def State.shiftIr (s : State) (ir : Nat) : State :=
  let held := s.pinsHeld
  let s := s.onPower fun p => { p with jtagIr := ir }
  if held then s.resetDevice .sdr else s

/-- The device is held as for SDR, with the steps of R416 done, before the pins are taken (R436). -/
def State.holdDevice (s : State) : State := (((s.drainStores .sdr).endWrite .sdr).dropPins).clearFor .sdr

/-- A pin-driving instruction: one in force before it is left first (R436). -/
def State.drivePins (s : State) (ir : Nat) (drive : Option Nat) : State :=
  ((s.shiftIr ir).holdDevice).emit (.pins drive)

/-- BYPASS: no effect of its own (R435). -/
def execBypass (s : State) : Res := .next (s.shiftIr irBypass)

/-- IDCODE (R435). -/
def execIdcode (s : State) : Res := .next ((s.shiftIr irIdcode).emit (.jtag idCode))

/-- SAMPLE/PRELOAD: samples the pins and takes the values to drive later; the device runs on. What the chain reads is
a free value: no layout of it is given (R435; log entry 7). -/
def execSamplePreload (pins : Nat) (s : State) : Res :=
  .next (
    let (r, s) := (s.shiftIr irSample).draw
    (s.onPower fun p => { p with preload := pins }).emit (.jtag (Config.draw r).toNat))

/-- EXTEST: holds the device and drives the pins with the values shifted in (R436). -/
def execExtest (drive : Nat) (s : State) : Res := .next (s.drivePins irExtest (some drive))

/-- CLAMP: holds the device and drives the preloaded values (R436). -/
def execClamp (s : State) : Res := .next (s.drivePins irClamp (some s.power.preload))

/-- HIGHZ: holds the device and releases every output (R436). -/
def execHighz (s : State) : Res := .next (s.drivePins irHighz none)

/-- JTAG_TAP_RESET: the TAP is reset; IDCODE becomes the instruction, as IEEE 1149.1 says (R435, R436). -/
def execJtagTapReset (s : State) : Res := .next (s.shiftIr irIdcode)

/-- Master 60 of R320, with colour 0 (R409). -/
def debugAgent : Agent := ⟨60, 0⟩
def debugMaster : Master := .dev (Fin.ofNat 64 60)

/-- What the token's SCOPE allows master 60: reads from 1, writes from 2 (R409). -/
def State.scopeAllows (s : State) (write : Bool) : Bool :=
  s.fb .TT_DBG_UNLOCKED && decide ((if write then 2 else 1) ≤ s.f .TT_DBG_SCOPE)

/-- A write of 8 bytes of memory, granule by granule, past the store buffers (R307). -/
def State.debugStore (s : State) (a : Nat) (b : Bytes) : State :=
  (granParts a b.length).foldl (fun s x =>
    s.drainEnt (.data (x.1 / 16) (withOffsets (x.1 % 16) (sliceAt b (x.1 - a) x.2)))) s

/-- An access of master 60 that the Guard admits; what the target refuses changes nothing (R21, R409). -/
def State.debugAccess (s : State) (write : Bool) (a : Nat) (v : Word) : State :=
  if targetRefuses a 8 false || (write && inLedger a) then s
  else if write then
    if inControl a then (s.writeReg debugMaster a v).getD s else s.debugStore a (leBytes 8 v.toNat)
  else
    let d := if inControl a then (s.readReg a).toNat else leNat (s.targetBytes a 8)
    (s.drawParam a).emit (.jtag d)

/-- DBGACC: an access of 8 bytes as master 60; the Guard refuses it while locked, and what the token's SCOPE does not
allow changes nothing (R409, R435). -/
def execDbgacc (write : Bool) (addr : Nat) (v : Word) (s : State) : Res :=
  .next (
    let s := s.shiftIr irDbgacc
    match s.verdict debugAgent write addr 8 with
    | .allow =>
      let s := s.guardNote debugAgent write false addr 8
      if s.scopeAllows write then s.debugAccess write addr v else s
    | .hold => s
    | .refuse _ _ => s.guardNote debugAgent write false addr 8)

end Sys2Proof.Machine
end

