-- ==== Sys2Proof/Machine/QueueInstr.lean ====
section
/-! DEFINITION. ENQ and DEQ (R131, R238-R241, R311). -/

namespace Sys2Proof.Machine

/-- The statuses of R241. -/
def qOk : Nat := 0
def qFull : Nat := 1
def qEmpty : Nat := 2
def qReplyFull : Nat := 3
def qTooLong : Nat := 4
def qBadReply : Nat := 5

/-- The first device queue (R131). -/
def firstDevice : Nat := 1000

/-- The check of the queue capability: the queue it names (R239, R240). -/
def State.checkQueue (s : State) (k cq : Nat) (kind : AccKind) : Got Nat :=
  let c := s.c k cq
  let t : Tell := { creg := cq, ofs := c.offset }
  (s.check19 k c kind 0 t).bind fun s e => .ok s (e.base % 2 ^ 10)

/-- The submitter of an entry (R131). -/
def State.submitter (s : State) (k : Nat) : Submitter :=
  if k = stewardCore then .steward else .task ((s.core k).taskNo k) (s.domain k)

/-- A device queue has a free place for this submitter (R107, R131); 1,011 to 1,023 have none. Only tasks' entries use up
the places that R131 does not keep, which it leaves open (the model's choice, log entry 126). -/
def State.deviceRoom (s : State) (q : Nat) (steward : Bool) : Bool :=
  if q < 1008 then
    let l := (s.engine (q - 1000)).queue
    decide (l.length < sealDepth) && (steward || decide ((l.filter SealItem.isTask).length < sealTaskDepth))
  else if q = handoverQueue then decide ((s.queue q).ents.length < 4096)
  else if q = deviceQueue then decide (s.press.devQ.length < devicePlaces)
  else if q = watchQueue then 
    decide ((s.queue q).ents.length < watchDepth) &&
      (steward || decide (((s.queue q).ents.filter QEnt.isTask).length < watchTaskDepth))
  else false

/-- A queue has a free place. -/
def State.hasRoom (s : State) (q : Nat) (steward : Bool) : Bool :=
  if q < firstDevice then decide (0 < s.freePlaces q) else s.deviceRoom q steward

/-- A descriptor of queue 1,009: a record of the Steward's in the form of R106, or one that the Press refuses for its
form when its turn comes (log entry 68). -/
def deviceItem (e : QEnt) : DevRec × Serves :=
  let h := e.hdr
  match devRecOf e.payload with
  | some r => (r, { desc := some h, formed := decide (e.by_ = .steward) && handoverForm { h with code := 1 } && h.code = 0 })
  | none => (.watchDelta 0 0 0 0 0, { desc := some h, formed := false })

/-- A descriptor reaches a device queue: an engine in fault ends it at once, a sealed ledger refuses it (R155, R103,
R106). -/
def State.deviceAdd (s : State) (q : Nat) (e : QEnt) : State :=
  let s := s.reservePlace e.hdr.replyq.toNat
  if q < 1008 then
    let n := q - 1000
    if s.fb .SE_STAT_FAULT n then s.faultItem n false (.desc e)
    else s.setEngine n { s.engine n with queue := (s.engine n).queue ++ [.desc e] }
  else if q = deviceQueue then ((s.onPress fun p => { p with devQ := p.devQ ++ [deviceItem e] }).refuseAll).pressPump
  else
    let s := s.setQueue q { s.queue q with ents := (s.queue q).ents ++ [e] }
    if q = handoverQueue then s.refuseAll else s

/-- The status with which a descriptor is turned away, or OK (R239). -/
def State.enqStatus (s : State) (q : Nat) (h : Hdr) (steward : Bool) : Nat :=
  if !s.hasRoom q steward then qFull
  else if firstDevice ≤ q && firstDevice ≤ h.replyq.toNat then qBadReply
  else if firstDevice ≤ q && s.freePlaces h.replyq.toNat = 0 then qReplyFull
  else qOk

/-- Granules as a capability load through `c` with these rights gives them (R239, R162). -/
def State.loadGrans (s : State) (rights a : Nat) : Nat → List Cap
  | 0 => []
  | n + 1 =>
    let v : Cap := ⟨BitVec.ofNat 128 (leNat (s.targetBytes a 16)), hasTags a && s.tag (a / 16)⟩
    { v with tag := v.tag && bitOf rights rLC } :: s.loadGrans rights (a + 16) n

/-- A capability load of `n` bytes that reads memory, the store buffer empty (R239, R311). -/
def State.readGrans (s : State) (k cm : Nat) (c : Cap) (n : Nat) : Got (List Cap) :=
  (s.passWhole k cm c .capLoad c.offset (16 * n)).bind fun s p =>
    let a := (p.parts.map Prod.fst).headD 0
    if s.badIn a (16 * n) then .bad s (machineCheck c.offset)
    else s.sweepFilters k (s.loadGrans p.rights a n)

/-- The status word of a QOP (R241). -/
def qopResult (status n : Nat) : Word := BitVec.ofNat 64 (status + n * 2 ^ 16)

/-- ENQ (R239). -/
def State.enqueue (s : State) (k cq cm : Nat) : Got Nat :=
  (s.checkQueue k cq .enq).bind fun s q =>
    let s := s.drainAll k
    let c := s.c k cm
    (s.readGrans k cm c 2).bind fun s g =>
      let h := hdrOf (granBytes g)
      if 256 < h.paylen.toNat then .ok s qTooLong
      else
        (s.readGrans k cm c (2 + divUp h.paylen.toNat 16)).bind fun s l =>
          let e : QEnt := ⟨l, if q = handoverQueue then .task ((s.core k).taskNo k) (s.domain k) else s.submitter k, false⟩
          let st := s.enqStatus q h (k = stewardCore)
          if st != qOk then .ok s st
          else if q < firstDevice then .ok (s.addEntry q e) qOk
          else .ok (s.deviceAdd q e) qOk

/-- ENQ (R239, R241). -/
def execEnq (k : CoreId) (p : Guard) (cq cm : CReg) (gd : GReg) (s : State) : Res :=
  .next (s.issue k.val false always p fun s =>
    (s.enqueue k.val cq cm).act k.val fun s st => .done (s.setG k.val gd (qopResult st 0)))

/-- What the task's latest DEQ found (R246). -/
def State.noteDeq (s : State) (k : Nat) (q : Option Nat) : State :=
  s.onCore k fun c => c.onTask fun t => { t with emptyQ := q, emptyAdded := false }

/-- Granules written one by one, each with its tag (R240). -/
def State.writeGrans (s : State) (a : Nat) : List Cap → State
  | [] => s
  | g :: l => ((if inBank a then s.storeBytes a (leBytes 16 g.bits.toNat) else s.putGranule a g).mendGran (a / 16)).writeGrans (a + 16) l

/-- A request entry taken from a class task queue is 64 bytes (R240). -/
def State.noteEntry (s : State) (k : Nat) (e : QEnt) : State :=
  match (s.core k).running with
  | some i => if e.by_ = .device && e.grans.length = 4 then s.noteTaken (taskNo k i) e.hdr else s
  | none => s

/-- DEQ: its status, and the bytes it wrote (R240). -/
def State.dequeue (s : State) (k cq cm : Nat) : Got (Nat × Nat) :=
  let c0 := s.c k cq
  (s.checkQueue k cq .deq).bind fun s q =>
    if firstDevice ≤ q then .bad s (capExc cq .rights c0.offset)
    else match (s.queue q).ents with
      | [] => .ok (s.noteDeq k (some q)) (qEmpty, 0)
      | e :: rest =>
        let c := s.c k cm
        (s.sweepFilters k e.grans).bind fun s l =>
          let kind : AccKind := .capStore (l.any Cap.tag) (l.any fun g => g.tag && !bitOf g.rights rG)
          (s.passWhole k cm c kind c.offset (16 * l.length)).bind fun s p =>
            let a := (p.parts.map Prod.fst).headD 0
            let s := (s.drainFor k a (16 * l.length)).writeGrans a l
            let s := s.setQueue q { s.queue q with ents := rest }
            .ok ((s.noteEntry k e).noteDeq k none) (qOk, 16 * l.length)

/-- DEQ (R240, R241). -/
def execDeq (k : CoreId) (p : Guard) (cq cm : CReg) (gd : GReg) (s : State) : Res :=
  .next (s.issue k.val false always p fun s =>
    (s.dequeue k.val cq cm).act k.val fun s r => .done (s.setG k.val gd (qopResult r.1 r.2)))

end Sys2Proof.Machine
end

