-- ==== Sys2Proof/Machine/Flags.lean ====
section
/-! DEFINITION. Integer results, comparisons and the conditions of the arithmetic traps (R227-R230). -/

namespace Sys2Proof.Machine

/-- Sign extension of bits 31 to 0 (R227). -/
def sext32 (x : Word) : Word := (x.setWidth 32).signExtend 64

/-- The shift amount: bits 5 to 0 (R227). -/
def shamt (b : Word) : Nat := b.toNat % 64

/-- OP of R227. -/
def opResult (f : OpF) (a b : Word) : Word :=
  match f with
  | .add => a + b
  | .sub => a - b
  | .addw => sext32 (a + b)
  | .subw => sext32 (a - b)
  | .and => a &&& b
  | .or => a ||| b
  | .xor => a ^^^ b
  | .andn => a &&& ~~~b
  | .sll => a <<< shamt b
  | .srl => a >>> shamt b
  | .sra => a.sshiftRight (shamt b)
  | .ror => a.rotateRight (shamt b)
  | .min => if a.toInt ≤ b.toInt then a else b
  | .max => if a.toInt ≤ b.toInt then b else a
  | .minu => if a.toNat ≤ b.toNat then a else b
  | .maxu => if a.toNat ≤ b.toNat then b else a

/-- LOGI of R227. -/
def logiResult (f : LogiF) (a b : Word) : Word :=
  match f with
  | .andi => a &&& b
  | .ori => a ||| b
  | .xori => a ^^^ b

/-- SHI of R227. -/
def shiResult (f : ShiF) (a : Word) (n : Nat) : Word :=
  match f with
  | .slli => a <<< n
  | .srli => a >>> n
  | .srai => a.sshiftRight n
  | .rori => a.rotateRight n

/-- MD of R227, with the corner results of R228. -/
def mdResult (f : MdF) (a b : Word) : Word :=
  match f with
  | .mul => a * b
  | .mulh => BitVec.ofInt 64 ((a.toInt * b.toInt) / 2 ^ 64)
  | .mulhu => BitVec.ofNat 64 (a.toNat * b.toNat / 2 ^ 64)
  | .div => if b = 0 then BitVec.allOnes 64 else BitVec.ofInt 64 (a.toInt.tdiv b.toInt)
  | .divu => if b = 0 then BitVec.allOnes 64 else BitVec.ofNat 64 (a.toNat / b.toNat)
  | .rem => if b = 0 then a else BitVec.ofInt 64 (a.toInt.tmod b.toInt)
  | .remu => if b = 0 then a else BitVec.ofNat 64 (a.toNat % b.toNat)

/-- Zero bits at the top of the low `n` bits of a number. -/
def leadZeros (x : Nat) : Nat → Nat
  | 0 => 0
  | n + 1 => if x.testBit n then 0 else 1 + leadZeros x n

/-- Zero bits from bit `i` up, at most `n`. -/
def trailZeros (x i : Nat) : Nat → Nat
  | 0 => 0
  | n + 1 => if x.testBit i then 0 else 1 + trailZeros x (i + 1) n

/-- 1 bits among the low `n`. -/
def onesCount (x : Nat) : Nat → Nat
  | 0 => 0
  | n + 1 => b2n (x.testBit n) + onesCount x n

/-- EXT of R227. -/
def extResult (f : ExtF) (a : Word) : Word :=
  match f with
  | .sextb => (a.setWidth 8).signExtend 64
  | .sexth => (a.setWidth 16).signExtend 64
  | .sextw => sext32 a
  | .zextb => (a.setWidth 8).setWidth 64
  | .zexth => (a.setWidth 16).setWidth 64
  | .zextw => (a.setWidth 32).setWidth 64
  | .clz => BitVec.ofNat 64 (leadZeros a.toNat 64)
  | .ctz => BitVec.ofNat 64 (trailZeros a.toNat 0 64)
  | .popc => BitVec.ofNat 64 (onesCount a.toNat 64)
  | .bswap => BitVec.ofNat 64 (leNat (beBytes 8 a.toNat))

/-- The comparisons of R213 and R230. -/
def condHolds (c : Cond) (a b : Word) : Bool :=
  match c with
  | .eq => a = b
  | .ne => a != b
  | .lt => decide (a.toInt < b.toInt)
  | .ge => decide (b.toInt ≤ a.toInt)
  | .ltu => decide (a.toNat < b.toNat)
  | .geu => decide (b.toNat ≤ a.toNat)
  | .tstz => a &&& b = 0
  | .tstnz => a &&& b != 0

/-- PLOG of R213. -/
def plogResult (f : PlogF) (a b : Bool) : Bool :=
  match f with
  | .pand => a && b
  | .por => a || b
  | .pxor => a != b
  | .pandn => a && !b
  | .pnot => !a
  | .pmov => a
  | .pclr => false

/-- An exact result outside the signed 64-bit range (R229). -/
def overflows (i : Int) : Bool := decide (i < -(2 ^ 63)) || decide (2 ^ 63 ≤ i)

/-- ARITH.OVE, DZE and PRECISE (R222). -/
def arithOve (a : Nat) : Bool := bitOf a 0
/-- ARITH.DZE. -/
def arithDze (a : Nat) : Bool := bitOf a 1
/-- ARITH.PRECISE. -/
def arithPrecise (a : Nat) : Bool := bitOf a 2

/-- The trap an OP raises if it is enabled (R229). -/
def opTrap (f : OpF) (a b : Word) (ar : Nat) : Option Nat :=
  match f with
  | .add => if arithOve ar && overflows (a.toInt + b.toInt) then some cOverflow else none
  | .sub => if arithOve ar && overflows (a.toInt - b.toInt) then some cOverflow else none
  | _ => none

/-- The trap an MD raises if it is enabled (R229). -/
def mdTrap (f : MdF) (a b : Word) (ar : Nat) : Option Nat :=
  match f with
  | .mul => if arithOve ar && overflows (a.toInt * b.toInt) then some cOverflow else none
  | .mulh => none
  | .mulhu => none
  | _ => if arithDze ar && b = 0 then some cDivZero else none

/-- The result of an instruction that may raise an arithmetic trap (R229): with no trap it is written; a
precise trap is taken at the instruction and writes nothing; an imprecise one is pending behind the written
result. At S and M, and in a repeat pair, the trap is precise (R288, R251). -/
def State.arithWrite (s : State) (k gd : Nat) (v : Word) (trap : Option Nat) (inPair long : Bool) : Act :=
  let c := s.core k
  let put (s : State) : State := if long then s.setGLong k gd v else s.setG k gd v
  match trap with
  | none => .done (put s)
  | some code =>
    let here := c.pcc.offset
    if inPair || arithPrecise c.arith || c.level != 0 then
      .fault (s.onCore k fun c => c.onTask fun t =>
        { t with aepc := BitVec.ofNat 64 (here + c.pcc.index * 2 ^ 32) }) ⟨code, 0, 0⟩ here
    else .done ((put s).onCore k fun c => c.onTask fun t => { t with trap := some ⟨code, here, c.pcc.index, 0⟩ })

end Sys2Proof.Machine
end

