-- ==== Sys2Proof/Machine/Scalar.lean ====
section
/-! DEFINITION. Integer, predicate, load and store and capability register words: the words that a REP
prefix admits, and CST (R213-R215, R227-R236). -/

namespace Sys2Proof.Machine

/-- A word of a form whose fields have unassigned values (R210, R213, R214, R230). -/
def scalarLegal : Scalar → Bool
  | .cmp _ pt pf _ _ => !(pt = pf && pt.val != 0)
  | .cmpi _ pt pf _ _ => !(pt = pf && pt.val != 0)
  | .ldu _ _ sz _ => sz.val != 3
  | .ldx _ _ _ sz _ u store => !(u && (store || sz.val = 3))
  | _ => true

/-- A word that can raise an arithmetic trap (R288). -/
def scalarTraps : Scalar → Bool
  | .op .add _ _ _ => true
  | .op .sub _ _ _ => true
  | .addi _ _ _ => true
  | .md .mul _ _ _ => true
  | .md .mulh _ _ _ => false
  | .md .mulhu _ _ _ => false
  | .md _ _ _ _ => true
  | _ => false

/-- A loaded value extended to 64 bits (R231). -/
def extended (b : Bytes) (u : Bool) : Word :=
  if u then BitVec.ofNat 64 (leNat b) else BitVec.ofInt 64 (toSigned (8 * b.length) (leNat b))

/-- A data load into a general register (R231, R232). -/
def State.loadG (s : State) (k gd creg : Nat) (disp : Int) (n : Nat) (u : Bool) : Act :=
  let c := s.c k creg
  (s.loadData k creg c (effOffset c disp) n).act k fun s b =>
    .done (s.onCore k fun c => c.setGLate k gd (extended b u) true)

/-- A data store of the low bytes of a general register (R231). -/
def State.storeG (s : State) (k gs creg : Nat) (disp : Int) (n : Nat) : Act :=
  let c := s.c k creg
  (s.storeData k creg c (effOffset c disp) (leBytes n (s.g k gs).toNat)).act k fun s _ => .done s

/-- CLD (R235). -/
def State.loadC (s : State) (k cd cs : Nat) (disp : Int) : Act :=
  let c := s.c k cs
  (s.loadCap k cs c (effOffset c disp)).act k fun s v => .done (s.onCore k fun c => c.setCLate cd v)

/-- CST (R235). -/
def State.storeC (s : State) (k cv cs : Nat) (disp : Int) : Act :=
  let c := s.c k cs
  (s.storeCap k cs c (effOffset c disp) (s.c k cv)).act k fun s _ => .done s

/-- A capability register operation that a sealed tagged operand makes fault (R236). -/
def State.unsealedOp (s : State) (k cd cs : Nat) (f : Cap → Cap) : Act :=
  let c := s.c k cs
  if c.tag && c.sealType != 0 then
    .fault s (capExc cs .sealed c.offset) (s.here k)
  else .done (s.setC k cd (f c))

/-- A CAP function that reads the entry of cs (R236). -/
def State.readEntry (s : State) (k g cs : Nat) (f : Cap → Entry → Nat) : Act :=
  let c := s.c k cs
  (s.check15 k c true { creg := cs, ofs := c.offset }).act k fun s e =>
    .done (s.setG k g (BitVec.ofNat 64 (f c e)))

/-- CAP (R215, R236). -/
def State.capOp (s : State) (k : Nat) (f : CapF) (cd cs g : Nat) : Act :=
  let c := s.c k cs
  let x := (s.g k g).toNat
  match f with
  | .cmov => .done (s.setC k cd c)
  | .cincoff => s.unsealedOp k cd cs fun c => c.moved (s.g k g).toInt
  | .csetoff => s.unsealedOp k cd cs fun c => c.withOffset (x % 2 ^ 32)
  | .candrights => s.unsealedOp k cd cs fun c => c.withRights (c.rights &&& (x % 2 ^ 11))
  | .cclrtag => .done (s.setC k cd { c with tag := false })
  | .csetlo => .done (s.setC k cd ⟨BitVec.ofNat 128 ((c.bits.toNat >>> 64) * 2 ^ 64 + x), false⟩)
  | .csethi => .done (s.setC k cd ⟨BitVec.ofNat 128 (c.bits.toNat % 2 ^ 64 + x * 2 ^ 64), false⟩)
  | .cgetlo => .done (s.setG k g (BitVec.ofNat 64 c.bits.toNat))
  | .cgethi => .done (s.setG k g (BitVec.ofNat 64 (c.bits.toNat >>> 64)))
  | .cgettag => .done (s.setG k g (BitVec.ofNat 64 (b2n c.tag)))
  | .cgetoff => .done (s.setG k g (BitVec.ofNat 64 c.offset))
  | .cgetlen => s.readEntry k g cs fun _ e => e.limit + 1
  | .cgetrights => s.readEntry k g cs fun c e => effRights c e (k = stewardCore)

/-- CMP and CMPI (R230). -/
def State.compare (s : State) (k : Nat) (c : Cond) (pt pf : Nat) (a b : Word) : State :=
  let r := condHolds c a b
  s.onCore k fun x => (x.setP pt r).setP pf (!r)

/-- p7 to p0 as a number (R213). -/
def CoreS.bundle (c : CoreS) : Nat :=
  ((numsFrom 0 8).map fun n => b2n (c.getP n) * 2 ^ n).foldl (· + ·) 0

/-- p1 to p7 from the bits of a register (R213). -/
def CoreS.unbundle (c : CoreS) (v : Word) : CoreS :=
  (numsFrom 1 7).foldl (fun c n => c.setP n (bitOf v.toNat n)) c

/-- Bytes of an access size (R214). -/
def sizeBytes (sz : Size) : Nat := 2 ^ sz.val

/-- Executes a word of a major that REP admits; `inPair` inside a repeat pair (R227-R236, R251). -/
def State.scalar (s : State) (k : Nat) (inPair : Bool) (w : Scalar) : Act :=
  let ar := (s.core k).arith
  match w with
  | .op f gd ga gb => s.arithWrite k gd (opResult f (s.g k ga) (s.g k gb)) (opTrap f (s.g k ga) (s.g k gb) ar) inPair false
  | .addi gd ga imm =>
    s.arithWrite k gd (s.g k ga + imm.signExtend 64) (opTrap .add (s.g k ga) (imm.signExtend 64) ar) inPair false
  | .logi f gd ga imm => .done (s.setG k gd (logiResult f (s.g k ga) (imm.setWidth 64)))
  | .shi f gd ga sh => .done (s.setG k gd (shiResult f (s.g k ga) sh.toNat))
  | .movh gd imm => .done (s.setG k gd ((s.g k gd <<< 16) ||| imm.setWidth 64))
  | .md f gd ga gb => s.arithWrite k gd (mdResult f (s.g k ga) (s.g k gb)) (mdTrap f (s.g k ga) (s.g k gb) ar) inPair true
  | .ext f gd ga => .done (s.setG k gd (extResult f (s.g k ga)))
  | .cmp c pt pf ga gb => .done (s.compare k c pt pf (s.g k ga) (s.g k gb))
  | .cmpi c pt pf ga imm => .done (s.compare k c pt pf (s.g k ga) (imm.signExtend 64))
  | .plog f pd pa pb =>
    .done (s.onCore k fun c => c.setP pd (plogResult f (c.getP pa) (c.getP pb)))
  | .pbundle g dir =>
    if dir then .done (s.onCore k fun c => c.unbundle (s.g k g))
    else .done (s.setG k g (BitVec.ofNat 64 (s.core k).bundle))
  | .ld gd cs sz imm => s.loadG k gd cs imm.toInt (sizeBytes sz) false
  | .ldu gd cs sz imm => s.loadG k gd cs imm.toInt (sizeBytes sz) true
  | .st gs cs sz imm => s.storeG k gs cs imm.toInt (sizeBytes sz)
  | .ldx g cs gi sz scale u store =>
    let d := (s.g k gi).toInt * (2 ^ scale.toNat : Nat)
    if store then s.storeG k g cs d (sizeBytes sz) else s.loadG k g cs d (sizeBytes sz) u
  | .cld cd cs imm => s.loadC k cd cs (imm.toInt * 16)
  | .cincoffi cd cs imm => s.unsealedOp k cd cs fun c => c.moved imm.toInt
  | .cap f cd cs g => s.capOp k f cd cs g

/-- Issues a word of one of these majors by itself. -/
def State.issueScalar (s : State) (k : CoreId) (p : Guard) (w : Scalar) : State :=
  s.issue k.val (scalarTraps w) (fun _ => scalarLegal w) p fun s => s.scalar k.val false w

/-- ADD (R227). -/
def execAdd (k : CoreId) (p : Guard) (gd ga gb : GReg) (s : State) : Res :=
  .next (s.issueScalar k p (.op .add gd ga gb))

/-- SUB (R227). -/
def execSub (k : CoreId) (p : Guard) (gd ga gb : GReg) (s : State) : Res :=
  .next (s.issueScalar k p (.op .sub gd ga gb))

/-- ADDW (R227). -/
def execAddw (k : CoreId) (p : Guard) (gd ga gb : GReg) (s : State) : Res :=
  .next (s.issueScalar k p (.op .addw gd ga gb))

/-- SUBW (R227). -/
def execSubw (k : CoreId) (p : Guard) (gd ga gb : GReg) (s : State) : Res :=
  .next (s.issueScalar k p (.op .subw gd ga gb))

/-- AND (R227). -/
def execAnd (k : CoreId) (p : Guard) (gd ga gb : GReg) (s : State) : Res :=
  .next (s.issueScalar k p (.op .and gd ga gb))

/-- OR (R227). -/
def execOr (k : CoreId) (p : Guard) (gd ga gb : GReg) (s : State) : Res :=
  .next (s.issueScalar k p (.op .or gd ga gb))

/-- XOR (R227). -/
def execXor (k : CoreId) (p : Guard) (gd ga gb : GReg) (s : State) : Res :=
  .next (s.issueScalar k p (.op .xor gd ga gb))

/-- ANDN (R227). -/
def execAndn (k : CoreId) (p : Guard) (gd ga gb : GReg) (s : State) : Res :=
  .next (s.issueScalar k p (.op .andn gd ga gb))

/-- SLL (R227). -/
def execSll (k : CoreId) (p : Guard) (gd ga gb : GReg) (s : State) : Res :=
  .next (s.issueScalar k p (.op .sll gd ga gb))

/-- SRL (R227). -/
def execSrl (k : CoreId) (p : Guard) (gd ga gb : GReg) (s : State) : Res :=
  .next (s.issueScalar k p (.op .srl gd ga gb))

/-- SRA (R227). -/
def execSra (k : CoreId) (p : Guard) (gd ga gb : GReg) (s : State) : Res :=
  .next (s.issueScalar k p (.op .sra gd ga gb))

/-- ROR (R227). -/
def execRor (k : CoreId) (p : Guard) (gd ga gb : GReg) (s : State) : Res :=
  .next (s.issueScalar k p (.op .ror gd ga gb))

/-- MIN (R227). -/
def execMin (k : CoreId) (p : Guard) (gd ga gb : GReg) (s : State) : Res :=
  .next (s.issueScalar k p (.op .min gd ga gb))

/-- MAX (R227). -/
def execMax (k : CoreId) (p : Guard) (gd ga gb : GReg) (s : State) : Res :=
  .next (s.issueScalar k p (.op .max gd ga gb))

/-- MINU (R227). -/
def execMinu (k : CoreId) (p : Guard) (gd ga gb : GReg) (s : State) : Res :=
  .next (s.issueScalar k p (.op .minu gd ga gb))

/-- MAXU (R227). -/
def execMaxu (k : CoreId) (p : Guard) (gd ga gb : GReg) (s : State) : Res :=
  .next (s.issueScalar k p (.op .maxu gd ga gb))

/-- ADDI (R227). -/
def execAddi (k : CoreId) (p : Guard) (gd ga : GReg) (imm : BitVec 12) (s : State) : Res :=
  .next (s.issueScalar k p (.addi gd ga imm))

/-- ANDI (R227). -/
def execAndi (k : CoreId) (p : Guard) (gd ga : GReg) (imm : BitVec 10) (s : State) : Res :=
  .next (s.issueScalar k p (.logi .andi gd ga imm))

/-- ORI (R227). -/
def execOri (k : CoreId) (p : Guard) (gd ga : GReg) (imm : BitVec 10) (s : State) : Res :=
  .next (s.issueScalar k p (.logi .ori gd ga imm))

/-- XORI (R227). -/
def execXori (k : CoreId) (p : Guard) (gd ga : GReg) (imm : BitVec 10) (s : State) : Res :=
  .next (s.issueScalar k p (.logi .xori gd ga imm))

/-- SLLI (R227). -/
def execSlli (k : CoreId) (p : Guard) (gd ga : GReg) (sh : BitVec 6) (s : State) : Res :=
  .next (s.issueScalar k p (.shi .slli gd ga sh))

/-- SRLI (R227). -/
def execSrli (k : CoreId) (p : Guard) (gd ga : GReg) (sh : BitVec 6) (s : State) : Res :=
  .next (s.issueScalar k p (.shi .srli gd ga sh))

/-- SRAI (R227). -/
def execSrai (k : CoreId) (p : Guard) (gd ga : GReg) (sh : BitVec 6) (s : State) : Res :=
  .next (s.issueScalar k p (.shi .srai gd ga sh))

/-- RORI (R227). -/
def execRori (k : CoreId) (p : Guard) (gd ga : GReg) (sh : BitVec 6) (s : State) : Res :=
  .next (s.issueScalar k p (.shi .rori gd ga sh))

/-- MOVH (R227). -/
def execMovh (k : CoreId) (p : Guard) (gd : GReg) (imm : BitVec 16) (s : State) : Res :=
  .next (s.issueScalar k p (.movh gd imm))

/-- MUL (R227, R228). -/
def execMul (k : CoreId) (p : Guard) (gd ga gb : GReg) (s : State) : Res :=
  .next (s.issueScalar k p (.md .mul gd ga gb))

/-- MULH (R227, R228). -/
def execMulh (k : CoreId) (p : Guard) (gd ga gb : GReg) (s : State) : Res :=
  .next (s.issueScalar k p (.md .mulh gd ga gb))

/-- MULHU (R227, R228). -/
def execMulhu (k : CoreId) (p : Guard) (gd ga gb : GReg) (s : State) : Res :=
  .next (s.issueScalar k p (.md .mulhu gd ga gb))

/-- DIV (R227, R228). -/
def execDiv (k : CoreId) (p : Guard) (gd ga gb : GReg) (s : State) : Res :=
  .next (s.issueScalar k p (.md .div gd ga gb))

/-- DIVU (R227, R228). -/
def execDivu (k : CoreId) (p : Guard) (gd ga gb : GReg) (s : State) : Res :=
  .next (s.issueScalar k p (.md .divu gd ga gb))

/-- REM (R227, R228). -/
def execRem (k : CoreId) (p : Guard) (gd ga gb : GReg) (s : State) : Res :=
  .next (s.issueScalar k p (.md .rem gd ga gb))

/-- REMU (R227, R228). -/
def execRemu (k : CoreId) (p : Guard) (gd ga gb : GReg) (s : State) : Res :=
  .next (s.issueScalar k p (.md .remu gd ga gb))

/-- SEXTB (R227). -/
def execSextb (k : CoreId) (p : Guard) (gd ga : GReg) (s : State) : Res :=
  .next (s.issueScalar k p (.ext .sextb gd ga))

/-- SEXTH (R227). -/
def execSexth (k : CoreId) (p : Guard) (gd ga : GReg) (s : State) : Res :=
  .next (s.issueScalar k p (.ext .sexth gd ga))

/-- SEXTW (R227). -/
def execSextw (k : CoreId) (p : Guard) (gd ga : GReg) (s : State) : Res :=
  .next (s.issueScalar k p (.ext .sextw gd ga))

/-- ZEXTB (R227). -/
def execZextb (k : CoreId) (p : Guard) (gd ga : GReg) (s : State) : Res :=
  .next (s.issueScalar k p (.ext .zextb gd ga))

/-- ZEXTH (R227). -/
def execZexth (k : CoreId) (p : Guard) (gd ga : GReg) (s : State) : Res :=
  .next (s.issueScalar k p (.ext .zexth gd ga))

/-- ZEXTW (R227). -/
def execZextw (k : CoreId) (p : Guard) (gd ga : GReg) (s : State) : Res :=
  .next (s.issueScalar k p (.ext .zextw gd ga))

/-- CLZ (R227). -/
def execClz (k : CoreId) (p : Guard) (gd ga : GReg) (s : State) : Res :=
  .next (s.issueScalar k p (.ext .clz gd ga))

/-- CTZ (R227). -/
def execCtz (k : CoreId) (p : Guard) (gd ga : GReg) (s : State) : Res :=
  .next (s.issueScalar k p (.ext .ctz gd ga))

/-- POPC (R227). -/
def execPopc (k : CoreId) (p : Guard) (gd ga : GReg) (s : State) : Res :=
  .next (s.issueScalar k p (.ext .popc gd ga))

/-- BSWAP (R227). -/
def execBswap (k : CoreId) (p : Guard) (gd ga : GReg) (s : State) : Res :=
  .next (s.issueScalar k p (.ext .bswap gd ga))

/-- CMP (R230). -/
def execCmp (k : CoreId) (p : Guard) (c : Cond) (pt pf : PReg) (ga gb : GReg) (s : State) : Res :=
  .next (s.issueScalar k p (.cmp c pt pf ga gb))

/-- CMPI (R230). -/
def execCmpi (k : CoreId) (p : Guard) (c : Cond) (pt pf : PReg) (ga : GReg) (imm : BitVec 8) (s : State) : Res :=
  .next (s.issueScalar k p (.cmpi c pt pf ga imm))

/-- PAND (R213). -/
def execPand (k : CoreId) (p : Guard) (pd pa pb : PReg) (s : State) : Res :=
  .next (s.issueScalar k p (.plog .pand pd pa pb))

/-- POR (R213). -/
def execPor (k : CoreId) (p : Guard) (pd pa pb : PReg) (s : State) : Res :=
  .next (s.issueScalar k p (.plog .por pd pa pb))

/-- PXOR (R213). -/
def execPxor (k : CoreId) (p : Guard) (pd pa pb : PReg) (s : State) : Res :=
  .next (s.issueScalar k p (.plog .pxor pd pa pb))

/-- PANDN (R213). -/
def execPandn (k : CoreId) (p : Guard) (pd pa pb : PReg) (s : State) : Res :=
  .next (s.issueScalar k p (.plog .pandn pd pa pb))

/-- PNOT (R213). -/
def execPnot (k : CoreId) (p : Guard) (pd pa : PReg) (s : State) : Res :=
  .next (s.issueScalar k p (.plog .pnot pd pa 0))

/-- PMOV (R213). -/
def execPmov (k : CoreId) (p : Guard) (pd pa : PReg) (s : State) : Res :=
  .next (s.issueScalar k p (.plog .pmov pd pa 0))

/-- PCLR (R213). -/
def execPclr (k : CoreId) (p : Guard) (pd : PReg) (s : State) : Res :=
  .next (s.issueScalar k p (.plog .pclr pd 0 0))

/-- PBUNDLE (R213, R230). -/
def execPbundle (k : CoreId) (p : Guard) (g : GReg) (dir : Bool) (s : State) : Res :=
  .next (s.issueScalar k p (.pbundle g dir))

/-- LD (R231). -/
def execLd (k : CoreId) (p : Guard) (gd : GReg) (cs : CReg) (sz : Size) (imm : BitVec 11) (s : State) : Res :=
  .next (s.issueScalar k p (.ld gd cs sz imm))

/-- LDU (R231). -/
def execLdu (k : CoreId) (p : Guard) (gd : GReg) (cs : CReg) (sz : Size) (imm : BitVec 11) (s : State) : Res :=
  .next (s.issueScalar k p (.ldu gd cs sz imm))

/-- ST (R231). -/
def execSt (k : CoreId) (p : Guard) (gs : GReg) (cs : CReg) (sz : Size) (imm : BitVec 11) (s : State) : Res :=
  .next (s.issueScalar k p (.st gs cs sz imm))

/-- LDX (R231). -/
def execLdx (k : CoreId) (p : Guard) (g : GReg) (cs : CReg) (gi : GReg) (sz : Size) (scale : BitVec 2) (u store : Bool) (s : State) : Res :=
  .next (s.issueScalar k p (.ldx g cs gi sz scale u store))

/-- CLD (R235). -/
def execCld (k : CoreId) (p : Guard) (cd cs : CReg) (imm : BitVec 10) (s : State) : Res :=
  .next (s.issueScalar k p (.cld cd cs imm))

/-- CST (R235): never after REP (R249). -/
def execCst (k : CoreId) (p : Guard) (cv cs : CReg) (imm : BitVec 10) (s : State) : Res :=
  .next (s.issue k.val false always p fun s => s.storeC k.val cv cs (imm.toInt * 16))

/-- CINCOFFI (R236). -/
def execCincoffi (k : CoreId) (p : Guard) (cd cs : CReg) (imm : BitVec 14) (s : State) : Res :=
  .next (s.issueScalar k p (.cincoffi cd cs imm))

/-- CMOV (R236). -/
def execCmov (k : CoreId) (p : Guard) (cd cs : CReg) (s : State) : Res :=
  .next (s.issueScalar k p (.cap .cmov cd cs 0))

/-- CCLRTAG (R236). -/
def execCclrtag (k : CoreId) (p : Guard) (cd cs : CReg) (s : State) : Res :=
  .next (s.issueScalar k p (.cap .cclrtag cd cs 0))

/-- CINCOFF (R236). -/
def execCincoff (k : CoreId) (p : Guard) (cd cs : CReg) (g : GReg) (s : State) : Res :=
  .next (s.issueScalar k p (.cap .cincoff cd cs g))

/-- CSETOFF (R236). -/
def execCsetoff (k : CoreId) (p : Guard) (cd cs : CReg) (g : GReg) (s : State) : Res :=
  .next (s.issueScalar k p (.cap .csetoff cd cs g))

/-- CANDRIGHTS (R236). -/
def execCandrights (k : CoreId) (p : Guard) (cd cs : CReg) (g : GReg) (s : State) : Res :=
  .next (s.issueScalar k p (.cap .candrights cd cs g))

/-- CSETLO (R236). -/
def execCsetlo (k : CoreId) (p : Guard) (cd cs : CReg) (g : GReg) (s : State) : Res :=
  .next (s.issueScalar k p (.cap .csetlo cd cs g))

/-- CSETHI (R236). -/
def execCsethi (k : CoreId) (p : Guard) (cd cs : CReg) (g : GReg) (s : State) : Res :=
  .next (s.issueScalar k p (.cap .csethi cd cs g))

/-- CGETLO (R236). -/
def execCgetlo (k : CoreId) (p : Guard) (g : GReg) (cs : CReg) (s : State) : Res :=
  .next (s.issueScalar k p (.cap .cgetlo 0 cs g))

/-- CGETHI (R236). -/
def execCgethi (k : CoreId) (p : Guard) (g : GReg) (cs : CReg) (s : State) : Res :=
  .next (s.issueScalar k p (.cap .cgethi 0 cs g))

/-- CGETTAG (R236). -/
def execCgettag (k : CoreId) (p : Guard) (g : GReg) (cs : CReg) (s : State) : Res :=
  .next (s.issueScalar k p (.cap .cgettag 0 cs g))

/-- CGETOFF (R236). -/
def execCgetoff (k : CoreId) (p : Guard) (g : GReg) (cs : CReg) (s : State) : Res :=
  .next (s.issueScalar k p (.cap .cgetoff 0 cs g))

/-- CGETLEN (R236). -/
def execCgetlen (k : CoreId) (p : Guard) (g : GReg) (cs : CReg) (s : State) : Res :=
  .next (s.issueScalar k p (.cap .cgetlen 0 cs g))

/-- CGETRIGHTS (R236). -/
def execCgetrights (k : CoreId) (p : Guard) (g : GReg) (cs : CReg) (s : State) : Res :=
  .next (s.issueScalar k p (.cap .cgetrights 0 cs g))

end Sys2Proof.Machine
end

