-- ==== Sys2Proof/Machine/Repeat.lean ====
section
/-! DEFINITION. Repeat pairs and the block-repeat instructions (R248-R256). -/

namespace Sys2Proof.Machine

/-- Class Tick, class Bulk (R212). -/
def CoreS.isTickClass (c : CoreS) : Bool := !stBulk c.status

/-- st.REPACT (R222, R251). -/
def CoreS.setRepact (c : CoreS) (b : Bool) : CoreS := c.setStatus (stPut c.status 16 1 (b2n b))

/-- The pair stops after the iterations done; no delay applies between iterations, so the last one's load is
answered (R250, R251). -/
def State.repStop (s : State) (k n : Nat) : State :=
  (s.onCore k fun c => (c.landAll.setRepact true).retire n).tryStop k

/-- A STOP waits for the running task (R272). -/
def CoreS.stopWaits (c : CoreS) : Bool :=
  match c.running with
  | some i => (c.slot i).stopDue
  | none => false

/-- An event is due at an iteration or element boundary: an interrupt, a stop, a deschedule or a displacement of
the task, or what the command's operand says becomes due after `n` of them (R42, R47, R48, R251, R253; log entry
13). -/
def State.boundaryDue (s : State) (k : Nat) (due : Option Nat) (n : Nat) : Bool :=
  let c := s.core k
  due = some n || c.due.isSome || (c.level < 2 && !c.nibActive && (c.stopWaits || s.leaving k))

/-- The iterations of a pair: `n` are left, `m` done (R248, R250). What it answers stands at the end of the
pair, at its stop, or at the iteration that faults. -/
def State.repLoop (k : Nat) (inter : Bool) (due : Option Nat) (p : Guard) (w : Scalar) (s : State) (m : Nat) :
    Nat → Act × Nat
  | 0 => (.done s, m)
  | n + 1 =>
    let s := s.onCore k CoreS.landAll
    let r : Act := if (s.core k).guardOn p then s.scalar k true w else .done s
    match r with
    | .done t =>
      let t := t.onCore k fun c => c.setLc n
      if inter && n != 0 && t.boundaryDue k due (m + 1) then (.stall t, m + 1)
      else State.repLoop k inter due p w t (m + 1) n
    | .wait t => (.wait t, m)
    | .fault t e _ => (.fault t e (t.here k), m)
    | .jump t => (.jump t, m)
    | .stall t => (.stall t, m)
    | .spill t e u => (.spill t e u, m)

/-- A pair's outcome: the whole of it done, stopped, waiting, or stopped at a fault (R248, R251). -/
def State.repFinish (s : State) (k : Nat) (r : Act × Nat) : State :=
  match r with
  | (.done t, m) => (t.onCore k fun c => c.advance 2).retired k m
  | (.stall t, m) => t.repStop k m
  | (.fault t e o, m) => (t.onCore k fun c => (c.setRepact true).retire m).trap k e o
  | (.wait t, _) => s.keepFill t k
  | (_, _) => s

/-- The prefixed word's fetch, the legality of the pair, the iterations (R248, R249). -/
def State.repBody (s : State) (k : Nat) (inter : Bool) (due : Option Nat) (w : RepWord) : State :=
  let here := s.here k
  match s.fetchAt k (here + 4) with
  | .wait t => s.keepFill t k
  | .bad t e => t.trap k e here
  | .ok t _ =>
    let n := (t.core k).getLc
    let illegal (u : State) : State := u.trap k ⟨cIllegal, 0, 0⟩ here
    if !(t.core k).isTickClass then illegal t
    else match w with
      | .other => illegal t
      | .admitted p x =>
        if !(guardOk p && scalarLegal x) || (if inter then 65536 else 64) < n then illegal t
        else t.repFinish k (State.repLoop k inter due p x (t.onCore k fun c => c.setRepact false) 0 n)

/-- PG and SN of a prefix word are zero (R209). -/
def bareGuard (p : Guard) : Bool := p.pg.val = 0 && !p.sn

/-- Issues a repeat pair: always a point of R288. -/
def State.issuePair (s : State) (k : Nat) (p : Guard) (inter : Bool) (due : Option Nat) (w : BitVec 32) : State :=
  if s.issueHeld k then s
  else match (s.core k).trapFirst true with
    | some a => s.takeTrap k a
    | none => match s.fetchAt k (s.here k) with
      | .wait t => s.keepFill t k
      | .bad t e => t.trap k e (t.here k)
      | .ok t _ =>
        if bareGuard p then t.repBody k inter due (repWord w) else t.trap k ⟨cIllegal, 0, 0⟩ (t.here k)

/-- REPU (R248): no interrupt stops it. -/
def execRepu (k : CoreId) (w : RepWords) (s : State) : Res := .next (s.issuePair k.val w.p false none w.word)

/-- REPI (R248): an interrupt due at an iteration boundary stops it. -/
def execRepi (k : CoreId) (w : RepWords) (due : Option Nat) (s : State) : Res :=
  .next (s.issuePair k.val w.p true due w.word)

/-! ## Block-repeat -/

/-- A block-repeat element's outcome: it is done and more follow, the instruction ends, it waits, or faults. -/
inductive Elem where
  | more (s : State)
  | ends (s : State)
  | wait (s : State)
  | bad (s : State) (e : Exc)

/-- What follows an element's access. -/
def Got.elem {α : Type} (g : Got α) (f : State → α → Elem) : Elem :=
  match g with
  | .ok s a => f s a
  | .wait s => .wait s
  | .bad s e => .bad s e

/-- An element read through c1 or c2 (R253). -/
def State.readElem (s : State) (k creg e : Nat) : Got Nat :=
  let c := s.c k creg
  (s.passData k creg c .blkLoad c.offset e).bind fun s p =>
    ((s.drainDevice k p).loadParts k c.offset p.parts).bind fun s b => .ok s (leNat b)

/-- An element write through c2 (R253). -/
def State.writeElem (s : State) (k e v : Nat) : Got Unit :=
  let c := s.c k 2
  (s.passData k 2 c .elemStore c.offset e).bind fun s p =>
    (s.drainDevice k p).elemParts k (leBytes e v) { creg := 2, ofs := c.offset } p.parts

/-- A capability register advanced by an element (R252). -/
def State.advanceCap (s : State) (k creg e : Nat) : State := s.setC k creg ((s.c k creg).moved e)

/-- One element fewer (R252). -/
def State.lessOne (s : State) (k : Nat) : State := s.setG k 3 (s.g k 3 - 1)

/-- One element of MOVB (R252). -/
def State.movbStep (k e : Nat) (s : State) : Elem :=
  ((s.readElem k 1 e).bind fun s v => s.writeElem k e v).elem fun s _ =>
    .more (((s.advanceCap k 1 e).advanceCap k 2 e).lessOne k)

/-- One element of CMPB (R252). -/
def State.cmpbStep (k e : Nat) (s : State) : Elem :=
  ((s.readElem k 1 e).bind fun s x => (s.readElem k 2 e).bind fun s y => .ok s (x, y)).elem fun s r =>
    if r.1 != r.2 then .ends (s.setG k 4 (BitVec.ofNat 64 (r.1 ^^^ r.2)))
    else .more (((s.advanceCap k 1 e).advanceCap k 2 e).lessOne k)

/-- One element of FILLB (R252). -/
def State.fillbStep (k e : Nat) (s : State) : Elem :=
  (s.writeElem k e ((s.g k 4).toNat % 2 ^ (8 * e))).elem fun s _ => .more ((s.advanceCap k 2 e).lessOne k)

/-- One element of SCANB (R252). -/
def State.scanbStep (k e : Nat) (s : State) : Elem :=
  (s.readElem k 1 e).elem fun s x =>
    if x = (s.g k 4).toNat % 2 ^ (8 * e) then .ends s else .more ((s.advanceCap k 1 e).lessOne k)

/-- The elements of a block-repeat instruction: `n` at most are left, `m` done (R252, R253). -/
def State.blkLoop (k : Nat) (due : Option Nat) (step : State → Elem) (finish : State → State) (s : State) (m : Nat) :
    Nat → Act
  | 0 => .done (finish s)
  | n + 1 =>
    match step s with
    | .more t =>
      if n != 0 && t.boundaryDue k due (m + 1) then
        .stall (t.onCore k fun c => c.aged)
      else State.blkLoop k due step finish t (m + 1) n
    | .ends t => .done t
    | .wait t => .stall t
    | .bad t e => .fault t e (t.here k)

/-- A block-repeat instruction over `step`, ending with `finish` at g3 = 0 (R252). -/
def State.block (s : State) (k : Nat) (due : Option Nat) (step : State → Elem) (finish : State → State) : Act :=
  State.blkLoop k due step finish s 0 (s.g k 3).toNat

/-- Issues a block-repeat instruction: Bulk class only (R212). -/
def State.issueBlock (s : State) (k : Nat) (p : Guard) (due : Option Nat) (step : State → Elem)
    (finish : State → State) : State :=
  s.issue k true (fun s => !(s.core k).isTickClass) p fun s => s.block k due step finish

/-- MOVB (R252). -/
def execMovb (k : CoreId) (p : Guard) (sz : Size) (due : Option Nat) (s : State) : Res :=
  .next (s.issueBlock k.val p due (State.movbStep k.val (sizeBytes sz)) id)

/-- CMPB (R252): g4 is 0 where no element differs. -/
def execCmpb (k : CoreId) (p : Guard) (sz : Size) (due : Option Nat) (s : State) : Res :=
  .next (s.issueBlock k.val p due (State.cmpbStep k.val (sizeBytes sz)) fun s => s.setG k.val 4 0)

/-- FILLB (R252). -/
def execFillb (k : CoreId) (p : Guard) (sz : Size) (due : Option Nat) (s : State) : Res :=
  .next (s.issueBlock k.val p due (State.fillbStep k.val (sizeBytes sz)) id)

/-- SCANB (R252). -/
def execScanb (k : CoreId) (p : Guard) (sz : Size) (due : Option Nat) (s : State) : Res :=
  .next (s.issueBlock k.val p due (State.scanbStep k.val (sizeBytes sz)) id)

end Sys2Proof.Machine
end

