-- ==== Sys2Proof/Machine/System.lean ====
section
/-! DEFINITION. System calls and returns, NIB, the core control registers, CSYNC and FENCE (R222-R224, R282-R284,
R289, R290, R309, R314). -/

namespace Sys2Proof.Machine

/-- SCALL (R282, R291). -/
def execScall (k : CoreId) (p : Guard) (n : Fin 8) (s : State) : Res :=
  .next (s.issue k.val true always p fun s =>
    if (s.core k.val).level = 0 then .jump (s.sysCall k.val n.val)
    else .fault s ⟨cScall + n.val, 0, 0⟩ ((s.here k.val + 4) % 2 ^ 32))

/-- SRET: level S (R284). -/
def execSret (k : CoreId) (p : Guard) (s : State) : Res :=
  .next (s.issue k.val true (fun s => (s.core k.val).level = 1) p fun s => s.eret k.val false)

/-- The level is S or M (R212). -/
def handlerLevel (k : Nat) (s : State) : Bool := (s.core k).level != 0

/-- ERET: level S or M (R283). -/
def execEret (k : CoreId) (p : Guard) (s : State) : Res :=
  .next (s.issue k.val true (handlerLevel k.val) p fun s => s.eret k.val true)

/-- NIB: level S or M; nothing at M (R289). -/
def execNib (k : CoreId) (p : Guard) (budget : BitVec 11) (s : State) : Res :=
  .next (s.issue k.val false (handlerLevel k.val) p fun s =>
    if (s.core k.val).level = 1 then .done (s.onCore k.val fun c => c.startNib budget.toNat) else .done s)

/-! ## Control registers -/

/-- Access at a level: none, RO, RW or WO (R222). -/
inductive CrAcc where
  | none | ro | rw | wo
  deriving DecidableEq, Repr

/-- The T column of R222. -/
def crT (n : Nat) : CrAcc :=
  if n = 6 then .rw
  else if n ≤ 2 || n = 27 || n = 28 || n = 31 || n = 32 || n = 33 then .ro
  else .none

/-- The S column of R222. -/
def crS (n : Nat) : CrAcc :=
  if n = 26 then .wo
  else if n = 2 || n = 3 || n = 6 || n = 25 || n = 27 || n = 28 || n = 29 then .rw
  else if n ≤ 1 || n = 5 || n = 7 || n = 8 || n = 10 || n = 12 || n = 14 || (16 ≤ n && n ≤ 24) || (31 ≤ n && n ≤ 33)
  then .ro
  else .none

/-- The M column of R222. -/
def crM (n : Nat) : CrAcc :=
  if n = 26 then .wo
  else if n ≤ 1 || (7 ≤ n && n ≤ 13) || (31 ≤ n && n ≤ 33) then .ro
  else if n ≤ 30 then .rw
  else .none

/-- The access of a control register on a core at its level; WINCFG does not exist on the Steward (R206, R222). -/
def CoreS.crAccess (c : CoreS) (k n : Nat) : CrAcc :=
  if k = stewardCore && n = 5 then .none
  else match c.level with
    | 0 => crT n
    | 1 => crS n
    | _ => crM n

/-- The CSYNC column of R222. -/
def crSync (n : Nat) : Bool := n = 5 || n = 6 || (14 ≤ n && n ≤ 24) || n = 26 || n = 27

/-- ST as it reads: IE at S is 1 but while a budget runs, and 0 at M (R290). -/
def CoreS.readSt (c : CoreS) : Nat :=
  match c.level with
  | 0 => c.status
  | 1 => stPut c.status 2 1 (b2n (!c.nibActive))
  | _ => stPut c.status 2 1 0

/-- TASKNO (R222, R277). -/
def CoreS.readTaskno (c : CoreS) (k : Nat) : Nat :=
  match c.running with
  | some i => Sys2Proof.Machine.taskNo k i + ((c.slot i).vctx.getD 0) * 2 ^ 14
  | none => 0x3FFF

/-- The state code of the vector unit (R222 VSTAT). -/
def VUnit.code : VUnit → Nat
  | .off => 0
  | .waking => 1
  | .on => 2

/-- VSTAT (R222). -/
def CoreS.readVstat (c : CoreS) : Nat :=
  c.vunit.code + bitsOf (c.cr 28) 2 4 * 4 + c.boundCtx.length * 2 ^ 16 + (c.cr 28 >>> 32) * 2 ^ 32

/-- A register of the running task's set; zero on an idle core (R277). -/
def CoreS.ofTask (c : CoreS) (f : TaskSet → Word) : Nat :=
  match c.running with
  | some i => (f (c.slot i)).toNat
  | none => 0

/-- The value MFC reads, the pending writes of CSYNC registers in force (R222, R314). -/
def State.readCr (s : State) (k n : Nat) : Nat :=
  let c := s.core k
  let c := if crSync n then c.applyWrites else c
  match n with
  | 0 => k + (if k = stewardCore then 0 else tileOf k) * 2 ^ 8
  | 1 => c.readTaskno k
  | 2 => c.readSt
  | 3 => c.ofTask fun t => t.sb.sst
  | 4 => c.mb.sst.toNat
  | 6 => c.ofTask fun t => t.arith
  | 7 => c.ofTask fun t => t.aepc
  | 8 => c.ofTask fun t => t.sb.cause
  | 9 => c.mb.cause.toNat
  | 10 => c.ofTask fun t => t.sb.finfo
  | 11 => c.mb.finfo.toNat
  | 12 => c.ofTask fun t => t.sb.fofs
  | 13 => c.mb.fofs.toNat
  | 26 => 0
  | 28 => c.readVstat
  | 29 => c.ofTask fun t => t.sb.scratch
  | 30 => c.mb.scratch.toNat
  | 31 => s.ns - c.cr 31
  | 32 => s.tickNo
  | n => c.cr n

/-- A write of ST (R222, R289, R290): RESW is cut to W - 1; IE at S starts or ends a budget. -/
def CoreS.writeSt (c : CoreS) (k v : Nat) : CoreS :=
  let c := match c.running with
    | some _ => c.setStatus (stPut c.status 12 4 (min (stResw v) (windowsOf (c.shape k) - 1)))
    | none => c
  if c.level = 1 then (if bitOf v 2 then c.endNib else c.startNib (min (c.cr 24) 2000)) else c

/-- SST with its writable bits replaced; ORIGIN is kept (R222). -/
def sstPut (old : Word) (v : Nat) : Word := BitVec.ofNat 64 (v % 2 ^ 17 + bitsOf old.toNat 17 2 * 2 ^ 17)

/-- The S bank of the running task. -/
def CoreS.onSBank (c : CoreS) (f : BankR → BankR) : CoreS := c.onTask fun t => { t with sb := f t.sb }

/-- The value MTC writes (R222, R224): to a CSYNC register it waits, to any other it takes effect at once. -/
def CoreS.writeCr (c : CoreS) (k n : Nat) (v : Word) : CoreS :=
  if crSync n then { c with csync := c.csync ++ [(n, v)] }
  else match n with
    | 2 => c.writeSt k v.toNat
    | 3 => c.onSBank fun b => { b with sst := sstPut b.sst v.toNat }
    | 4 => { c with mb := { c.mb with sst := sstPut c.mb.sst v.toNat } }
    | 25 => c.setCr 25 ((v.toNat >>> 32) * 2 ^ 32 + c.cr 25 % 2 ^ 32)
    | 28 => c.setCr 28 ((v.toNat >>> 32) * 2 ^ 32 + c.cr 28 % 2 ^ 32)
    | 29 => c.onSBank fun b => { b with scratch := v }
    | 30 => { c with mb := { c.mb with scratch := v } }
    | _ => c

/-- MFC (R222). -/
def execMfc (k : CoreId) (p : Guard) (gd : GReg) (n : BitVec 6) (s : State) : Res :=
  .next (s.issue k.val false (fun s => (s.core k.val).crAccess k.val n.toNat != .none) p fun s =>
    .done (s.setG k.val gd (BitVec.ofNat 64 (s.readCr k.val n.toNat))))

/-- An MTC that is legal: the level writes the register, and WINCFG only while no task set is created (R205,
R222). -/
def mtcLegal (k n : Nat) (s : State) : Bool :=
  let a := (s.core k).crAccess k n
  (a = .rw || a = .wo) && !(n = 5 && !(s.core k).created.isEmpty)

/-- MTC (R222, R224). -/
def execMtc (k : CoreId) (p : Guard) (gs : GReg) (n : BitVec 6) (s : State) : Res :=
  .next (s.issue k.val false (mtcLegal k.val n.toNat) p fun s =>
    .done (s.onCore k.val fun c => c.writeCr k.val n.toNat (s.g k.val gs)))

/-- CSYNC (R314). -/
def execCsync (k : CoreId) (p : Guard) (s : State) : Res :=
  .next (s.issue k.val false always p fun s => .done (s.onCore k.val CoreS.settleAll))

/-- FENCE (R309). -/
def execFence (k : CoreId) (p : Guard) (s : State) : Res :=
  .next (s.issue k.val false always p fun s => .done ((s.onCore k.val CoreS.landLoads).drainAll k.val))

/-- CMFC: SPCC of the current level's bank (R217, R236). -/
def execCmfc (k : CoreId) (p : Guard) (cd : CReg) (s : State) : Res :=
  .next (s.issue k.val false (handlerLevel k.val) p fun s => .done (s.setC k.val cd (s.core k.val).bank.spcc))

/-- Changes the bank of the current level. -/
def CoreS.onBank (c : CoreS) (f : BankR → BankR) : CoreS :=
  if c.level = 1 then c.onSBank f else { c with mb := f c.mb }

/-- CMTC: SPCC takes all 128 bits and the tag (R224). -/
def execCmtc (k : CoreId) (p : Guard) (cs : CReg) (s : State) : Res :=
  .next (s.issue k.val false (handlerLevel k.val) p fun s =>
    .done (s.onCore k.val fun c => c.onBank fun b => { b with spcc := s.c k.val cs }))

end Sys2Proof.Machine
end

