-- ==== Sys2Proof/Machine/Transfer.lean ====
section
/-! DEFINITION. Transfers of control, windows and window traps, INVOKE and RET, the loop instructions, WAIT and
BREAK (R182, R201-R204, R207, R216, R242-R247, R276, R278, R279). -/

namespace Sys2Proof.Machine

/-! ## Windows -/

/-- The running task's slot; window operations happen only while a task runs. -/
def CoreS.slotNo (c : CoreS) : Nat := c.running.getD 0

/-- The 16 registers of a window of the running task, as 128 bytes (R278). -/
def CoreS.windowBytes (c : CoreS) (w : Nat) : Bytes :=
  (numsFrom 0 16).flatMap fun i => leBytes 8 (c.win.get 0 (w, i)).toNat

/-- Writes the 16 registers of a window from 128 bytes (R278). -/
def CoreS.fillWindow (c : CoreS) (w : Nat) (b : Bytes) : CoreS :=
  { c with win := (numsFrom 0 16).foldl (fun m i => m.set (w, i) (BitVec.ofNat 64 (fieldAt b (8 * i) 8))) c.win }

/-- Makes window `w` current with `r` resident caller frames (R202, R204). -/
def CoreS.turn (c : CoreS) (w r : Nat) : CoreS := c.setStatus (stPut (stPut c.status 8 4 w) 12 4 r)

/-- The access of a window trap through c14: the checks of R171 with OFFSET a multiple of 16 (R278). -/
def State.passSpill (s : State) (k : Nat) (c : Cap) (kind : AccKind) (ofs : Int) : Got Passed :=
  let t : Tell := { creg := 14, ofs := ofs }
  (s.check14 k c false t).bind fun s e =>
    let f := s.checks59 c e (k = stewardCore) kind ofs 128
    let early := match f with
      | some (.generation _) => true
      | some .rights => true
      | _ => false
    match (if c.offset % 16 != 0 && !early then some CFault.bounds else f) with
    | some f => .bad s (t.exc f)
    | none =>
      let a := physAddr e ofs
      (s.check10 k e.colour kind.isWrite a 128 t).bind fun s _ =>
        .ok (s.guardNote (s.coreAgent k e.colour) kind.isWrite false a 128) ⟨e.ty, e.colour, 0, granParts a 128⟩

/-- A failed check of a window trap becomes a Spill fault; its CHECK is never 0 (R279; log entry 31). -/
def spillExc (ofs : Int) (e : Exc) : Exc :=
  ⟨cSpill, finfo 14 (if bitsOf e.finfo 4 4 = 0 then 10 else bitsOf e.finfo 4 4) false false, ofs⟩

/-- The window overflow trap, then the call (R278, R204). -/
def State.overflow (s : State) (k w n : Nat) (next : State → Act) : Act :=
  let c14 := s.c k 14
  let ofs : Int := (c14.offset : Int) - 128
  let old := (s.core k).slotNo * n + (w + 1) % n
  match s.passSpill k c14 .store ofs with
  | .wait t => .wait t
  | .bad t e => .spill t (spillExc ofs e) false
  | .ok t p =>
    let t := t.onCore k CoreS.landAll
    match (t.drainDevice k p).storeParts k ((t.core k).windowBytes old) { creg := 14, ofs := ofs } p.parts with
    | .wait u => .wait u
    | .bad u e => .spill u (spillExc ofs e) false
    | .ok u _ =>
      next ((u.setC k 14 (c14.moved (-128))).onCore k fun c => c.turn ((w + 1) % n) (n - 1))

/-- The window underflow trap, then the return (R278, R204). -/
def State.underflow (s : State) (k w n : Nat) (next : State → Act) : Act :=
  let c14 := s.c k 14
  let ofs : Int := c14.offset
  let v := (w + n - 1) % n
  match s.passSpill k c14 .load ofs with
  | .wait t => .wait t
  | .bad t e => .spill t (spillExc ofs e) true
  | .ok t p =>
    let t := t.onCore k CoreS.landAll
    match (t.drainDevice k p).loadParts k ofs p.parts with
    | .wait u => .wait u
    | .bad u e => .fault u e (u.here k)
    | .ok u b =>
      next ((u.setC k 14 (c14.moved 128)).onCore k fun c =>
        (c.fillWindow ((s.core k).slotNo * n + v) b).turn v 0)

/-- A window call: at T only (R202, R204, R276). -/
def State.windowCall (s : State) (k : Nat) (next : State → Act) : Act :=
  let c := s.core k
  if c.level != 0 then next s
  else
    let n := windowsOf (c.shape k)
    let w := stCwp c.status
    let r := stResw c.status
    if r + 1 < n then next (s.onCore k fun c => c.turn ((w + 1) % n) (r + 1)) else s.overflow k w n next

/-- A window return: at T only (R202, R204, R276). -/
def State.windowReturn (s : State) (k : Nat) (next : State → Act) : Act :=
  let c := s.core k
  if c.level != 0 then next s
  else
    let n := windowsOf (c.shape k)
    let w := stCwp c.status
    let r := stResw c.status
    if r = 0 then s.underflow k w n next
    else next (s.onCore k fun c => c.turn ((w + n - 1) % n) (r - 1))

/-! ## Transfers -/

/-- The seal type of return capabilities (R181). -/
def returnSeal : Nat := 0xFFFF

/-- The return capability of a call: pcc with the OFFSET of the next instruction, sealed (R201, R182). -/
def State.linkCap (s : State) (k : Nat) : Cap :=
  ((s.core k).pcc.withOffset ((s.here k + 4) % 2 ^ 32)).withSeal returnSeal

/-- pcc's OFFSET changed by a word displacement (R216). -/
def State.branchTo (s : State) (k : Nat) (words : Int) : State :=
  s.onCore k fun c => c.setPcc (c.pcc.withOffset (ofSigned 32 ((c.pcc.offset : Int) + 4 * words)))

/-- BR (R242). -/
def execBr (k : CoreId) (p : Guard) (imm : BitVec 22) (s : State) : Res :=
  .next (s.issue k.val true always p fun s => .jump (s.branchTo k.val imm.toInt))

/-- CALL (R242). -/
def execCall (k : CoreId) (p : Guard) (imm : BitVec 22) (s : State) : Res :=
  .next (s.issue k.val true always p fun s =>
    let link := s.linkCap k.val
    s.windowCall k.val fun s => .jump ((s.setC k.val 15 link).branchTo k.val imm.toInt))

/-- The report of a check on a transfer target (R222 FINFO; log entry 32). -/
def targetTell (creg : Nat) (c : Cap) : Tell := { creg := creg, ofs := c.offset, fetch := true }

/-- A target OFFSET is a multiple of 4 (R207). -/
def aligned4 (s : State) (c : Cap) (t : Tell) : Got Unit :=
  if c.offset % 4 = 0 then .ok s () else .bad s (t.exc .bounds)

/-- The checks of CJMP's operand (R243). -/
def State.checkTarget (s : State) (k cs : Nat) (c : Cap) : Got Unit :=
  let t := targetTell cs c
  (s.check15 k c false t).bind fun s e =>
    if e.ty != 2 || !bitOf (effRights c e (k = stewardCore)) rX then .bad s (t.exc .rights)
    else (aligned4 s c t).bind fun s _ =>
      if e.owner != s.domain k then .bad s (t.exc .rights) else .ok s ()

/-- CJMP (R243). -/
def execCjmp (k : CoreId) (p : Guard) (cs : CReg) (link : Bool) (s : State) : Res :=
  .next (s.issue k.val true always p fun s =>
    let c := s.c k.val cs
    let l := s.linkCap k.val
    (s.checkTarget k.val cs c).act k.val fun s _ =>
      let go (s : State) : State := s.onCore k.val fun x => x.setPcc c
      if link then s.windowCall k.val fun s => .jump (go (s.setC k.val 15 l)) else .jump (go s))

/-- The checks of RET's operand, in R171's order (R182; log entry 33). -/
def State.checkLink (s : State) (k : Nat) (c : Cap) : Got Unit :=
  let t := targetTell 15 c
  match checks123 c true with
  | some f => .bad s (t.exc f)
  | none =>
    if c.sealType != returnSeal then .bad s (t.exc .sealed)
    else (s.check15 k c true t).bind fun s _ => aligned4 s c t

/-- RET (R244). -/
def execRet (k : CoreId) (p : Guard) (s : State) : Res :=
  .next (s.issue k.val true always p fun s =>
    let c := s.c k.val 15
    (s.checkLink k.val c).act k.val fun s _ =>
      s.windowReturn k.val fun s => .jump (s.onCore k.val fun x => x.setPcc (c.withSeal 0)))

/-- The checks of INVOKE's operands, in the order of R182. -/
def State.checkInvoke (s : State) (k cc cd : Nat) (c d : Cap) : Got Unit :=
  let tc := targetTell cc c
  let td : Tell := { creg := cd, ofs := d.offset }
  let st := decide (k = stewardCore)
  (s.check15 k c true tc).bind fun s ec => (s.check15 k d true td).bind fun s ed =>
    let t := c.sealType
    if t = 0 || t = returnSeal then .bad s (tc.exc .sealed)
    else if d.sealType != t then .bad s (td.exc .sealed)
    else if !bitOf (effRights c ec st) rIV then .bad s (tc.exc .rights)
    else if !bitOf (effRights d ed st) rIV then .bad s (td.exc .rights)
    else if ec.ty != 2 then .bad s (tc.exc .rights)
    else if ed.ty != 1 then .bad s (td.exc .rights)
    else if ec.xseal != t then .bad s (tc.exc .sealed)
    else if ed.xseal != t then .bad s (td.exc .sealed)
    else aligned4 s c tc

/-- INVOKE (R182, R244). -/
def execInvoke (k : CoreId) (p : Guard) (cc cd : CReg) (s : State) : Res :=
  .next (s.issue k.val true always p fun s =>
    let c := s.c k.val cc
    let d := s.c k.val cd
    let l := s.linkCap k.val
    (s.checkInvoke k.val cc cd c d).act k.val fun s _ =>
      s.windowCall k.val fun s =>
        .jump (((s.setC k.val 15 l).setC k.val 0 (d.withSeal 0)).onCore k.val fun x => x.setPcc (c.withSeal 0)))

/-! ## Loops -/

/-- LOOP (R245). -/
def execLoop (k : CoreId) (p : Guard) (imm : BitVec 20) (s : State) : Res :=
  .next (s.issue k.val true always p fun s =>
    let n := ((s.core k.val).getLc + 2 ^ 32 - 1) % 2 ^ 32
    let s := s.onCore k.val fun c => c.setLc n
    if n = 0 then .done s else .jump (s.branchTo k.val imm.toInt))

/-- SETLC (R245). -/
def execSetlc (k : CoreId) (p : Guard) (ga : GReg) (s : State) : Res :=
  .next (s.issue k.val false always p fun s => .done (s.onCore k.val fun c => c.setLc (s.g k.val ga).toNat))

/-- SETLCI (R245). -/
def execSetlci (k : CoreId) (p : Guard) (imm : BitVec 20) (s : State) : Res :=
  .next (s.issue k.val false always p fun s => .done (s.onCore k.val fun c => c.setLc imm.toNat))

/-- GETLC (R245). -/
def execGetlc (k : CoreId) (p : Guard) (gd : GReg) (s : State) : Res :=
  .next (s.issue k.val false always p fun s => .done (s.setG k.val gd (BitVec.ofNat 64 (s.core k.val).getLc)))

/-! ## WAIT and BREAK -/

/-- Something that ends a WAIT has happened already (R246). -/
def TaskSet.mustWait (t : TaskSet) : Bool := !(t.emptyQ.isSome && t.emptyAdded) && t.pendingS.isNone

/-- The running task gives the core up until it is Ready again; it resumes after the WAIT (R246, R268). -/
def State.waitHere (s : State) (k i : Nat) : State :=
  s.onCore k fun c =>
    let c := c.advance 1
    let c := { c.settleAll with running := none, last := i }
    c.setSlot i ((c.slot i).leaveRunning .waiting)

/-- WAIT (R246): at S and M, and where what it waits for has come, it completes at once. -/
def execWait (k : CoreId) (p : Guard) (s : State) : Res :=
  .next (s.issue k.val true always p fun s =>
    let c := s.core k.val
    match c.running with
    | some i =>
      if c.level = 0 && (c.slot i).mustWait then .jump (s.waitHere k.val i) else .done s
    | none => .done s)

/-- BREAK (R247). -/
def execBreakpoint (k : CoreId) (p : Guard) (_code : BitVec 16) (s : State) : Res :=
  .next (s.issue k.val false always p fun s => s.faultHere k.val cBreak)

end Sys2Proof.Machine
end

