-- ==== Sys2Proof/Machine/Vector.lean ====
section
/-! DEFINITION. Vector instructions (R220, R221, R257-R267). -/

namespace Sys2Proof.Machine

/-! ## Elements -/

/-- EW in bits (R218). -/
def ewBits (ew : EW) : Nat := 8 * 2 ^ ew.val
/-- Elements of a register at a width (R257). -/
def ewCount (ew : EW) : Nat := 256 / ewBits ew

/-- Element `i` of a vector register (R220). -/
def elemOf (v : BitVec 256) (w i : Nat) : Nat := bitsOf v.toNat (w * i) w

/-- A vector register with element `i` replaced. -/
def putElem (v : BitVec 256) (w i x : Nat) : BitVec 256 :=
  let n := v.toNat
  BitVec.ofNat 256 (n % 2 ^ (w * i) + (x % 2 ^ w) * 2 ^ (w * i) + (n >>> (w * i + w)) * 2 ^ (w * i + w))

/-- Elements 0 to n - 1 replaced by those of a function; the others are kept (R257). -/
def mapElems (v : BitVec 256) (w n : Nat) (f : Nat → Nat) : BitVec 256 :=
  (numsFrom 0 n).foldl (fun r i => putElem r w i (f i)) v

/-- The running task's vector context. -/
def CoreS.ctx (c : CoreS) : Nat :=
  match c.running with
  | some i => (c.slot i).vctx.getD 0
  | none => 0

/-- A vector register of the running task. -/
def State.v (s : State) (k n : Nat) : BitVec 256 := (s.core k).vregs.get 0 ((s.core k).ctx, n)

/-- Writes a vector register of the running task. -/
def State.setV (s : State) (k n : Nat) (x : BitVec 256) : State :=
  s.onCore k fun c => { c with vregs := c.vregs.set (c.ctx, n) x }

/-- vl of the running task (R220). -/
def State.vl (s : State) (k : Nat) : Nat := ((s.core k).vl.get 0 (s.core k).ctx).toNat

/-- n of R257. -/
def State.elems (s : State) (k : Nat) (ew : EW) : Nat := min (s.vl k % 64) (ewCount ew)

/-! ## Issue -/

/-- The context of the last vector instruction executed (R222 VSTAT). -/
def CoreS.vectorLast (c : CoreS) : CoreS := c.setCr 28 ((c.cr 28 >>> 32) * 2 ^ 32 + c.ctx * 4)

/-- A vector instruction is under way, the last of its context (R221, R304, R222 VSTAT). -/
def CoreS.vectorStarts (c : CoreS) : CoreS :=
  { c.vectorLast with flights := c.flights.filter (fun f => f != .vec) ++ [.vec] }

/-- A vector instruction that finds the unit Off starts its wake (R221). -/
def CoreS.wake (c : CoreS) : CoreS :=
  { c.setCr 28 (satAdd 32 (c.cr 28 >>> 32) 1 * 2 ^ 32 + c.cr 28 % 2 ^ 32) with vunit := .waking }

/-- The set is vector-enabled (R212). -/
def vectorLegal (k : Nat) (s : State) : Bool := stVen (s.core k).status

/-- Issues a vector instruction: in Off the unit wakes first; `start` is what it does to the unit (R212, R221, R288). -/
def State.issueUnit (s : State) (k : Nat) (legal : Bool) (p : Guard) (start : CoreS → CoreS) (body : State → Act) : State :=
  s.issue k true (fun s => legal && vectorLegal k s) p fun s =>
    if (s.core k).vunit = .off then .stall (s.onCore k CoreS.wake)
    else body (s.onCore k start)

/-- Issues a vector instruction that the unit runs beside the pipe (R304). -/
def State.issueVector (s : State) (k : Nat) (legal : Bool) (p : Guard) (body : State → Act) : State :=
  s.issueUnit k legal p CoreS.vectorStarts body

/-- SETVL: it runs in the pipe (R258, R304). -/
def execSetvl (k : CoreId) (p : Guard) (gd ga : GReg) (ew : EW) (s : State) : Res :=
  .next (s.issueUnit k.val true p CoreS.vectorLast fun s =>
    let n := min (s.g k.val ga).toNat (ewCount ew)
    .done ((s.onCore k.val fun c => { c with vl := c.vl.set c.ctx (BitVec.ofNat 64 (n + ew.val * 64)) }).setG k.val gd
      (BitVec.ofNat 64 n)))

/-! ## Memory -/

/-- An element's fault (R222 FINFO, R261). -/
def elemExc (creg i : Nat) (ofs : Int) (e : Exc) : Exc := ⟨e.code, finfoVec creg (bitsOf e.finfo 4 4) i, ofs⟩

/-- Every element passes checks 1 to 10 before any is performed (R261): their physical addresses. -/
def State.passElems (s : State) (k cs : Nat) (c : Cap) (kind : AccKind) (ofs : Int) (n : Nat) (i : Nat) :
    Nat → Got (List Passed)
  | 0 => .ok s []
  | m + 1 =>
    let o := ofs + ((i * n : Nat) : Int)
    match s.passParts k cs c kind [(o, n, false)] with
    | .wait t => .wait t
    | .bad t e => .bad t (elemExc cs i o e)
    | .ok t p => (t.passElems k cs c kind ofs n (i + 1) m).bind fun t l => .ok t (p :: l)

/-- The address of an element past its checks. -/
def Passed.addr (p : Passed) : Nat := (p.parts.map Prod.fst).headD 0

/-- An element's access failed: element `i` of `n` bytes (R261). -/
def Got.ofElem {α : Type} (g : Got α) (cs : Nat) (ofs : Int) (n i : Nat) : Got α :=
  match g with
  | .bad t e => .bad t (elemExc cs i (ofs + ((i * n : Nat) : Int)) e)
  | x => x

/-- The bytes of a VLD's elements in memory, read granule by granule, `d` of them read already (R306). -/
def State.loadGranules (s : State) (k cs : Nat) (ofs : Int) (n d : Nat) : List (Nat × Nat) → Got Bytes
  | [] => .ok s []
  | (a, m) :: l =>
    ((s.loadPart k a m ofs).ofElem cs ofs n (d / n)).bind fun s b =>
      (s.loadGranules k cs ofs n (d + m) l).bind fun s r => .ok s (b ++ r)

/-- The elements of a VLD in control space, read one by one (R21, R310). -/
def State.loadRegs (s : State) (k cs : Nat) (ofs : Int) (n i : Nat) : List Passed → Got (List Nat)
  | [] => .ok s []
  | p :: l =>
    (((s.drainDevice k p).loadPart k p.addr n ofs).ofElem cs ofs n i).bind fun s b =>
      (s.loadRegs k cs ofs n (i + 1) l).bind fun s r => .ok s (leNat b :: r)

/-- The elements of a VLD read: those in memory, then those in control space above it (R261, R306). -/
def State.loadElems (s : State) (k cs : Nat) (ofs : Int) (n : Nat) (l : List Passed) : Got (List Nat) :=
  let m := l.takeWhile fun p => !inControl p.addr
  (s.loadGranules k cs ofs n 0 (granParts ((l.map Passed.addr).headD 0) (n * m.length))).bind fun s b =>
    (s.loadRegs k cs ofs n m.length (l.drop m.length)).bind fun s r =>
      .ok s ((numsFrom 0 m.length).map (fun i => leNat ((b.drop (n * i)).take n)) ++ r)

/-- The elements of a VST in control space, written one by one (R21, R310). -/
def State.storeRegs (s : State) (k cs : Nat) (ofs : Int) (n i : Nat) (f : Nat → Nat) : List Passed → Got Unit
  | [] => .ok s ()
  | p :: l =>
    (((s.drainDevice k p).storePart k p.addr (leBytes n (f i)) { creg := cs, ofs := ofs }).ofElem cs ofs n i).bind
      fun s _ => s.storeRegs k cs ofs n (i + 1) f l

/-- The elements of a VST written, in increasing order: one store buffer entry for each granule of memory, or element
by element in control space (R261, R305). -/
def State.storeElems (s : State) (k cs : Nat) (ofs : Int) (n : Nat) (f : Nat → Nat) (l : List Passed) : Got Unit :=
  let a := (l.map Passed.addr).headD 0
  if inControl a then s.storeRegs k cs ofs n 0 f l
  else .ok (s.pushGrans k (granParts a (n * l.length)) ((numsFrom 0 l.length).flatMap fun i => leBytes n (f i))) ()

/-- The Guard counts what it admitted of each element. -/
def State.noteElems (s : State) (k : Nat) (write : Bool) (l : List Passed) : State :=
  l.foldl (fun s p => s.notePassed k write p) s

/-- VLD (R261). -/
def execVld (k : CoreId) (p : Guard) (v : VReg) (cs : CReg) (ew : EW) (imm : BitVec 12) (s : State) : Res :=
  .next (s.issueVector k.val true p fun s =>
    let c := s.c k.val cs
    let ofs := effOffset c imm.toInt
    let b := ewBits ew / 8
    let n := s.elems k.val ew
    ((s.passElems k.val cs c .elemLoad ofs b 0 n).bind fun s l =>
      (s.noteElems k.val false l).loadElems k.val cs ofs b l).act k.val fun s x =>
        .done (s.setV k.val v (mapElems (s.v k.val v) (ewBits ew) n fun i => x.getD i 0)))

/-- VST (R261). -/
def execVst (k : CoreId) (p : Guard) (v : VReg) (cs : CReg) (ew : EW) (imm : BitVec 12) (s : State) : Res :=
  .next (s.issueVector k.val true p fun s =>
    let c := s.c k.val cs
    let ofs := effOffset c imm.toInt
    let b := ewBits ew / 8
    let x := s.v k.val v
    ((s.passElems k.val cs c .elemStore ofs b 0 (s.elems k.val ew)).bind fun s l =>
      (s.noteElems k.val true l).storeElems k.val cs ofs b (elemOf x (ewBits ew)) l).act k.val fun s _ => .done s)

/-! ## VVV and VVS -/

/-- A signed value cut to the signed range of `w` bits (R259). -/
def saturate (w : Nat) (i : Int) : Nat := ofSigned w (clipInt (-((2 ^ (w - 1) : Nat) : Int)) (((2 ^ (w - 1) : Nat) : Int) - 1) i)

/-- A function of R259 on elements of `w` bits. -/
def vecElem (f : VecF) (w a b : Nat) : Nat :=
  let x := toSigned w a
  let y := toSigned w b
  let sh := b % w
  match f with
  | .add => (a + b) % 2 ^ w
  | .sub => (a + 2 ^ w - b % 2 ^ w) % 2 ^ w
  | .mul => (a * b) % 2 ^ w
  | .mulh => ofSigned w ((x * y) / (2 ^ w : Nat))
  | .and => a &&& b
  | .or => a ||| b
  | .xor => a ^^^ b
  | .min => if x ≤ y then a else b
  | .max => if x ≤ y then b else a
  | .minu => min a b
  | .maxu => max a b
  | .sll => (a <<< sh) % 2 ^ w
  | .srl => a >>> sh
  | .sra => ofSigned w (x / (2 ^ sh : Nat))
  | .sadd => saturate w (x + y)
  | .ssub => saturate w (x - y)
  | .absd => (x - y).natAbs

/-- The second operand's element (R259). -/
def State.vsrcElem (s : State) (k : Nat) (b : VSrc) (w i : Nat) : Nat :=
  match b with
  | .vec vb => elemOf (s.v k vb) w i
  | .scal gb => (s.g k gb).toNat % 2 ^ w

/-- A VVV or VVS word (R259). -/
def State.issueVV (s : State) (k : CoreId) (p : Guard) (f : VecF) (vd va : VReg) (b : VSrc) (ew : EW) : State :=
  s.issueVector k.val true p fun s =>
    let w := ewBits ew
    .done (s.setV k.val vd (mapElems (s.v k.val vd) w (s.elems k.val ew) fun i =>
      vecElem f w (elemOf (s.v k.val va) w i) (s.vsrcElem k.val b w i)))

/-! ## VMOV -/

/-- A VMOV that writes a general register, beside the pipe (R260, R302). -/
def State.issueVG (s : State) (k : CoreId) (p : Guard) (g : GReg) (legal : Bool) (f : State → Nat) : State :=
  s.issueVector k.val legal p fun s => .done (s.setGLong k.val g (BitVec.ofNat 64 (f s)))

/-- The elements of a reduction (R260). -/
def State.elemList (s : State) (k v : Nat) (ew : EW) : List Nat :=
  (numsFrom 0 (s.elems k ew)).map (elemOf (s.v k v) (ewBits ew))

/-- VBCAST (R260). -/
def execVbcast (k : CoreId) (p : Guard) (v : VReg) (g : GReg) (ew : EW) (s : State) : Res :=
  .next (s.issueVector k.val true p fun s =>
    .done (s.setV k.val v (mapElems (s.v k.val v) (ewBits ew) (s.elems k.val ew) fun _ => (s.g k.val g).toNat)))

/-- VEXTI (R260). -/
def execVexti (k : CoreId) (p : Guard) (v : VReg) (g : GReg) (ew : EW) (idx : Fin 32) (s : State) : Res :=
  .next (s.issueVG k p g (idx.val < ewCount ew) fun s =>
    ofSigned 64 (toSigned (ewBits ew) (elemOf (s.v k.val v) (ewBits ew) idx.val)))

/-- VINSI (R260). -/
def execVinsi (k : CoreId) (p : Guard) (v : VReg) (g : GReg) (ew : EW) (idx : Fin 32) (s : State) : Res :=
  .next (s.issueVector k.val (idx.val < ewCount ew) p fun s =>
    .done (s.setV k.val v (putElem (s.v k.val v) (ewBits ew) idx.val (s.g k.val g).toNat)))

/-- VREDSUM (R260). -/
def execVredsum (k : CoreId) (p : Guard) (v : VReg) (g : GReg) (ew : EW) (s : State) : Res :=
  .next (s.issueVG k p g true fun s =>
    ofSigned 64 (((s.elemList k.val v ew).map (toSigned (ewBits ew))).foldl (· + ·) 0))

/-- VREDMIN (R260). -/
def execVredmin (k : CoreId) (p : Guard) (v : VReg) (g : GReg) (ew : EW) (s : State) : Res :=
  .next (s.issueVG k p g true fun s =>
    ofSigned 64 (((s.elemList k.val v ew).map (toSigned (ewBits ew))).foldl min 0x7FFFFFFFFFFFFFFF))

/-- VREDMAX (R260). -/
def execVredmax (k : CoreId) (p : Guard) (v : VReg) (g : GReg) (ew : EW) (s : State) : Res :=
  .next (s.issueVG k p g true fun s =>
    ofSigned 64 (((s.elemList k.val v ew).map (toSigned (ewBits ew))).foldl max (-0x8000000000000000)))

/-- VREDMINU (R260). -/
def execVredminu (k : CoreId) (p : Guard) (v : VReg) (g : GReg) (ew : EW) (s : State) : Res :=
  .next (s.issueVG k p g true fun s => (s.elemList k.val v ew).foldl min (2 ^ 64 - 1))

/-- VREDMAXU (R260). -/
def execVredmaxu (k : CoreId) (p : Guard) (v : VReg) (g : GReg) (ew : EW) (s : State) : Res :=
  .next (s.issueVG k p g true fun s => (s.elemList k.val v ew).foldl max 0)

/-! ## Geometry -/

/-- The coordinates of a point of `w` bits (R263). -/
def pointOf (w a : Nat) : Int × Int := (toSigned (w / 2) (a % 2 ^ (w / 2)), toSigned (w / 2) (a >>> (w / 2)))

/-- Squared distance of R265, and its minimum with `m`. -/
def vpsdElem (w : Nat) (p a b : Int × Int) (m : Nat) : Nat :=
  let dx := b.1 - a.1
  let dy := b.2 - a.2
  let wx := p.1 - a.1
  let wy := p.2 - a.2
  let dd := dx * dx + dy * dy
  let wd := wx * dx + wy * dy
  let cross := wx * dy - wy * dx
  let q :=
    if dd = 0 || wd ≤ 0 then wx * wx + wy * wy
    else if dd ≤ wd then (p.1 - b.1) * (p.1 - b.1) + (p.2 - b.2) * (p.2 - b.2)
    else (cross * cross) / dd
  min (min q.toNat (2 ^ w - 1)) m

/-- floor(sqrt(x)) of a number below 2^80, bit by bit from the top. -/
def isqrtFrom (x r : Nat) : Nat → Nat
  | 0 => r
  | n + 1 => isqrtFrom x (if (r + 2 ^ n) * (r + 2 ^ n) ≤ x then r + 2 ^ n else r) n

/-- The length of a step, added to `m` (R266). -/
def vpaccElem (w : Nat) (p q : Int × Int) (m : Nat) : Nat :=
  let dx := p.1 - q.1
  let dy := p.2 - q.2
  min (m + isqrtFrom (dx * dx + dy * dy).toNat 0 40) (2 ^ w - 1)

/-- The test of a window (R267). -/
def vswinElem (w : Nat) (p lo hi : Int × Int) (m : Nat) : Nat :=
  if lo.1 ≤ p.1 && p.1 ≤ hi.1 && lo.2 ≤ p.2 && p.2 ≤ hi.2 then 2 ^ w - 1 else m

/-- A point in a general register (R263). -/
def State.pointG (s : State) (k g w : Nat) : Int × Int := pointOf w ((s.g k g).toNat % 2 ^ w)

/-- VGEO takes EW 2 and 3; a pair starts at an even register (R264). -/
def geoLegal (ew : EW) (gs : GReg) (pair : Bool) : Bool := 2 ≤ ew.val && !(pair && gs.val % 2 = 1)

/-- VPSD (R265). -/
def execVpsd (k : CoreId) (p : Guard) (vd va vb : VReg) (gs : GReg) (ew : EW) (s : State) : Res :=
  .next (s.issueVector k.val (geoLegal ew gs true) p fun s =>
    let w := ewBits ew
    let a := s.pointG k.val gs w
    let b := s.pointG k.val (gs.val + 1) w
    .done (s.setV k.val vd (mapElems (s.v k.val vd) w (s.elems k.val ew) fun i =>
      vpsdElem w (pointOf w (elemOf (s.v k.val va) w i)) a b (elemOf (s.v k.val vb) w i))))

/-- VPACC (R266). -/
def execVpacc (k : CoreId) (p : Guard) (vd va vb : VReg) (gs : GReg) (ew : EW) (s : State) : Res :=
  .next (s.issueVector k.val (geoLegal ew gs false) p fun s =>
    let w := ewBits ew
    let n := s.elems k.val ew
    let x := s.v k.val va
    let q0 := s.pointG k.val gs w
    let t := s.setV k.val vd (mapElems (s.v k.val vd) w n fun i =>
      vpaccElem w (pointOf w (elemOf x w i)) (if i = 0 then q0 else pointOf w (elemOf x w (i - 1)))
        (elemOf (s.v k.val vb) w i))
    .done (if n = 0 then t else t.setGLong k.val gs (BitVec.ofNat 64 (elemOf x w (n - 1)))))

/-- VSWIN (R267). -/
def execVswin (k : CoreId) (p : Guard) (vd va vb : VReg) (gs : GReg) (ew : EW) (s : State) : Res :=
  .next (s.issueVector k.val (geoLegal ew gs true) p fun s =>
    let w := ewBits ew
    let lo := s.pointG k.val gs w
    let hi := s.pointG k.val (gs.val + 1) w
    .done (s.setV k.val vd (mapElems (s.v k.val vd) w (s.elems k.val ew) fun i =>
      vswinElem w (pointOf w (elemOf (s.v k.val va) w i)) lo hi (elemOf (s.v k.val vb) w i))))

/-- VADD (R259). -/
def execVadd (k : CoreId) (p : Guard) (vd va : VReg) (b : VSrc) (ew : EW) (s : State) : Res :=
  .next (s.issueVV k p .add vd va b ew)

/-- VSUB (R259). -/
def execVsub (k : CoreId) (p : Guard) (vd va : VReg) (b : VSrc) (ew : EW) (s : State) : Res :=
  .next (s.issueVV k p .sub vd va b ew)

/-- VMUL (R259). -/
def execVmul (k : CoreId) (p : Guard) (vd va : VReg) (b : VSrc) (ew : EW) (s : State) : Res :=
  .next (s.issueVV k p .mul vd va b ew)

/-- VMULH (R259). -/
def execVmulh (k : CoreId) (p : Guard) (vd va : VReg) (b : VSrc) (ew : EW) (s : State) : Res :=
  .next (s.issueVV k p .mulh vd va b ew)

/-- VAND (R259). -/
def execVand (k : CoreId) (p : Guard) (vd va : VReg) (b : VSrc) (ew : EW) (s : State) : Res :=
  .next (s.issueVV k p .and vd va b ew)

/-- VOR (R259). -/
def execVor (k : CoreId) (p : Guard) (vd va : VReg) (b : VSrc) (ew : EW) (s : State) : Res :=
  .next (s.issueVV k p .or vd va b ew)

/-- VXOR (R259). -/
def execVxor (k : CoreId) (p : Guard) (vd va : VReg) (b : VSrc) (ew : EW) (s : State) : Res :=
  .next (s.issueVV k p .xor vd va b ew)

/-- VMIN (R259). -/
def execVmin (k : CoreId) (p : Guard) (vd va : VReg) (b : VSrc) (ew : EW) (s : State) : Res :=
  .next (s.issueVV k p .min vd va b ew)

/-- VMAX (R259). -/
def execVmax (k : CoreId) (p : Guard) (vd va : VReg) (b : VSrc) (ew : EW) (s : State) : Res :=
  .next (s.issueVV k p .max vd va b ew)

/-- VMINU (R259). -/
def execVminu (k : CoreId) (p : Guard) (vd va : VReg) (b : VSrc) (ew : EW) (s : State) : Res :=
  .next (s.issueVV k p .minu vd va b ew)

/-- VMAXU (R259). -/
def execVmaxu (k : CoreId) (p : Guard) (vd va : VReg) (b : VSrc) (ew : EW) (s : State) : Res :=
  .next (s.issueVV k p .maxu vd va b ew)

/-- VSLL (R259). -/
def execVsll (k : CoreId) (p : Guard) (vd va : VReg) (b : VSrc) (ew : EW) (s : State) : Res :=
  .next (s.issueVV k p .sll vd va b ew)

/-- VSRL (R259). -/
def execVsrl (k : CoreId) (p : Guard) (vd va : VReg) (b : VSrc) (ew : EW) (s : State) : Res :=
  .next (s.issueVV k p .srl vd va b ew)

/-- VSRA (R259). -/
def execVsra (k : CoreId) (p : Guard) (vd va : VReg) (b : VSrc) (ew : EW) (s : State) : Res :=
  .next (s.issueVV k p .sra vd va b ew)

/-- VSADD (R259). -/
def execVsadd (k : CoreId) (p : Guard) (vd va : VReg) (b : VSrc) (ew : EW) (s : State) : Res :=
  .next (s.issueVV k p .sadd vd va b ew)

/-- VSSUB (R259). -/
def execVssub (k : CoreId) (p : Guard) (vd va : VReg) (b : VSrc) (ew : EW) (s : State) : Res :=
  .next (s.issueVV k p .ssub vd va b ew)

/-- VABSD (R259). -/
def execVabsd (k : CoreId) (p : Guard) (vd va : VReg) (b : VSrc) (ew : EW) (s : State) : Res :=
  .next (s.issueVV k p .absd vd va b ew)

end Sys2Proof.Machine
end

