-- ==== Sys2Proof/Machine/Dispatch.lean ====
section
/-! DEFINITION. What each command does: one arm per constructor of `Instr`, one call of its meaning. -/

namespace Sys2Proof.Machine

def exec (i : Instr) (s : State) : Host.Outcome State Fault Refusal :=
  match i with
  | .registerWrite m addr v => Sys2Proof.Machine.execRegisterWrite m addr v s
  | .tickBoundary tai => Sys2Proof.Machine.execTickBoundary tai s
  | .tuPendArm m v => Sys2Proof.Machine.execTuPendArm m v s
  | .tuRefofsWrite m v => Sys2Proof.Machine.execTuRefofsWrite m v s
  | .tickinEdge early dist => Sys2Proof.Machine.execTickinEdge early dist s
  | .referenceLost => Sys2Proof.Machine.execReferenceLost s
  | .tickMarkWrite => Sys2Proof.Machine.execTickMarkWrite s
  | .cycleMeterExhaust isClass i1 => Sys2Proof.Machine.execCycleMeterExhaust isClass i1 s
  | .taskDeschedule isClass i1 => Sys2Proof.Machine.execTaskDeschedule isClass i1 s
  | .laneFrameReceive p f => Sys2Proof.Machine.execLaneFrameReceive p f s
  | .ptpEventMessage p sent mtype seq offset => Sys2Proof.Machine.execPtpEventMessage p sent mtype seq offset s
  | .linkFrameReceive p => Sys2Proof.Machine.execLinkFrameReceive p s
  | .requestFrame => Sys2Proof.Machine.execRequestFrame s
  | .sessionOpen => Sys2Proof.Machine.execSessionOpen s
  | .sessionClose => Sys2Proof.Machine.execSessionClose s
  | .linkAckTimer peer => Sys2Proof.Machine.execLinkAckTimer peer s
  | .linkRetransmit peer lseq => Sys2Proof.Machine.execLinkRetransmit peer lseq s
  | .linkGiveUp peer lseq => Sys2Proof.Machine.execLinkGiveUp peer lseq s
  | .heldFrameTransmit peer => Sys2Proof.Machine.execHeldFrameTransmit peer s
  | .taskQueueDispatch cls => Sys2Proof.Machine.execTaskQueueDispatch cls s
  | .deadlineDiscard session d => Sys2Proof.Machine.execDeadlineDiscard session d s
  | .abandonTimeout session => Sys2Proof.Machine.execAbandonTimeout session s
  | .hamperRebuild m => Sys2Proof.Machine.execHamperRebuild m s
  | .rebuildComplete us => Sys2Proof.Machine.execRebuildComplete us s
  | .setlim buf => Sys2Proof.Machine.execSetlim buf s
  | .recycle buf => Sys2Proof.Machine.execRecycle buf s
  | .handoverTake => Sys2Proof.Machine.execHandoverTake s
  | .deviceRecordSubmit r => Sys2Proof.Machine.execDeviceRecordSubmit r s
  | .writeVerifyDone ok => Sys2Proof.Machine.execWriteVerifyDone ok s
  | .archiveSegmentIssue atBoundary => Sys2Proof.Machine.execArchiveSegmentIssue atBoundary s
  | .segmentComplete first ok => Sys2Proof.Machine.execSegmentComplete first ok s
  | .segmentTimeout first => Sys2Proof.Machine.execSegmentTimeout first s
  | .archiveRetryTimer => Sys2Proof.Machine.execArchiveRetryTimer s
  | .archiveMarkWrite => Sys2Proof.Machine.execArchiveMarkWrite s
  | .driveBind d => Sys2Proof.Machine.execDriveBind d s
  | .archiveLinkUp => Sys2Proof.Machine.execArchiveLinkUp s
  | .archiveLinkDown => Sys2Proof.Machine.execArchiveLinkDown s
  | .bindLinkTimeout => Sys2Proof.Machine.execBindLinkTimeout s
  | .ledgerRecovery m => Sys2Proof.Machine.execLedgerRecovery m s
  | .powerFailWarning rail => Sys2Proof.Machine.execPowerFailWarning rail s
  | .powerFailBorTimer => Sys2Proof.Machine.execPowerFailBorTimer s
  | .watchLookupTake => Sys2Proof.Machine.execWatchLookupTake s
  | .watchLookupComplete => Sys2Proof.Machine.execWatchLookupComplete s
  | .watchBucketRepair bucket => Sys2Proof.Machine.execWatchBucketRepair bucket s
  | .watchListWrite i1 tag list => Sys2Proof.Machine.execWatchListWrite i1 tag list s
  | .wtPendArm m => Sys2Proof.Machine.execWtPendArm m s
  | .watchRestoreRequest m => Sys2Proof.Machine.execWatchRestoreRequest m s
  | .edVerify e => Sys2Proof.Machine.execEdVerify e s
  | .edSign e => Sys2Proof.Machine.execEdSign e s
  | .mldsaVerify e => Sys2Proof.Machine.execMldsaVerify e s
  | .mldsaSign e => Sys2Proof.Machine.execMldsaSign e s
  | .verify2 e => Sys2Proof.Machine.execVerify2 e s
  | .sha512 e => Sys2Proof.Machine.execSha512 e s
  | .sha3 e => Sys2Proof.Machine.execSha3 e s
  | .shake256 e => Sys2Proof.Machine.execShake256 e s
  | .hmacSha512 e => Sys2Proof.Machine.execHmacSha512 e s
  | .gcmEnc e => Sys2Proof.Machine.execGcmEnc e s
  | .gcmDec e => Sys2Proof.Machine.execGcmDec e s
  | .kemEncaps e => Sys2Proof.Machine.execKemEncaps e s
  | .kemDecaps e => Sys2Proof.Machine.execKemDecaps e s
  | .keygen e => Sys2Proof.Machine.execKeygen e s
  | .keyimport e => Sys2Proof.Machine.execKeyimport e s
  | .keydestroy e => Sys2Proof.Machine.execKeydestroy e s
  | .pubexport e => Sys2Proof.Machine.execPubexport e s
  | .sealJobComplete e => Sys2Proof.Machine.execSealJobComplete e s
  | .sealEngineFault e selfCheck => Sys2Proof.Machine.execSealEngineFault e selfCheck s
  | .entropyFail => Sys2Proof.Machine.execEntropyFail s
  | .entropyRecover => Sys2Proof.Machine.execEntropyRecover s
  | .seFaultClear m e => Sys2Proof.Machine.execSeFaultClear m e s
  | .registryFillComplete k index ecc => Sys2Proof.Machine.execRegistryFillComplete k index ecc s
  | .alloc m b => Sys2Proof.Machine.execAlloc m b s
  | .revoke m b index => Sys2Proof.Machine.execRevoke m b index s
  | .free m b index => Sys2Proof.Machine.execFree m b index s
  | .modify m b index mask => Sys2Proof.Machine.execModify m b index mask s
  | .registryRead m b index => Sys2Proof.Machine.execRegistryRead m b index s
  | .walkerEpoch => Sys2Proof.Machine.execWalkerEpoch s
  | .walkerQuiet => Sys2Proof.Machine.execWalkerQuiet s
  | .sweepStart m => Sys2Proof.Machine.execSweepStart m s
  | .sweepComplete ms => Sys2Proof.Machine.execSweepComplete ms s
  | .registryPatrol index => Sys2Proof.Machine.execRegistryPatrol index s
  | .registryInit m => Sys2Proof.Machine.execRegistryInit m s
  | .add k p gd ga gb => Sys2Proof.Machine.execAdd k p gd ga gb s
  | .sub k p gd ga gb => Sys2Proof.Machine.execSub k p gd ga gb s
  | .addw k p gd ga gb => Sys2Proof.Machine.execAddw k p gd ga gb s
  | .subw k p gd ga gb => Sys2Proof.Machine.execSubw k p gd ga gb s
  | .and k p gd ga gb => Sys2Proof.Machine.execAnd k p gd ga gb s
  | .or k p gd ga gb => Sys2Proof.Machine.execOr k p gd ga gb s
  | .xor k p gd ga gb => Sys2Proof.Machine.execXor k p gd ga gb s
  | .andn k p gd ga gb => Sys2Proof.Machine.execAndn k p gd ga gb s
  | .sll k p gd ga gb => Sys2Proof.Machine.execSll k p gd ga gb s
  | .srl k p gd ga gb => Sys2Proof.Machine.execSrl k p gd ga gb s
  | .sra k p gd ga gb => Sys2Proof.Machine.execSra k p gd ga gb s
  | .ror k p gd ga gb => Sys2Proof.Machine.execRor k p gd ga gb s
  | .min k p gd ga gb => Sys2Proof.Machine.execMin k p gd ga gb s
  | .max k p gd ga gb => Sys2Proof.Machine.execMax k p gd ga gb s
  | .minu k p gd ga gb => Sys2Proof.Machine.execMinu k p gd ga gb s
  | .maxu k p gd ga gb => Sys2Proof.Machine.execMaxu k p gd ga gb s
  | .addi k p gd ga imm => Sys2Proof.Machine.execAddi k p gd ga imm s
  | .andi k p gd ga imm => Sys2Proof.Machine.execAndi k p gd ga imm s
  | .ori k p gd ga imm => Sys2Proof.Machine.execOri k p gd ga imm s
  | .xori k p gd ga imm => Sys2Proof.Machine.execXori k p gd ga imm s
  | .slli k p gd ga sh => Sys2Proof.Machine.execSlli k p gd ga sh s
  | .srli k p gd ga sh => Sys2Proof.Machine.execSrli k p gd ga sh s
  | .srai k p gd ga sh => Sys2Proof.Machine.execSrai k p gd ga sh s
  | .rori k p gd ga sh => Sys2Proof.Machine.execRori k p gd ga sh s
  | .movh k p gd imm => Sys2Proof.Machine.execMovh k p gd imm s
  | .mul k p gd ga gb => Sys2Proof.Machine.execMul k p gd ga gb s
  | .mulh k p gd ga gb => Sys2Proof.Machine.execMulh k p gd ga gb s
  | .mulhu k p gd ga gb => Sys2Proof.Machine.execMulhu k p gd ga gb s
  | .div k p gd ga gb => Sys2Proof.Machine.execDiv k p gd ga gb s
  | .divu k p gd ga gb => Sys2Proof.Machine.execDivu k p gd ga gb s
  | .rem k p gd ga gb => Sys2Proof.Machine.execRem k p gd ga gb s
  | .remu k p gd ga gb => Sys2Proof.Machine.execRemu k p gd ga gb s
  | .sextb k p gd ga => Sys2Proof.Machine.execSextb k p gd ga s
  | .sexth k p gd ga => Sys2Proof.Machine.execSexth k p gd ga s
  | .sextw k p gd ga => Sys2Proof.Machine.execSextw k p gd ga s
  | .zextb k p gd ga => Sys2Proof.Machine.execZextb k p gd ga s
  | .zexth k p gd ga => Sys2Proof.Machine.execZexth k p gd ga s
  | .zextw k p gd ga => Sys2Proof.Machine.execZextw k p gd ga s
  | .clz k p gd ga => Sys2Proof.Machine.execClz k p gd ga s
  | .ctz k p gd ga => Sys2Proof.Machine.execCtz k p gd ga s
  | .popc k p gd ga => Sys2Proof.Machine.execPopc k p gd ga s
  | .bswap k p gd ga => Sys2Proof.Machine.execBswap k p gd ga s
  | .cmp k p c pt pf ga gb => Sys2Proof.Machine.execCmp k p c pt pf ga gb s
  | .cmpi k p c pt pf ga imm => Sys2Proof.Machine.execCmpi k p c pt pf ga imm s
  | .pand k p pd pa pb => Sys2Proof.Machine.execPand k p pd pa pb s
  | .por k p pd pa pb => Sys2Proof.Machine.execPor k p pd pa pb s
  | .pxor k p pd pa pb => Sys2Proof.Machine.execPxor k p pd pa pb s
  | .pandn k p pd pa pb => Sys2Proof.Machine.execPandn k p pd pa pb s
  | .pnot k p pd pa => Sys2Proof.Machine.execPnot k p pd pa s
  | .pmov k p pd pa => Sys2Proof.Machine.execPmov k p pd pa s
  | .pclr k p pd => Sys2Proof.Machine.execPclr k p pd s
  | .pbundle k p g dir => Sys2Proof.Machine.execPbundle k p g dir s
  | .ld k p gd cs sz imm => Sys2Proof.Machine.execLd k p gd cs sz imm s
  | .ldu k p gd cs sz imm => Sys2Proof.Machine.execLdu k p gd cs sz imm s
  | .st k p gs cs sz imm => Sys2Proof.Machine.execSt k p gs cs sz imm s
  | .ldx k p g cs gi sz scale u store => Sys2Proof.Machine.execLdx k p g cs gi sz scale u store s
  | .cld k p cd cs imm => Sys2Proof.Machine.execCld k p cd cs imm s
  | .cst k p cv cs imm => Sys2Proof.Machine.execCst k p cv cs imm s
  | .loadComplete k => Sys2Proof.Machine.execLoadComplete k s
  | .storeDrain k ecc => Sys2Proof.Machine.execStoreDrain k ecc s
  | .longOpComplete k => Sys2Proof.Machine.execLongOpComplete k s
  | .arithTrapTake k => Sys2Proof.Machine.execArithTrapTake k s
  | .cincoffi k p cd cs imm => Sys2Proof.Machine.execCincoffi k p cd cs imm s
  | .cmov k p cd cs => Sys2Proof.Machine.execCmov k p cd cs s
  | .cincoff k p cd cs g => Sys2Proof.Machine.execCincoff k p cd cs g s
  | .csetoff k p cd cs g => Sys2Proof.Machine.execCsetoff k p cd cs g s
  | .candrights k p cd cs g => Sys2Proof.Machine.execCandrights k p cd cs g s
  | .cclrtag k p cd cs => Sys2Proof.Machine.execCclrtag k p cd cs s
  | .csetlo k p cd cs g => Sys2Proof.Machine.execCsetlo k p cd cs g s
  | .csethi k p cd cs g => Sys2Proof.Machine.execCsethi k p cd cs g s
  | .cgetlo k p g cs => Sys2Proof.Machine.execCgetlo k p g cs s
  | .cgethi k p g cs => Sys2Proof.Machine.execCgethi k p g cs s
  | .cgettag k p g cs => Sys2Proof.Machine.execCgettag k p g cs s
  | .cgetoff k p g cs => Sys2Proof.Machine.execCgetoff k p g cs s
  | .cgetlen k p g cs => Sys2Proof.Machine.execCgetlen k p g cs s
  | .cgetrights k p g cs => Sys2Proof.Machine.execCgetrights k p g cs s
  | .sealCap k p cd cs ca => Sys2Proof.Machine.execSealCap k p cd cs ca s
  | .unsealCap k p cd cs ca => Sys2Proof.Machine.execUnsealCap k p cd cs ca s
  | .cmint k p cd cs => Sys2Proof.Machine.execCmint k p cd cs s
  | .deriveCap k p cd cs ga gr => Sys2Proof.Machine.execDeriveCap k p cd cs ga gr s
  | .release k p cs => Sys2Proof.Machine.execRelease k p cs s
  | .enq k p cq cm gd => Sys2Proof.Machine.execEnq k p cq cm gd s
  | .deq k p cq cm gd => Sys2Proof.Machine.execDeq k p cq cm gd s
  | .br k p imm => Sys2Proof.Machine.execBr k p imm s
  | .call k p imm => Sys2Proof.Machine.execCall k p imm s
  | .cjmp k p cs link => Sys2Proof.Machine.execCjmp k p cs link s
  | .ret k p => Sys2Proof.Machine.execRet k p s
  | .invoke k p cc cd => Sys2Proof.Machine.execInvoke k p cc cd s
  | .loop k p imm => Sys2Proof.Machine.execLoop k p imm s
  | .setlc k p ga => Sys2Proof.Machine.execSetlc k p ga s
  | .setlci k p imm => Sys2Proof.Machine.execSetlci k p imm s
  | .getlc k p gd => Sys2Proof.Machine.execGetlc k p gd s
  | .repu k w => Sys2Proof.Machine.execRepu k w s
  | .repi k w due => Sys2Proof.Machine.execRepi k w due s
  | .movb k p sz due => Sys2Proof.Machine.execMovb k p sz due s
  | .cmpb k p sz due => Sys2Proof.Machine.execCmpb k p sz due s
  | .fillb k p sz due => Sys2Proof.Machine.execFillb k p sz due s
  | .scanb k p sz due => Sys2Proof.Machine.execScanb k p sz due s
  | .scall k p n => Sys2Proof.Machine.execScall k p n s
  | .sret k p => Sys2Proof.Machine.execSret k p s
  | .eret k p => Sys2Proof.Machine.execEret k p s
  | .nib k p budget => Sys2Proof.Machine.execNib k p budget s
  | .nibExpire k => Sys2Proof.Machine.execNibExpire k s
  | .wait k p => Sys2Proof.Machine.execWait k p s
  | .breakpoint k p code => Sys2Proof.Machine.execBreakpoint k p code s
  | .mfc k p gd n => Sys2Proof.Machine.execMfc k p gd n s
  | .mtc k p gs n => Sys2Proof.Machine.execMtc k p gs n s
  | .csync k p => Sys2Proof.Machine.execCsync k p s
  | .fence k p => Sys2Proof.Machine.execFence k p s
  | .cmfc k p cd => Sys2Proof.Machine.execCmfc k p cd s
  | .cmtc k p cs => Sys2Proof.Machine.execCmtc k p cs s
  | .setvl k p gd ga ew => Sys2Proof.Machine.execSetvl k p gd ga ew s
  | .vld k p v cs ew imm => Sys2Proof.Machine.execVld k p v cs ew imm s
  | .vst k p v cs ew imm => Sys2Proof.Machine.execVst k p v cs ew imm s
  | .vadd k p vd va b ew => Sys2Proof.Machine.execVadd k p vd va b ew s
  | .vsub k p vd va b ew => Sys2Proof.Machine.execVsub k p vd va b ew s
  | .vmul k p vd va b ew => Sys2Proof.Machine.execVmul k p vd va b ew s
  | .vmulh k p vd va b ew => Sys2Proof.Machine.execVmulh k p vd va b ew s
  | .vand k p vd va b ew => Sys2Proof.Machine.execVand k p vd va b ew s
  | .vor k p vd va b ew => Sys2Proof.Machine.execVor k p vd va b ew s
  | .vxor k p vd va b ew => Sys2Proof.Machine.execVxor k p vd va b ew s
  | .vmin k p vd va b ew => Sys2Proof.Machine.execVmin k p vd va b ew s
  | .vmax k p vd va b ew => Sys2Proof.Machine.execVmax k p vd va b ew s
  | .vminu k p vd va b ew => Sys2Proof.Machine.execVminu k p vd va b ew s
  | .vmaxu k p vd va b ew => Sys2Proof.Machine.execVmaxu k p vd va b ew s
  | .vsll k p vd va b ew => Sys2Proof.Machine.execVsll k p vd va b ew s
  | .vsrl k p vd va b ew => Sys2Proof.Machine.execVsrl k p vd va b ew s
  | .vsra k p vd va b ew => Sys2Proof.Machine.execVsra k p vd va b ew s
  | .vsadd k p vd va b ew => Sys2Proof.Machine.execVsadd k p vd va b ew s
  | .vssub k p vd va b ew => Sys2Proof.Machine.execVssub k p vd va b ew s
  | .vabsd k p vd va b ew => Sys2Proof.Machine.execVabsd k p vd va b ew s
  | .vbcast k p v g ew => Sys2Proof.Machine.execVbcast k p v g ew s
  | .vexti k p v g ew idx => Sys2Proof.Machine.execVexti k p v g ew idx s
  | .vinsi k p v g ew idx => Sys2Proof.Machine.execVinsi k p v g ew idx s
  | .vredsum k p v g ew => Sys2Proof.Machine.execVredsum k p v g ew s
  | .vredmin k p v g ew => Sys2Proof.Machine.execVredmin k p v g ew s
  | .vredmax k p v g ew => Sys2Proof.Machine.execVredmax k p v g ew s
  | .vredminu k p v g ew => Sys2Proof.Machine.execVredminu k p v g ew s
  | .vredmaxu k p v g ew => Sys2Proof.Machine.execVredmaxu k p v g ew s
  | .vpsd k p vd va vb gs ew => Sys2Proof.Machine.execVpsd k p vd va vb gs ew s
  | .vpacc k p vd va vb gs ew => Sys2Proof.Machine.execVpacc k p vd va vb gs ew s
  | .vswin k p vd va vb gs ew => Sys2Proof.Machine.execVswin k p vd va vb gs ew s
  | .vectorWakeComplete k => Sys2Proof.Machine.execVectorWakeComplete k s
  | .vectorIdleOff k => Sys2Proof.Machine.execVectorIdleOff k s
  | .vpwrOff k => Sys2Proof.Machine.execVpwrOff k s
  | .create m t v => Sys2Proof.Machine.execCreate m t v s
  | .stop m t => Sys2Proof.Machine.execStop m t s
  | .destroy m t => Sys2Proof.Machine.execDestroy m t s
  | .doorbell m t => Sys2Proof.Machine.execDoorbell m t s
  | .stewardRequest m k => Sys2Proof.Machine.execStewardRequest m k s
  | .taskSwitch k => Sys2Proof.Machine.execTaskSwitch k s
  | .interruptEntry k => Sys2Proof.Machine.execInterruptEntry k s
  | .fgHold m commit nrange => Sys2Proof.Machine.execFgHold m commit nrange s
  | .fgCommit m => Sys2Proof.Machine.execFgCommit m s
  | .fgAbort m => Sys2Proof.Machine.execFgAbort m s
  | .fgDrained => Sys2Proof.Machine.execFgDrained s
  | .fgEpoch => Sys2Proof.Machine.execFgEpoch s
  | .fgQuiet => Sys2Proof.Machine.execFgQuiet s
  | .dictRead i1 q => Sys2Proof.Machine.execDictRead i1 q s
  | .dictWrite i1 q => Sys2Proof.Machine.execDictWrite i1 q s
  | .domainIdleTimeout i1 => Sys2Proof.Machine.execDomainIdleTimeout i1 s
  | .storeParameters i1 tag sub v => Sys2Proof.Machine.execStoreParameters i1 tag sub v s
  | .restoreDefaults i1 tag sub v => Sys2Proof.Machine.execRestoreDefaults i1 tag sub v s
  | .changeRequest i1 tag req => Sys2Proof.Machine.execChangeRequest i1 tag req s
  | .changeArm index sub => Sys2Proof.Machine.execChangeArm index sub s
  | .fgApply i1 tag v => Sys2Proof.Machine.execFgApply i1 tag v s
  | .keyCmdKeygen i1 tag v => Sys2Proof.Machine.execKeyCmdKeygen i1 tag v s
  | .keyCmdKeyimport i1 tag v => Sys2Proof.Machine.execKeyCmdKeyimport i1 tag v s
  | .keyCmdKeydestroy i1 tag v => Sys2Proof.Machine.execKeyCmdKeydestroy i1 tag v s
  | .heartbeat => Sys2Proof.Machine.execHeartbeat s
  | .tpdoEvent c n => Sys2Proof.Machine.execTpdoEvent c n s
  | .nmtStop c => Sys2Proof.Machine.execNmtStop c s
  | .nmtResetCommunication c => Sys2Proof.Machine.execNmtResetCommunication c s
  | .nmtResetNode c => Sys2Proof.Machine.execNmtResetNode c s
  | .mailboxDeliver len q => Sys2Proof.Machine.execMailboxDeliver len q s
  | .mailboxCopy => Sys2Proof.Machine.execMailboxCopy s
  | .mailboxSend => Sys2Proof.Machine.execMailboxSend s
  | .mailboxDdbClear => Sys2Proof.Machine.execMailboxDdbClear s
  | .hostLinkDown flr => Sys2Proof.Machine.execHostLinkDown flr s
  | .hostInboundRequest write bar ofs len => Sys2Proof.Machine.execHostInboundRequest write bar ofs len s
  | .archiveInboundRequest write addr len => Sys2Proof.Machine.execArchiveInboundRequest write addr len s
  | .smartLogTimer warn => Sys2Proof.Machine.execSmartLogTimer warn s
  | .canFrameReceive c f => Sys2Proof.Machine.execCanFrameReceive c f s
  | .busOffRecovery c => Sys2Proof.Machine.execBusOffRecovery c s
  | .loopPoll n => Sys2Proof.Machine.execLoopPoll n s
  | .loopFrameReceive n f gap => Sys2Proof.Machine.execLoopFrameReceive n f gap s
  | .loopAnswerTimeout n => Sys2Proof.Machine.execLoopAnswerTimeout n s
  | .slTrig m n v => Sys2Proof.Machine.execSlTrig m n v s
  | .limiterTrip g => Sys2Proof.Machine.execLimiterTrip g s
  | .gpioEdge i1 level => Sys2Proof.Machine.execGpioEdge i1 level s
  | .gpSet m v => Sys2Proof.Machine.execGpSet m v s
  | .gpClr m v => Sys2Proof.Machine.execGpClr m v s
  | .portReset p unsent => Sys2Proof.Machine.execPortReset p unsent s
  | .boot => Sys2Proof.Machine.execBoot s
  | .bankUpdate i1 tag content => Sys2Proof.Machine.execBankUpdate i1 tag content s
  | .bankActivate => Sys2Proof.Machine.execBankActivate s
  | .bankSwitchSdr => Sys2Proof.Machine.execBankSwitchSdr s
  | .bootConfirm m => Sys2Proof.Machine.execBootConfirm m s
  | .trialTimeout => Sys2Proof.Machine.execTrialTimeout s
  | .roleChallenge i1 tag => Sys2Proof.Machine.execRoleChallenge i1 tag s
  | .roleResponse i1 tag resp old => Sys2Proof.Machine.execRoleResponse i1 tag resp old s
  | .roleEnd i1 tag => Sys2Proof.Machine.execRoleEnd i1 tag s
  | .roleSessionTimeout i1 => Sys2Proof.Machine.execRoleSessionTimeout i1 s
  | .attestNonce i1 tag nonce => Sys2Proof.Machine.execAttestNonce i1 tag nonce s
  | .attestQuote i1 tag => Sys2Proof.Machine.execAttestQuote i1 tag s
  | .lifecycleTransition i1 tag req vbatOk => Sys2Proof.Machine.execLifecycleTransition i1 tag req vbatOk s
  | .evidenceKeyRotation => Sys2Proof.Machine.execEvidenceKeyRotation s
  | .retirementRinse => Sys2Proof.Machine.execRetirementRinse s
  | .debugUnlock i1 tag token => Sys2Proof.Machine.execDebugUnlock i1 tag token s
  | .debugUnlockEnd => Sys2Proof.Machine.execDebugUnlockEnd s
  | .tamperDetect source mainPower => Sys2Proof.Machine.execTamperDetect source mainPower s
  | .rinseStart m => Sys2Proof.Machine.execRinseStart m s
  | .rinseComplete => Sys2Proof.Machine.execRinseComplete s
  | .bor rails => Sys2Proof.Machine.execBor rails s
  | .tzr => Sys2Proof.Machine.execTzr s
  | .wdr => Sys2Proof.Machine.execWdr s
  | .sdr m key => Sys2Proof.Machine.execSdr m key s
  | .tlr m tiles => Sys2Proof.Machine.execTlr m tiles s
  | .crr m v => Sys2Proof.Machine.execCrr m v s
  | .lockstepMismatch => Sys2Proof.Machine.execLockstepMismatch s
  | .watchdogKick m key => Sys2Proof.Machine.execWatchdogKick m key s
  | .watchdogExpire => Sys2Proof.Machine.execWatchdogExpire s
  | .standbyRequest m => Sys2Proof.Machine.execStandbyRequest m s
  | .standbyWake => Sys2Proof.Machine.execStandbyWake s
  | .wakeTimerExpire => Sys2Proof.Machine.execWakeTimerExpire s
  | .tileDoze t => Sys2Proof.Machine.execTileDoze t s
  | .tileSleep t => Sys2Proof.Machine.execTileSleep t s
  | .tileWake t => Sys2Proof.Machine.execTileWake t s
  | .dramUncorrectableError h => Sys2Proof.Machine.execDramUncorrectableError h s
  | .dramPatrol h => Sys2Proof.Machine.execDramPatrol h s
  | .ledgerPatrol h slot => Sys2Proof.Machine.execLedgerPatrol h slot s
  | .fwPatrol h => Sys2Proof.Machine.execFwPatrol h s
  | .bistStart m target => Sys2Proof.Machine.execBistStart m target s
  | .bistComplete fails => Sys2Proof.Machine.execBistComplete fails s
  | .linkPatternStart m l v => Sys2Proof.Machine.execLinkPatternStart m l v s
  | .patternInject m l => Sys2Proof.Machine.execPatternInject m l s
  | .bypass => Sys2Proof.Machine.execBypass s
  | .idcode => Sys2Proof.Machine.execIdcode s
  | .samplePreload pins => Sys2Proof.Machine.execSamplePreload pins s
  | .extest drive => Sys2Proof.Machine.execExtest drive s
  | .clamp => Sys2Proof.Machine.execClamp s
  | .highz => Sys2Proof.Machine.execHighz s
  | .dbgacc write addr v => Sys2Proof.Machine.execDbgacc write addr v s
  | .jtagTapReset => Sys2Proof.Machine.execJtagTapReset s
  | .tsHaltCore m k => Sys2Proof.Machine.execTsHaltCore m k s
  | .tsStep m k => Sys2Proof.Machine.execTsStep m k s
  | .tsResume m k => Sys2Proof.Machine.execTsResume m k s
  | .powerOnReset => Sys2Proof.Machine.execPowerOnReset s
  | .lanePortFault p linkLost unsent => Sys2Proof.Machine.execLanePortFault p linkLost unsent s
  | .hostLinkUp gen width => Sys2Proof.Machine.execHostLinkUp gen width s
  | .checkerSyncChange l sync bits errs => Sys2Proof.Machine.execCheckerSyncChange l sync bits errs s
  | .vexSupplyChange present => Sys2Proof.Machine.execVexSupplyChange present s
  | .standbyEntryTimeout drainWait => Sys2Proof.Machine.execStandbyEntryTimeout drainWait s
  | .tickoutPulseEnd => Sys2Proof.Machine.execTickoutPulseEnd s

end Sys2Proof.Machine
end

