-- ==== Sys2Proof/Machine/Words.lean ====
section
/-! DEFINITION. A core and the word it fetches (R207, R210, R211): the instruction that the word spells, or Illegal
Instruction. A command of the table carries an instruction's fields; this is the word that stands for it. -/

namespace Sys2Proof.Machine

/-- A word outside the tables of R211 to R218 raises Illegal Instruction, precisely and before any other effect, where
its fetch passes (R210). -/
def State.issueUndefined (s : State) (k : CoreId) : State :=
  s.issue k.val false (fun _ => false) ⟨0, false⟩ .done

/-- Core `k` executes the word `w`, with `next` behind it (R207, R209, R210). -/
def execWord (k : CoreId) (w next : BitVec 32) (due : Option Nat) (s : State) : Host.Outcome State Fault Refusal :=
  match decodeWord k w next due with
  | some i => exec i s
  | none => .next (s.issueUndefined k)

end Sys2Proof.Machine
end

