-- ==== Sys2Proof/Safety.lean ====
section
/-! DEFINITION. What a claim means by a step that completes. -/

namespace Sys2Proof

/-- A command completes: it answers a next state. -/
def Completes (c : Instr) (s : Machine.State) : Prop := ∃ t, Machine.exec c s = .next t

end Sys2Proof
end

