-- ==== Sys2Proof/WellFormed.lean ====
section
/-! DEFINITION. Well-formed commands: operands within the ranges the spec gives them. -/

namespace Sys2Proof

/-- A physical address, 40 bits (R14). -/
def isAddr (a : Nat) : Bool := decide (a < 2 ^ 40)

/-- A 64-bit number. -/
def isWord (n : Nat) : Bool := decide (n < 2 ^ 64)

/-- A cycle meter: one of 64 classes or of 8,192 hardware tasks (R44). -/
def isMeter (isClass : Bool) (i : Nat) : Bool := decide (i < if isClass then 64 else 8192)

/-- A task set of a Jalver core or of the Steward, 64 to a core (R293). -/
def isTask (t : Nat) : Bool := decide (t < 64 * 129)

/-- A peer of the peer table (R353). -/
def isPeer (p : Nat) : Bool := decide (p < 1024)

/-- A session number, 16 bits (R60). -/
def isSession (n : Nat) : Bool := decide (n < 65536)

/-- A request buffer: 4 KiB of the 512 MiB of R65. -/
def isBuffer (b : Nat) : Bool := decide (b < 131072)

/-- A slot of the ring, or a bucket of the Watch Table: 1,048,576 of each (R91, R133). -/
def isSlot (n : Nat) : Bool := decide (n < 1048576)

/-- A server instance; a PLP one names a peer (R341). -/
def isInst : Inst → Bool
  | .plp p => isPeer p
  | _ => true

/-- The content of a domain entry: its LENGTH is 32 bits (R344). -/
def isDomain (b : Bytes) : Bool := decide (b.length < 2 ^ 32)

/-- A management message: 32-bit OFFSET and LENGTH (R344). -/
def isMgmt (q : Mgmt) : Bool := decide (q.ofs < 2 ^ 32) && decide (q.len < 2 ^ 32) && isDomain q.data

/-- A frame's payload is PAYLEN bytes, a 16-bit number (R60). -/
def isFrame (f : Frame) : Bool := decide (f.payload.length < 65536)

/-- A received Ethernet frame. -/
def isEth (f : EthFrame) : Bool :=
  match f.content with
  | .udp _ _ _ _ _ _ len g => decide (len < 65536) && isFrame g
  | _ => true

/-- A device record fits its slot (R100, R106). -/
def isRecord : DevRec → Bool
  | .config _ _ _ e _ _ _ v => isWord e && decide (v.length ≤ 128)
  | .watchDelta _ _ t _ _ => isWord t
  | .lifecycle _ _ _ _ _ => true

/-- What the Archive Port finds: a namespace size and a label area of 32,768 bytes (R120, R121). -/
def isDrive : Option Drive → Bool
  | none => true
  | some d => isWord d.nsze && decide (d.label.length ≤ 32768)

/-- An expedited SDO write carries 1 to 4 bytes, a segmented one fewer than 2^32 (R357). -/
def isCanFrame : CanFrame → Bool
  | .sdoWrite _ _ b => isDomain b
  | _ => true

/-- What an uncorrectable DRAM error hits. -/
def isHit : DramHit → Bool
  | .buffer b => isBuffer b
  | .watch b _ => isSlot b
  | .registry i => decide (i < 2 ^ 22)
  | .tagWord w => isAddr w
  | .data a => isAddr a
  | .sessionState | .replyLog => true

/-- What a patrol meets. -/
def isPatrol : PatrolHit → Bool
  | .uncorrectable a => isAddr a
  | _ => true

/-- A well-formed command. -/
def Instr.wellFormed : Instr → Bool
  | .registerWrite _ a _ => isAddr a
  | .tickinEdge _ d => decide (d < 2 ^ 31)
  | .cycleMeterExhaust c i => isMeter c i
  | .taskDeschedule c i => isMeter c i
  | .laneFrameReceive _ f => isEth f
  | .linkAckTimer p => isPeer p
  | .linkRetransmit p _ => isPeer p
  | .linkGiveUp p _ => isPeer p
  | .heldFrameTransmit p => isPeer p
  | .deadlineDiscard n _ => isSession n
  | .abandonTimeout n => isSession n
  | .setlim b => isBuffer b
  | .recycle b => isBuffer b
  | .deviceRecordSubmit r => isRecord r
  | .segmentComplete n _ => isWord n
  | .segmentTimeout n => isWord n
  | .driveBind d => isDrive d
  | .watchBucketRepair b => isSlot b
  | .watchListWrite i _ l => isInst i && isDomain l
  | .create _ t _ => isTask t
  | .stop _ t => isTask t
  | .destroy _ t => isTask t
  | .doorbell _ t => isTask t
  | .dictRead i q => isInst i && isMgmt q
  | .dictWrite i q => isInst i && isMgmt q
  | .domainIdleTimeout i => isInst i
  | .storeParameters i _ _ _ => isInst i
  | .restoreDefaults i _ _ _ => isInst i
  | .changeRequest i _ r => isInst i && isDomain r
  | .fgApply i _ _ => isInst i
  | .keyCmdKeygen i _ _ => isInst i
  | .keyCmdKeyimport i _ _ => isInst i
  | .keyCmdKeydestroy i _ _ => isInst i
  | .mailboxDeliver _ q => isMgmt q
  | .hostInboundRequest _ _ o n => isWord o && isWord n
  | .archiveInboundRequest _ a n => isWord a && isWord n
  | .canFrameReceive _ f => isCanFrame f
  | .loopFrameReceive _ f _ => decide (f.length ≤ 255)
  | .bankUpdate i _ b => isInst i && isDomain b
  | .roleChallenge i _ => isInst i
  | .roleResponse i _ b _ => isInst i && isDomain b
  | .roleEnd i _ => isInst i
  | .roleSessionTimeout i => isInst i
  | .attestNonce i _ b => isInst i && isDomain b
  | .attestQuote i _ => isInst i
  | .lifecycleTransition i _ b _ => isInst i && isDomain b
  | .debugUnlock i _ b => isInst i && isDomain b
  | .dramUncorrectableError h => isHit h
  | .dramPatrol h => isPatrol h
  | .ledgerPatrol h n => isPatrol h && isSlot n
  | .fwPatrol h => isPatrol h
  | .dbgacc _ a _ => isAddr a
  | .tickBoundary .. | .tuPendArm .. | .tuRefofsWrite .. | .referenceLost | .tickMarkWrite
  | .ptpEventMessage .. | .linkFrameReceive .. | .requestFrame | .sessionOpen | .sessionClose
  | .taskQueueDispatch .. | .hamperRebuild .. | .rebuildComplete .. | .handoverTake | .writeVerifyDone ..
  | .archiveSegmentIssue .. | .archiveRetryTimer | .archiveMarkWrite | .archiveLinkUp | .archiveLinkDown
  | .bindLinkTimeout | .ledgerRecovery .. | .powerFailWarning .. | .powerFailBorTimer | .watchLookupTake
  | .watchLookupComplete | .wtPendArm .. | .watchRestoreRequest .. | .edVerify .. | .edSign ..
  | .mldsaVerify .. | .mldsaSign .. | .verify2 .. | .sha512 .. | .sha3 .. | .shake256 .. | .hmacSha512 ..
  | .gcmEnc .. | .gcmDec .. | .kemEncaps .. | .kemDecaps .. | .keygen .. | .keyimport .. | .keydestroy ..
  | .pubexport .. | .sealJobComplete .. | .sealEngineFault .. | .entropyFail | .entropyRecover
  | .seFaultClear .. | .registryFillComplete .. | .alloc .. | .revoke .. | .free .. | .modify ..
  | .registryRead .. | .walkerEpoch | .walkerQuiet | .sweepStart .. | .sweepComplete .. | .registryPatrol ..
  | .registryInit .. | .add .. | .sub .. | .addw .. | .subw .. | .and .. | .or .. | .xor .. | .andn ..
  | .sll .. | .srl .. | .sra .. | .ror .. | .min .. | .max .. | .minu .. | .maxu .. | .addi .. | .andi ..
  | .ori .. | .xori .. | .slli .. | .srli .. | .srai .. | .rori .. | .movh .. | .mul .. | .mulh .. | .mulhu ..
  | .div .. | .divu .. | .rem .. | .remu .. | .sextb .. | .sexth .. | .sextw .. | .zextb .. | .zexth ..
  | .zextw .. | .clz .. | .ctz .. | .popc .. | .bswap .. | .cmp .. | .cmpi .. | .pand .. | .por .. | .pxor ..
  | .pandn .. | .pnot .. | .pmov .. | .pclr .. | .pbundle .. | .ld .. | .ldu .. | .st .. | .ldx .. | .cld ..
  | .cst .. | .loadComplete .. | .storeDrain .. | .longOpComplete .. | .arithTrapTake .. | .cincoffi ..
  | .cmov .. | .cincoff .. | .csetoff .. | .candrights .. | .cclrtag .. | .csetlo .. | .csethi .. | .cgetlo ..
  | .cgethi .. | .cgettag .. | .cgetoff .. | .cgetlen .. | .cgetrights .. | .sealCap .. | .unsealCap ..
  | .cmint .. | .deriveCap .. | .release .. | .enq .. | .deq .. | .br .. | .call .. | .cjmp .. | .ret ..
  | .invoke .. | .loop .. | .setlc .. | .setlci .. | .getlc .. | .repu .. | .repi .. | .movb .. | .cmpb ..
  | .fillb .. | .scanb .. | .scall .. | .sret .. | .eret .. | .nib .. | .nibExpire .. | .wait ..
  | .breakpoint .. | .mfc .. | .mtc .. | .csync .. | .fence .. | .cmfc .. | .cmtc .. | .setvl .. | .vld ..
  | .vst .. | .vadd .. | .vsub .. | .vmul .. | .vmulh .. | .vand .. | .vor .. | .vxor .. | .vmin .. | .vmax ..
  | .vminu .. | .vmaxu .. | .vsll .. | .vsrl .. | .vsra .. | .vsadd .. | .vssub .. | .vabsd .. | .vbcast ..
  | .vexti .. | .vinsi .. | .vredsum .. | .vredmin .. | .vredmax .. | .vredminu .. | .vredmaxu .. | .vpsd ..
  | .vpacc .. | .vswin .. | .vectorWakeComplete .. | .vectorIdleOff .. | .vpwrOff .. | .stewardRequest ..
  | .taskSwitch .. | .interruptEntry .. | .fgHold .. | .fgCommit .. | .fgAbort .. | .fgDrained | .fgEpoch
  | .fgQuiet | .changeArm .. | .heartbeat | .tpdoEvent .. | .nmtStop .. | .nmtResetCommunication ..
  | .nmtResetNode .. | .mailboxCopy | .mailboxSend | .mailboxDdbClear | .hostLinkDown .. | .smartLogTimer ..
  | .busOffRecovery .. | .loopPoll .. | .loopAnswerTimeout .. | .slTrig .. | .limiterTrip .. | .gpioEdge ..
  | .gpSet .. | .gpClr .. | .portReset .. | .boot | .bankActivate | .bankSwitchSdr | .bootConfirm ..
  | .trialTimeout | .evidenceKeyRotation | .retirementRinse | .debugUnlockEnd | .tamperDetect ..
  | .rinseStart .. | .rinseComplete | .bor .. | .tzr | .wdr | .sdr .. | .tlr .. | .crr .. | .lockstepMismatch
  | .watchdogKick .. | .watchdogExpire | .standbyRequest .. | .standbyWake | .wakeTimerExpire | .tileDoze ..
  | .tileSleep .. | .tileWake .. | .bistStart .. | .bistComplete .. | .linkPatternStart .. | .patternInject ..
  | .bypass | .idcode | .samplePreload .. | .extest .. | .clamp | .highz | .jtagTapReset | .tsHaltCore ..
  | .tsStep .. | .tsResume .. | .powerOnReset | .lanePortFault .. | .hostLinkUp .. | .checkerSyncChange ..
  | .vexSupplyChange .. | .standbyEntryTimeout .. | .tickoutPulseEnd => true

end Sys2Proof
end

