-- ==== Sys2Proof/Certificates/Slice0/Obligations.lean ====
section
/-! DEFINITION. The statements: what the commands of the block do, as the spec's rules give it. -/

namespace Sys2Proof.Claims

open Sys2Proof.Machine

/-! ## Words the statements share -/

/-- A command completes with this next state. -/
def Does (i : Instr) (s t : State) : Prop := exec i s = .next t

/-- A master that presents accesses at all (R292, R318, R320) has its aligned 64-bit write of a register address admitted by
the Fabric Guard (R324, R325). -/
def Admits (s : State) (m : Master) (a : Nat) : Prop :=
  s.silent m = false ∧ s.verdict (s.masterAgent m) true a 8 = .allow

/-- The state once the Guard has counted that write (R333). -/
def counted (s : State) (m : Master) (a : Nat) : State := s.guardNote (s.masterAgent m) true false a 8

/-- Core `k` issues a word now: nothing holds it, no pending imprecise trap comes first, its fetch passes every
check and leaves `t`, and its guard is a guard and holds (R173, R207, R208, R226, R288). -/
def Issues (s t : State) (k : CoreId) (p : Guard) (point : Bool) : Prop :=
  s.issueHeld k.val = false ∧ (s.core k.val).trapFirst point = none ∧
    s.fetchAt k.val (s.here k.val) = .ok t () ∧ guardOk p = true ∧ (t.core k.val).guardOn p = true

/-- A word that has completed: pcc moves to the next word, RETIRED counts it (R222, R226). -/
def after (k : CoreId) (s : State) : State := (s.onCore k.val fun c => c.advance 1).retired k.val 1

/-- A transfer that has completed: RETIRED counts it. -/
def afterJump (k : CoreId) (s : State) : State := s.retired k.val 1

/-- A command completes by writing general register `gd` (R226, R227). -/
def Writes (i : Instr) (s t : State) (k : CoreId) (gd : GReg) (v : Word) : Prop :=
  Does i s (after k (t.setG k.val gd.val v))

/-- A command completes by sending a result beside the pipe to general register `gd` (R227, R302). -/
def WritesLong (i : Instr) (s t : State) (k : CoreId) (gd : GReg) (v : Word) : Prop :=
  Does i s (after k (t.setGLong k.val gd.val v))

/-- A command completes by writing capability register `cd` (R236). -/
def WritesC (i : Instr) (s t : State) (k : CoreId) (cd : CReg) (v : Cap) : Prop :=
  Does i s (after k (t.setC k.val cd.val v))

/-- A command completes by writing predicate `pd` (R213). -/
def WritesP (i : Instr) (s t : State) (k : CoreId) (pd : PReg) (b : Bool) : Prop :=
  Does i s (after k (t.onCore k.val fun c => c.setP pd.val b))

/-- The exact result lies outside the signed 64-bit range (R229). -/
def outOfRange (i : Int) : Prop := i < -2 ^ 63 ∨ 2 ^ 63 ≤ i

/-- The trap of this word is taken at the word (R229, R288). -/
def precise (t : State) (k : CoreId) : Prop := bitOf (t.core k.val).arith 2 = true ∨ (t.core k.val).level ≠ 0

/-- `s` with AEPC naming the word at pcc (R222, R229). -/
def named (s : State) (k : CoreId) : State :=
  s.onCore k.val fun c => c.onTask fun t =>
    { t with aepc := BitVec.ofNat 64 (c.pcc.offset + c.pcc.index * 2 ^ 32) }

/-- `s` with a trap pending that names the word at pcc of `t` (R288). -/
def pendTrap (s t : State) (k : CoreId) (code : Nat) : State :=
  s.onCore k.val fun c => c.onTask fun x =>
    { x with trap := some ⟨code, t.here k.val, (t.core k.val).pcc.index, 0⟩ }

/-- A word that may trap: with `cond` false it writes `put`; with it true, a precise trap raises `code` at the word,
and an imprecise one is pending behind the written result (R229). -/
def WritesOrTraps (i : Instr) (s t : State) (k : CoreId) (put : State) (cond : Prop) (code : Nat) : Prop :=
  (¬cond → Does i s (after k put)) ∧
  (cond → precise t k →
    Does i s ((named t k).trap k.val ⟨code, 0, 0⟩ (t.here k.val))) ∧
  (cond → ¬precise t k → Does i s (after k (pendTrap put t k code)))

/-- A comparison of R213 and R230. -/
def compares (c : Cond) (a b : Word) : Bool :=
  match c with
  | .eq => a == b
  | .ne => a != b
  | .lt => a.slt b
  | .ge => !a.slt b
  | .ltu => a.ult b
  | .geu => !a.ult b
  | .tstz => (a &&& b) == 0
  | .tstnz => (a &&& b) != 0

/-- A load of `n` bytes completes: the checks pass, the bytes are `b`, and the result goes to `gd` behind the delay
position, extended as `u` says (R231, R232). -/
def Loads (i : Instr) (s t : State) (k : CoreId) (gd : GReg) (cs : CReg) (disp : Int) (n : Nat) (u : Bool) : Prop :=
  ∀ v b, t.loadData k.val cs.val (t.c k.val cs.val) (effOffset (t.c k.val cs.val) disp) n = .ok v b →
    Does i s (after k (v.onCore k.val fun c => c.setGLate k.val gd.val
      (if u then BitVec.ofNat 64 (leNat b) else BitVec.ofInt 64 (toSigned (8 * b.length) (leNat b))) true))

/-- A store of the low `n` bytes of `gs` completes (R231). -/
def Stores (i : Instr) (s t : State) (k : CoreId) (gs : GReg) (cs : CReg) (disp : Int) (n : Nat) : Prop :=
  ∀ v, t.storeData k.val cs.val (t.c k.val cs.val) (effOffset (t.c k.val cs.val) disp)
      (leBytes n (t.g k.val gs.val).toNat) = .ok v () → Does i s (after k v)

/-- A word that faults: the exception is raised with SPCC naming the word (R171, R280). -/
def Faults (i : Instr) (s t : State) (k : CoreId) (e : Exc) : Prop :=
  Does i s (t.trap k.val e (t.here k.val))

/-- The return capability of a call (R201): pcc with the next word's OFFSET, SEALTYPE 0xFFFF. -/
def linkOf (t : State) (k : CoreId) : Cap :=
  ((t.core k.val).pcc.withOffset ((t.here k.val + 4) % 2 ^ 32)).withSeal 0xFFFF

/-- W of the core's shape (R203). -/
def winCount (t : State) (k : CoreId) : Nat := 16 / 2 ^ (t.core k.val).shape k.val

/-- A window call needs no trap: at S and M, or with RESW below W - 1 (R204, R276). -/
def CallFits (t : State) (k : CoreId) : Prop :=
  (t.core k.val).level ≠ 0 ∨ stResw (t.core k.val).status + 1 < winCount t k

/-- After a window call that needs no trap: at T, CWP and RESW rise by one (R202, R204). -/
def called (t : State) (k : CoreId) : State :=
  if (t.core k.val).level ≠ 0 then t
  else t.onCore k.val fun c =>
    c.turn ((stCwp c.status + 1) % winCount t k) (stResw c.status + 1)

/-- A window return needs no trap: at S and M, or with RESW above 0 (R204, R276). -/
def ReturnFits (t : State) (k : CoreId) : Prop :=
  (t.core k.val).level ≠ 0 ∨ stResw (t.core k.val).status ≠ 0

/-- After a window return that needs no trap: at T, CWP and RESW fall by one (R202, R204). -/
def returned (t : State) (k : CoreId) : State :=
  if (t.core k.val).level ≠ 0 then t
  else t.onCore k.val fun c =>
    c.turn ((stCwp c.status + winCount t k - 1) % winCount t k) (stResw c.status - 1)

/-- pcc replaced (R242-R244). -/
def jumped (t : State) (k : CoreId) (c : Cap) : State := t.onCore k.val fun x => x.setPcc c

/-- pcc's OFFSET moved by words (R216). -/
def branched (t : State) (k : CoreId) (words : Int) : State :=
  t.onCore k.val fun x => x.setPcc (x.pcc.withOffset (((x.pcc.offset : Int) + 4 * words) % 2 ^ 32).toNat)

/-- `n` iterations of a repeat pair lead from `s` to `u`: each lands the results under way, runs the word if its guard
holds, and lowers lc (R248, R250). -/
def Iterates (k : CoreId) (p : Guard) (w : Scalar) : Nat → State → State → Prop
  | 0, s, u => u = s
  | n + 1, s, u =>
    ∃ v, (if ((s.onCore k.val CoreS.landAll).core k.val).guardOn p
          then (s.onCore k.val CoreS.landAll).scalar k.val true w = .done v else v = s.onCore k.val CoreS.landAll) ∧
      Iterates k p w n (v.onCore k.val fun c => c.setLc n) u

/-- The same for REPI, with nothing due at a boundary between iterations; iteration number `m` comes first (R248,
R251). -/
def IteratesI (k : CoreId) (due : Option Nat) (p : Guard) (w : Scalar) : Nat → Nat → State → State → Prop
  | 0, _, s, u => u = s
  | n + 1, m, s, u =>
    ∃ v, (if ((s.onCore k.val CoreS.landAll).core k.val).guardOn p
          then (s.onCore k.val CoreS.landAll).scalar k.val true w = .done v else v = s.onCore k.val CoreS.landAll) ∧
      (n ≠ 0 → (v.onCore k.val fun c => c.setLc n).boundaryDue k.val due (m + 1) = false) ∧
      IteratesI k due p w n (m + 1) (v.onCore k.val fun c => c.setLc n) u

/-- A repeat pair starts: its first word issues, the second word's fetch passes and leaves `t`, the task is Tick
class, the word is one that REP admits, and lc is at most `limit` (R248, R249). -/
def PairStarts (s t : State) (k : CoreId) (p : Guard) (w : Scalar) (limit : Nat) : Prop :=
  s.issueHeld k.val = false ∧ (s.core k.val).trapFirst true = none ∧
    (∃ t0, s.fetchAt k.val (s.here k.val) = .ok t0 () ∧ t0.fetchAt k.val (t0.here k.val + 4) = .ok t ()) ∧
    bitOf (t.core k.val).status 4 = false ∧ guardOk p = true ∧ scalarLegal w = true ∧ (t.core k.val).getLc ≤ limit

/-- After a whole pair: pcc passes both words, RETIRED counts the iterations. -/
def afterPair (k : CoreId) (n : Nat) (s : State) : State := (s.onCore k.val fun c => c.advance 2).retired k.val n

/-- Element steps lead from `s` through `n` elements to `u`, with nothing due at a boundary between them; element
number `m` comes first (R252, R253). -/
def Elements (k : CoreId) (due : Option Nat) (stp : State → State → Prop) : Nat → Nat → State → State → Prop
  | 0, _, s, u => u = s
  | n + 1, m, s, u => ∃ v, stp s v ∧ (n ≠ 0 → v.boundaryDue k.val due (m + 1) = false) ∧
      Elements k due stp n (m + 1) v u

/-- c1 or c2 advanced by `e` (R252). -/
def advanced (s : State) (k : CoreId) (creg e : Nat) : State := s.setC k.val creg ((s.c k.val creg).moved e)

/-- g3 lowered by one. -/
def oneLess (s : State) (k : CoreId) : State := s.setG k.val 3 (s.g k.val 3 - 1)

/-- One step of MOVB, of CMPB on equal elements, of FILLB, of SCANB on an element that does not match (R252). -/
def movbTo (k : CoreId) (e : Nat) (s u : State) : Prop :=
  ∃ a v b, s.readElem k.val 1 e = .ok a v ∧ a.writeElem k.val e v = .ok b () ∧
    u = oneLess (advanced (advanced b k 1 e) k 2 e) k
def cmpbTo (k : CoreId) (e : Nat) (s u : State) : Prop :=
  ∃ a b v, s.readElem k.val 1 e = .ok a v ∧ a.readElem k.val 2 e = .ok b v ∧
    u = oneLess (advanced (advanced b k 1 e) k 2 e) k
def fillbTo (k : CoreId) (e : Nat) (s u : State) : Prop :=
  ∃ b, s.writeElem k.val e ((s.g k.val 4).toNat % 2 ^ (8 * e)) = .ok b () ∧ u = oneLess (advanced b k 2 e) k
def scanbTo (k : CoreId) (e : Nat) (s u : State) : Prop :=
  ∃ a x, s.readElem k.val 1 e = .ok a x ∧ x ≠ (a.g k.val 4).toNat % 2 ^ (8 * e) ∧ u = oneLess (advanced a k 1 e) k

/-- A vector word issues with the unit On in a vector-enabled task set (R212, R221). -/
def IssuesV (s t : State) (k : CoreId) (p : Guard) : Prop :=
  Issues s t k p true ∧ bitOf (t.core k.val).status 3 = true ∧ (t.core k.val).vunit ≠ .off

/-- The state in which a vector word computes: it is under way (R222 VSTAT, R304). -/
def busy (t : State) (k : CoreId) : State := t.onCore k.val CoreS.vectorStarts

/-- The elements of register `v` of the running task's context, of `8 * 2 ^ ew` bits (R218, R220). -/
def elem (t : State) (k : CoreId) (ew : EW) (v : VReg) (j : Nat) : Nat := elemOf (t.v k.val v.val) (8 * 2 ^ ew.val) j

/-- n of R257. -/
def count (t : State) (k : CoreId) (ew : EW) : Nat := min (t.vl k.val % 64) (256 / (8 * 2 ^ ew.val))

/-- A vector word completes by writing elements 0 to n - 1 of `vd`; the others keep their contents (R257). -/
def WritesV (i : Instr) (s t : State) (k : CoreId) (ew : EW) (vd : VReg) (f : Nat → Nat) : Prop :=
  ∃ x, Does i s (after k ((busy t k).setV k.val vd.val x)) ∧
    (∀ j, j < count t k ew → elemOf x (8 * 2 ^ ew.val) j = f j) ∧
    (∀ j, count t k ew ≤ j → j < 256 / (8 * 2 ^ ew.val) → elemOf x (8 * 2 ^ ew.val) j = elem t k ew vd j)

/-- A vector word completes by sending a value to general register `g` (R260, R302). -/
def WritesVG (i : Instr) (s t : State) (k : CoreId) (g : GReg) (v : Word) : Prop :=
  Does i s (after k ((busy t k).setGLong k.val g.val v))

/-- The signed value of a `w`-bit element. -/
def sval (w x : Nat) : Int := if x < 2 ^ (w - 1) then x else (x : Int) - 2 ^ w

/-- A signed value cut to `w` bits' signed range, as a `w`-bit pattern (R259). -/
def satTo (w : Nat) (i : Int) : Nat := (max (-2 ^ (w - 1)) (min i (2 ^ (w - 1) - 1)) % 2 ^ w).toNat

/-- The second operand of VVV and VVS (R259). -/
def operand (t : State) (k : CoreId) (ew : EW) (b : VSrc) (j : Nat) : Nat :=
  match b with
  | .vec vb => elem t k ew vb j
  | .scal gb => (t.g k.val gb.val).toNat % 2 ^ (8 * 2 ^ ew.val)

/-- A point of `w` bits: x in the low half, y in the high half, signed (R263). -/
def point (w x : Nat) : Int × Int := (sval (w / 2) (x % 2 ^ (w / 2)), sval (w / 2) (x / 2 ^ (w / 2)))

/-- The squared length of a step. -/
def normSq (p q : Int × Int) : Int := (p.1 - q.1) * (p.1 - q.1) + (p.2 - q.2) * (p.2 - q.2)

/-- The squared distance of R265 before saturation. -/
def segDist (p a b : Int × Int) : Int :=
  let dd := normSq b a
  let wd := (p.1 - a.1) * (b.1 - a.1) + (p.2 - a.2) * (b.2 - a.2)
  let cross := (p.1 - a.1) * (b.2 - a.2) - (p.2 - a.2) * (b.1 - a.1)
  if dd = 0 ∨ wd ≤ 0 then normSq p a else if wd ≥ dd then normSq p b else cross * cross / dd

/-- The running task set of a core. -/
def taskOf (s : State) (k : CoreId) : TaskSet := (s.core k.val).slot ((s.core k.val).running.getD 0)

/-- Core `k` of `u` is at level S of its running task, entered with this cause, FINFO, FOFS and saved pcc from the
settled core `c`, through control register `cr` (R281). -/
def EnteredS (u : State) (k : CoreId) (c : CoreS) (code : Nat) (intr : Bool) (fi : Nat) (fo : Int) (spcc : Cap)
    (cr : Nat) : Prop :=
  let b := (taskOf u k).sb
  (u.core k.val).running = c.running ∧ (u.core k.val).level = 1 ∧
  bitOf (u.core k.val).status 2 = true ∧ (u.core k.val).status >>> 3 = c.status >>> 3 ∧
  b.spcc = spcc ∧ b.sst.toNat = c.status % 2 ^ 17 ∧ b.cause.toNat = code + (if intr then 2 ^ 63 else 0) ∧
  b.finfo.toNat = fi ∧ b.fofs = BitVec.ofInt 64 fo ∧ (u.core k.val).pcc = entryCap (c.cr cr)

/-- Core `k` of `u` is at level M, entered likewise through ENTRY_M (R281). -/
def EnteredM (u : State) (k : CoreId) (c : CoreS) (code : Nat) (intr : Bool) (fi : Nat) (fo : Int) (spcc : Cap)
    (sst : Nat) : Prop :=
  let b := (u.core k.val).mb
  (u.core k.val).running = c.running ∧ (u.core k.val).level = 2 ∧ (u.core k.val).nibActive = false ∧
  b.spcc = spcc ∧ b.sst.toNat = sst ∧ b.cause.toNat = code + (if intr then 2 ^ 63 else 0) ∧
  b.finfo.toNat = fi ∧ b.fofs = BitVec.ofInt 64 fo ∧ (u.core k.val).pcc = entryCap (c.cr 15)

/-- The Steward presents a register write that the Guard admits (R317, R324). -/
def Taken (s : State) (m : Master) (a : Nat) : Prop := Admits s m a ∧ Master.isSteward m = true

/-- Memory, tags, cores, the ledger and the queues are as before: what a command to a control register leaves. -/
def KeepsMachine (s t : State) : Prop :=
  t.mem = s.mem ∧ t.tags = s.tags ∧ t.cores = s.cores ∧ t.press = s.press ∧ t.queues = s.queues

/-- Only the Fabric Guard's counters and log may differ (R333). -/
def OnlyGuardNotes (s t : State) : Prop :=
  t = { s with ctl := t.ctl } ∧
    ∀ x i, x ∉ [Fld.FG_CNT_REFUSED, .FG_CNT_OVERLAPS, .FG_CNT_SOROZ, .FG_LOG_ADDR, .FG_LOG_MASTER, .FG_LOG_REASON,
      .FG_LOG_WRITE, .FG_LOG_FETCH, .FG_LOG_SLOT, .FG_LOG_VALID] → t.f x i = s.f x i

/-- The offset of a reference is taken: it is shown in TU_OFFS, waits for the next boundary, and ends Holdover (R38). -/
def TakesOffset (s t : State) (ofs shown : Int) : Prop :=
  t.tick.newOfs = some ofs ∧ t.f .TU_OFFS_OFFSET = (shown % 2 ^ 32).toNat ∧
    t.f .TU_STAT_LOCK = (if s.f .TU_STAT_LOCK = 3 then 1 else s.f .TU_STAT_LOCK)

/-- A task of core `k` in slot `i`. -/
def taskAt (s : State) (t : Nat) : TaskSet := s.task t

/-- A Walker command arrives at a Walker that serves nothing and holds nothing (R187). -/
def WalkerIdle (s : State) : Prop :=
  s.registry.cmd = none ∧ s.registry.waiting = [] ∧ s.registry.quiet = [] ∧ s.f .RW_CTRL_ENABLE = 1

/-- The Hamper with the frame at the head of its inbox taken. -/
def popped (s : State) (r : List InFrame) : State := { s with hamper := { s.hamper with inbox := r } }

/-- Every record that waits on queue 1,009 keeps the form of R106: none of them is refused on the way. -/
def FormedRecords (s : State) : Prop := ∀ x ∈ s.press.devQ, x.2.formed = true

/-- Memory, tags, cores and queues are as before; the ledger's part may change. -/
def KeepsCores (s t : State) : Prop := t.mem = s.mem ∧ t.tags = s.tags ∧ t.cores = s.cores ∧ t.queues = s.queues

/-- A request comes to a ready Hamper for the peer's own open session at its epoch (R74). -/
def Ours (s : State) (i : InFrame) : Prop :=
  s.hamperReady = true ∧ (s.session i.frame.hdr.session.toNat).isOpen = true ∧
    (s.session i.frame.hdr.session.toNat).peer = i.peer ∧
    (s.session i.frame.hdr.session.toNat).epoch = i.frame.hdr.epoch.toNat

/-- d of R74. -/
def dOf (s : State) (i : InFrame) : Int :=
  windowOffset (s.session i.frame.hdr.session.toNat).next i.frame.hdr.reqid.toNat

/-- A command completes by sending one reply of a code (R74, R75). -/
def RepliesWith (c : Instr) (s s1 : State) (i : InFrame) (code : Nat) (lsn outcome : Nat := 0) : Prop :=
  Does c s (s1.reply i.peer i.frame.hdr code lsn outcome)

/-- A saturating counter has counted one. -/
def Raised (s t : State) (x : Fld) (i : Nat := 0) : Prop := t.f x i = min (s.f x i + 1) (2 ^ x.width - 1)

/-- The Archive Port's meters admit a segment's command, none of which has been charged yet (R44). -/
def ArchiveAdmits (s : State) : Prop :=
  s.press.segCharged = false ∧ s.admits (.eng 19) = true ∧ s.admits (.eng 35) = true

/-- The command of a segment has gone to the drive: the ring's slots, and zero slots in the unfilled places of its first
and its last logical block (R120, R122). -/
def Issued (s t : State) (n : Nat) : Prop :=
  t.wire = s.wire ++ [.nvmeWrite (32768 + 256 * (s.areaPlace n - s.blockOfs n)) (zeros (256 * s.blockOfs n) ++
    s.ringBytes n (s.segCount n) ++ zeros (256 * s.padSlots (s.blockOfs n + s.segCount n)))] ∧
  t.spent (.eng 35) = s.spent (.eng 35) +
    256 * (s.blockOfs n + s.segCount n + s.padSlots (s.blockOfs n + s.segCount n)) ∧
  t.spent (.eng 19) = s.spent (.eng 19) + 1

/-- A queue has taken one completion after the entries it held (R239). -/
def Completed (s t : State) (q : Nat) (h : Hdr) (pay : Bytes) : Prop :=
  (t.queue q).ents = (s.queue q).ents ++ [devEntry h pay]

/-- The codes of lookups (R135). -/
def lookupCode (s : State) (l : Lookup) : Nat :=
  if l.loaded = false then 5
  else if lookupForm l.ent = false then 14
  else match l.found with
    | none => if l.ecc then 13 else 2
    | some e =>
      if s.timeValid = false then 4
      else if fieldAt e 20 4 ≤ taiMinutes s.tick.tai ∧
        (fieldAt e 24 4 = 0xFFFFFFFF ∨ taiMinutes s.tick.tai < fieldAt e 24 4) then 1 else 3

/-- The row of each operation's start on engine `e`, with its CODE (R145). -/
def sealStarts (e : Fin 8) : List (Instr × Nat) :=
  [(.edVerify e, 1), (.edSign e, 2), (.mldsaVerify e, 3), (.mldsaSign e, 4), (.verify2 e, 5), (.sha512 e, 6), (.sha3 e, 7),
    (.shake256 e, 8), (.hmacSha512 e, 9), (.gcmEnc e, 10), (.gcmDec e, 11), (.kemEncaps e, 12), (.kemDecaps e, 13),
    (.keygen e, 16), (.keyimport e, 17), (.keydestroy e, 18), (.pubexport e, 19)]

/-- A request of an instance that is served, has a new TAG, and passes rows 1 to 5 of R347 for a write of entry `e`. -/
def Accepts (s : State) (i : Inst) (tag : BitVec 32) (index sub : Nat) (e : DEntry) (n : Nat) : Prop :=
  s.serves i = true ∧ s.storedAnswer i tag = none ∧ s.checkAccess i index sub = .ok e ∧
    (e.cls = .l → signedDomain index = true) ∧ e.ty.lengthCode n = none

/-- The request a command of an instance makes. -/
def asks (i : Inst) (tag : BitVec 32) (index sub : Nat) : Serves :=
  { inst := some i, tag := tag, index := index, sub := sub }

/-- The request that an instance's message makes. -/
def asksOf (i : Inst) (q : Mgmt) : Serves := asks i q.tag q.index.toNat q.sub.toNat

/-- Memory, tags, cores, the ledger and the Registry are as before: what a command of the Steward's channels leaves. -/
def KeepsBlock (s t : State) : Prop :=
  t.mem = s.mem ∧ t.tags = s.tags ∧ t.cores = s.cores ∧ t.press = s.press ∧ t.registry = s.registry

/-- The device after a reset of kind `k` (R12, R415-R418): what every reset clears, what the kind keeps, the cause, and
the boot that is due. -/
def WasReset (s t : State) (k : ResetKind) : Prop :=
  t.f .PW_RSTAT_CAUSE = k.cause ∧ t.trust.bootDue = true ∧ t.cores = emptyMap ∧ t.queues = emptyMap ∧ t.tags = [] ∧
    t.tick.running = false ∧ t.hamper.sess = emptyMap ∧ t.registry.entries = emptyMap ∧ t.guard.held = none ∧
    t.press.recovered = false ∧ t.press.writing = none ∧ t.trust.roles = emptyMap ∧ t.dict.loaded = false ∧
    (t.trust.enrolled = s.trust.enrolled ∧ t.trust.commissioned = s.trust.commissioned ∧
      t.trust.retired = s.trust.retired ∧ t.trust.service = s.trust.service ∧ t.trust.keygen = s.trust.keygen) ∧
    (k.losesPower = true → t.mem = []) ∧ (∀ c ∈ t.mem, fixedRegion c.1 = false) ∧
    (s.press.writing = none → t.press.slots = s.press.slots) ∧ t.dict.paramA = s.dict.paramA ∧ t.dict.paramB = s.dict.paramB ∧ t.pending = s.pending

/-- A command resets the device, and nothing else of R415 comes with it. -/
def Resets (c : Instr) (s u : State) (k : ResetKind) : Prop := ∃ t, Does c s t ∧ WasReset u t k

/-- An abandon record has come to the Press: it waits behind a write in progress, or its write starts at once where the
channel is free and nothing else is due (R106, R108). -/
def AbandonWaits (s t : State) : Prop :=
  (s.press.writing.isSome → t.press.writing = s.press.writing ∧ t.press.devSlots.length = s.press.devSlots.length + 1) ∧
    (s.channelFree = true → s.press.hdrs = [] → s.taskDue = false → t.press.writing.isSome)

end Sys2Proof.Claims

open Sys2Proof Sys2Proof.Machine Sys2Proof.Claims
/-- Step takes the command at the front of the queue: the step is the command's effect, with the queue's rest. -/
def Obligations.StepRunsTheFrontCommand : Prop :=
  ∀ (c : Instr) (l : List Instr) (s : State),
    step { s with pending := c :: l } = exec c { s with pending := l }

/-- An empty queue: one core clock passes (the model's choice, log entry 1): the device count rises by one, TU_PHASE
by one while the Tick Unit runs, and memory, the ledger and the pins are left alone. -/
def Obligations.IdleStepIsOneClock : Prop :=
  ∀ s : State, s.pending = [] → ∃ t, step s = .next t ∧ t.ns = s.ns + 1 ∧
    (s.tick.running = true → t.f .TU_PHASE_PHASE = satAdd 20 (s.f .TU_PHASE_PHASE) 1 % 2 ^ 20) ∧
    t.mem = s.mem ∧ t.press = s.press ∧ t.wire = s.wire ∧ t.pending = []

/-- R227: the words that can raise no arithmetic trap and take one cycle write their result. -/
def Obligations.IntegerWordsWriteTheirResult : Prop :=
  ∀ (k : CoreId) (p : Guard) (gd ga gb : GReg) (i10 : BitVec 10) (i16 : BitVec 16) (sh : BitVec 6) (s t : State),
    Issues s t k p false →
    let a := t.g k.val ga.val
    let b := t.g k.val gb.val
    let n := b.toNat % 64
    Writes (.addw k p gd ga gb) s t k gd (((a + b).setWidth 32).signExtend 64) ∧
    Writes (.subw k p gd ga gb) s t k gd (((a - b).setWidth 32).signExtend 64) ∧
    Writes (.and k p gd ga gb) s t k gd (a &&& b) ∧
    Writes (.or k p gd ga gb) s t k gd (a ||| b) ∧
    Writes (.xor k p gd ga gb) s t k gd (a ^^^ b) ∧
    Writes (.andn k p gd ga gb) s t k gd (a &&& ~~~b) ∧
    Writes (.sll k p gd ga gb) s t k gd (a <<< n) ∧
    Writes (.srl k p gd ga gb) s t k gd (a >>> n) ∧
    Writes (.sra k p gd ga gb) s t k gd (a.sshiftRight n) ∧
    Writes (.ror k p gd ga gb) s t k gd (a.rotateRight n) ∧
    Writes (.min k p gd ga gb) s t k gd (if a.slt b then a else b) ∧
    Writes (.max k p gd ga gb) s t k gd (if a.slt b then b else a) ∧
    Writes (.minu k p gd ga gb) s t k gd (if a.ult b then a else b) ∧
    Writes (.maxu k p gd ga gb) s t k gd (if a.ult b then b else a) ∧
    Writes (.andi k p gd ga i10) s t k gd (a &&& i10.setWidth 64) ∧
    Writes (.ori k p gd ga i10) s t k gd (a ||| i10.setWidth 64) ∧
    Writes (.xori k p gd ga i10) s t k gd (a ^^^ i10.setWidth 64) ∧
    Writes (.slli k p gd ga sh) s t k gd (a <<< sh.toNat) ∧
    Writes (.srli k p gd ga sh) s t k gd (a >>> sh.toNat) ∧
    Writes (.srai k p gd ga sh) s t k gd (a.sshiftRight sh.toNat) ∧
    Writes (.rori k p gd ga sh) s t k gd (a.rotateRight sh.toNat) ∧
    Writes (.movh k p gd i16) s t k gd ((t.g k.val gd.val <<< 16) ||| i16.setWidth 64) ∧
    Writes (.sextb k p gd ga) s t k gd ((a.setWidth 8).signExtend 64) ∧
    Writes (.sexth k p gd ga) s t k gd ((a.setWidth 16).signExtend 64) ∧
    Writes (.sextw k p gd ga) s t k gd ((a.setWidth 32).signExtend 64) ∧
    Writes (.zextb k p gd ga) s t k gd (a &&& 0xFF) ∧
    Writes (.zexth k p gd ga) s t k gd (a &&& 0xFFFF) ∧
    Writes (.zextw k p gd ga) s t k gd (a &&& 0xFFFFFFFF) ∧
    (∃ z : Nat, Writes (.clz k p gd ga) s t k gd (BitVec.ofNat 64 z) ∧ z ≤ 64 ∧
      a.toNat < 2 ^ (64 - z) ∧ (a ≠ 0 → 2 ^ (63 - z) ≤ a.toNat)) ∧
    (∃ z : Nat, Writes (.ctz k p gd ga) s t k gd (BitVec.ofNat 64 z) ∧ z ≤ 64 ∧
      (∀ j, j < z → a.getLsbD j = false) ∧ (z < 64 → a.getLsbD z = true)) ∧
    Writes (.popc k p gd ga) s t k gd
      (BitVec.ofNat 64 (((List.range 64).filter fun j => a.getLsbD j).length)) ∧
    (∃ r : Word, Writes (.bswap k p gd ga) s t k gd r ∧
      ∀ j : Fin 8, r.extractLsb' (8 * j.val) 8 = a.extractLsb' (8 * (7 - j.val)) 8)


/-- R227-R229: ADD, SUB, ADDI, MUL and the divisions write their results with the corner cases, or trap as ARITH asks;
MULH and MULHU never trap. -/
def Obligations.ArithmeticWordsWriteOrTrap : Prop :=
  ∀ (k : CoreId) (p : Guard) (gd ga gb : GReg) (i12 : BitVec 12) (s t : State),
    Issues s t k p true →
    let a := t.g k.val ga.val
    let b := t.g k.val gb.val
    let ove := bitOf (t.core k.val).arith 0 = true
    let dze := bitOf (t.core k.val).arith 1 = true
    let long (v : Word) := t.setGLong k.val gd.val v
    WritesOrTraps (.add k p gd ga gb) s t k (t.setG k.val gd.val (a + b)) (ove ∧ outOfRange (a.toInt + b.toInt)) 0x0F ∧
    WritesOrTraps (.sub k p gd ga gb) s t k (t.setG k.val gd.val (a - b)) (ove ∧ outOfRange (a.toInt - b.toInt)) 0x0F ∧
    WritesOrTraps (.addi k p gd ga i12) s t k (t.setG k.val gd.val (a + i12.signExtend 64))
      (ove ∧ outOfRange (a.toInt + i12.toInt)) 0x0F ∧
    WritesOrTraps (.mul k p gd ga gb) s t k (long (a * b)) (ove ∧ outOfRange (a.toInt * b.toInt)) 0x0F ∧
    WritesLong (.mulh k p gd ga gb) s t k gd (BitVec.ofInt 64 (a.toInt * b.toInt / 2 ^ 64)) ∧
    WritesLong (.mulhu k p gd ga gb) s t k gd (BitVec.ofNat 64 (a.toNat * b.toNat / 2 ^ 64)) ∧
    WritesOrTraps (.div k p gd ga gb) s t k (long (if b = 0 then BitVec.allOnes 64 else a.sdiv b)) (dze ∧ b = 0) 0x10 ∧
    WritesOrTraps (.divu k p gd ga gb) s t k (long (if b = 0 then BitVec.allOnes 64 else a / b)) (dze ∧ b = 0) 0x10 ∧
    WritesOrTraps (.rem k p gd ga gb) s t k (long (if b = 0 then a else a.srem b)) (dze ∧ b = 0) 0x10 ∧
    WritesOrTraps (.remu k p gd ga gb) s t k (long (if b = 0 then a else a % b)) (dze ∧ b = 0) 0x10

/-- R213, R230: comparisons write pt and its complement to pf; PLOG and PBUNDLE compute on predicates; a comparison
whose pt and pf are one register other than p0 is illegal. -/
def Obligations.PredicateWordsWritePredicates : Prop :=
  ∀ (k : CoreId) (p : Guard) (c : Cond) (pt pf pd pa pb : PReg) (g ga gb : GReg) (i8 : BitVec 8) (s t : State),
    Issues s t k p false →
    let a := t.g k.val ga.val
    let x := (t.core k.val).getP pa.val
    let y := (t.core k.val).getP pb.val
    let put (r : Bool) : State := t.onCore k.val fun c => (c.setP pt.val r).setP pf.val (!r)
    (¬(pt = pf ∧ pt ≠ 0) →
      Does (.cmp k p c pt pf ga gb) s (after k (put (compares c a (t.g k.val gb.val)))) ∧
      Does (.cmpi k p c pt pf ga i8) s (after k (put (compares c a (i8.signExtend 64))))) ∧
    (pt = pf ∧ pt ≠ 0 →
      Does (.cmp k p c pt pf ga gb) s (t.trap k.val ⟨0x01, 0, 0⟩ (t.here k.val)) ∧
      Does (.cmpi k p c pt pf ga i8) s (t.trap k.val ⟨0x01, 0, 0⟩ (t.here k.val))) ∧
    WritesP (.pand k p pd pa pb) s t k pd (x && y) ∧
    WritesP (.por k p pd pa pb) s t k pd (x || y) ∧
    WritesP (.pxor k p pd pa pb) s t k pd (x ^^ y) ∧
    WritesP (.pandn k p pd pa pb) s t k pd (x && !y) ∧
    WritesP (.pnot k p pd pa) s t k pd (!x) ∧
    WritesP (.pmov k p pd pa) s t k pd x ∧
    WritesP (.pclr k p pd) s t k pd false ∧
    (∃ v : Word, Writes (.pbundle k p g false) s t k g v ∧ v.toNat < 256 ∧
      ∀ n : PReg, v.getLsbD n.val = (t.core k.val).getP n.val) ∧
    (∃ u, Does (.pbundle k p g true) s (after k u) ∧
      (∀ n : PReg, n ≠ 0 → ((t.core k.val).running.isSome ∨ 4 ≤ n.val) →
        (u.core k.val).getP n.val = (t.g k.val g.val).getLsbD n.val) ∧
      (∀ n, u.g k.val n = t.g k.val n) ∧ u.mem = t.mem)

/-- R199-R202, R232: a register write is read back and leaves every other register of the core alone; g0 reads zero and
discards writes; so do the shared registers of an idle core. -/
def Obligations.RegisterWriteChangesOneRegister : Prop :=
  ∀ (k : CoreId) (s : State) (n m : GReg) (cn cm : CReg) (pn pm : PReg) (v : Word) (w : Cap) (b : Bool),
    s.g k.val 0 = 0 ∧ s.setG k.val 0 v = s.onCore k.val id ∧
    (s.core k.val).getP 0 = true ∧ (s.core k.val).setP 0 b = s.core k.val ∧
    (pn ≠ 0 → ((s.core k.val).running.isSome ∨ 4 ≤ pn.val) → ((s.core k.val).setP pn.val b).getP pn.val = b) ∧
    (((s.core k.val).gLoc k.val n.val).isSome → (s.setG k.val n.val v).g k.val n.val = v) ∧
    (m ≠ n → (s.setG k.val n.val v).g k.val m.val = s.g k.val m.val) ∧
    (((s.core k.val).cLoc cn.val).isSome → (s.setC k.val cn.val w).c k.val cn.val = w) ∧
    (cm ≠ cn → (s.setC k.val cn.val w).c k.val cm.val = s.c k.val cm.val) ∧
    (pm ≠ pn → (((s.core k.val).setP pn.val b).getP pm.val = (s.core k.val).getP pm.val)) ∧
    (∀ j, (s.setC k.val cn.val w).g k.val j = s.g k.val j) ∧
    (∀ j, (s.setG k.val n.val v).c k.val j = s.c k.val j) ∧
    (s.setG k.val n.val v).mem = s.mem ∧ (s.setC k.val cn.val w).mem = s.mem ∧
    (∀ j, j ≠ k.val → (s.setG k.val n.val v).core j = s.core j ∧ (s.setC k.val cn.val w).core j = s.core j)

/-- R222, R226: a completed word moves pcc by 4 and RETIRED by one, and leaves registers, memory, tags, queues, ledger
and the other cores alone, where no STOP and no halt is due. -/
def Obligations.CompletionMovesPccAndRetired : Prop :=
  ∀ (k : CoreId) (s : State) (i : Nat), (s.core k.val).running = some i →
    ((s.core k.val).slot i).stopDue = false → (s.core k.val).haltReq = false →
    let u := after k s
    (u.core k.val).pcc = (s.core k.val).pcc.withOffset ((s.here k.val + 4) % 2 ^ 32) ∧
    (u.core k.val).cr 33 = ((s.core k.val).cr 33 + 1) % 2 ^ 64 ∧ (u.core k.val).status = (s.core k.val).status ∧
    (∀ n, ((u.core k.val).gLoc k.val n).map (u.core k.val).readLoc =
      ((s.core k.val).gLoc k.val n).map (s.core k.val).readLoc) ∧
    (∀ n, ((u.core k.val).cLoc n).map (u.core k.val).readCLoc =
      ((s.core k.val).cLoc n).map (s.core k.val).readCLoc) ∧
    (∀ n, (u.core k.val).getP n = (s.core k.val).getP n) ∧ (u.core k.val).getLc = (s.core k.val).getLc ∧
    (∀ j, j ≠ k.val → u.core j = s.core j) ∧
    u.mem = s.mem ∧ u.tags = s.tags ∧ u.ctl = s.ctl ∧ u.queues = s.queues ∧ u.press = s.press ∧
    u.registry = s.registry ∧ u.pending = s.pending

/-- R207, R208, R210-R218: a word whose guard fails performs nothing but its completion; a 32-bit word outside the
tables of R211 to R218 raises Illegal Instruction; a few words of those tables spell their instructions. -/
def Obligations.GuardedOffWordsDoNothing : Prop :=
  ∀ (k : CoreId) (p : Guard) (ga gb gd : GReg) (ca cb : CReg) (sz : Size) (i11 : BitVec 11) (i22 : BitVec 22)
      (n : Fin 8) (s t : State),
    s.issueHeld k.val = false → (s.core k.val).trapFirst true = none →
    s.fetchAt k.val (s.here k.val) = .ok t () → guardOk p = true → (t.core k.val).guardOn p = false →
    Does (.add k p gd ga gb) s (after k t) ∧ Does (.div k p gd ga gb) s (after k t) ∧
    Does (.ld k p gd ca sz i11) s (after k t) ∧ Does (.st k p gd ca sz i11) s (after k t) ∧
    Does (.cmov k p ca cb) s (after k t) ∧ Does (.sealCap k p ca ca cb) s (after k t) ∧
    Does (.enq k p ca cb gd) s (after k t) ∧ Does (.deq k p ca cb gd) s (after k t) ∧
    Does (.br k p i22) s (after k t) ∧ Does (.call k p i22) s (after k t) ∧ Does (.ret k p) s (after k t) ∧
    Does (.invoke k p ca cb) s (after k t) ∧ Does (.scall k p n) s (after k t) ∧ Does (.fence k p) s (after k t) ∧
    Does (.wait k p) s (after k t) ∧
    (∀ (w next : BitVec 32) (due : Option Nat), (s.core k.val).trapFirst false = none → decodeWord k w next due = none →
      execWord k w next due s = .next (t.trap k.val ⟨0x01, 0, 0⟩ (t.here k.val))) ∧
    (∀ (next : BitVec 32) (due : Option Nat), decodeWord k 0 next due = none ∧ decodeWord k 0xFFFFFFFF next due = none ∧
      decodeWord k 0x004A1100 next due = some (.add k ⟨0, false⟩ 5 1 2) ∧
      decodeWord k 0x040A3FF8 next due = some (.ld k ⟨0, false⟩ 5 1 3 (-8)) ∧
      decodeWord k 0x083FFFFF next due = some (.br k ⟨0, false⟩ (-1)) ∧
      decodeWord k 0x0B404021 next due = some (.mfc k ⟨0, false⟩ 2 33))

/-- R231, R235: loads send what their checked access reads behind the delay position, stores perform their checked
access. -/
def Obligations.LoadsAndStoresAccessMemory : Prop :=
  ∀ (k : CoreId) (p : Guard) (g gi : GReg) (c cs : CReg) (sz : Size) (i11 : BitVec 11) (i10 : BitVec 10)
      (scale : BitVec 2) (u : Bool) (s t : State),
    Issues s t k p false →
    let n := 2 ^ sz.val
    let d := (t.g k.val gi.val).toInt * 2 ^ scale.toNat
    let cap := t.c k.val cs.val
    Loads (.ld k p g cs sz i11) s t k g cs i11.toInt n false ∧
    (sz ≠ 3 → Loads (.ldu k p g cs sz i11) s t k g cs i11.toInt n true) ∧
    Stores (.st k p g cs sz i11) s t k g cs i11.toInt n ∧
    (¬(u = true ∧ sz = 3) → Loads (.ldx k p g cs gi sz scale u false) s t k g cs d n u) ∧
    Stores (.ldx k p g cs gi sz scale false true) s t k g cs d n ∧
    (∀ v w, t.loadCap k.val cs.val cap (effOffset cap (i10.toInt * 16)) = .ok v w →
      Does (.cld k p c cs i10) s (after k (v.onCore k.val fun x => x.setCLate c.val w))) ∧
    (∀ v, t.storeCap k.val cs.val cap (effOffset cap (i10.toInt * 16)) (t.c k.val c.val) = .ok v () →
      Does (.cst k p c cs i10) s (after k v)) ∧
    (∀ v e, t.loadData k.val cs.val cap (effOffset cap i11.toInt) n = .bad v e →
      Does (.ld k p g cs sz i11) s (v.trap k.val e (v.here k.val)))

/-- R162, R305-R307: a data store waits in the store buffer, and the core's own load of the same bytes reads them there
while memory is unchanged; STORE_DRAIN moves the oldest entry's bytes to memory, clears that granule's tag, and changes no
other byte and no other tag. -/
def Obligations.StoreBufferHoldsAndDrains : Prop :=
  ∀ (k : CoreId) (s : State),
    (∀ (a : Nat) (b : Bytes) (ofs : Int), inControl a = false → b ≠ [] → a % 16 + b.length ≤ 16 →
      let u := s.bufferStore k.val a b
      u.loadPart k.val a b.length ofs = .ok u b ∧
      ((s.core k.val).store.length < 8 → u.mem = s.mem ∧ u.tags = s.tags)) ∧
    (∀ (ecc : Bool) (g : Nat) (l : List (Nat × Byte)) (r : List StoreEnt),
      Memory.wf s = true → (s.core k.val).store = .data g l :: r → (∀ x ∈ l, x.1 < 16) → (l.map Prod.fst).Nodup → l ≠ [] →
      inBank (16 * g) = false →
      ∃ t, exec (.storeDrain k ecc) s = .next t ∧ (t.core k.val).store = r ∧
        (∀ x ∈ l, t.byte (16 * g + x.1) = x.2) ∧
        (∀ a, (∀ x ∈ l, a ≠ 16 * g + x.1) → t.byte a = s.byte a) ∧
        t.tag g = false ∧ (∀ h, h ≠ g → t.tag h = s.tag h) ∧
        t.f .DN_CNTTAG_DRAINUE = (if ecc = true ∨ g ∈ s.power.badGrans then satAdd 32 (s.f .DN_CNTTAG_DRAINUE) 1 else s.f .DN_CNTTAG_DRAINUE))

/-- R215, R236: the capability register words. -/
def Obligations.CapabilityWordsComputeTheirFields : Prop :=
  ∀ (k : CoreId) (p : Guard) (cd cs : CReg) (g : GReg) (i14 : BitVec 14) (s t : State),
    Issues s t k p false →
    let c := t.c k.val cs.val
    let x := t.g k.val g.val
    let fine := ¬(c.tag = true ∧ c.sealType ≠ 0)
    WritesC (.cmov k p cd cs) s t k cd c ∧
    WritesC (.cclrtag k p cd cs) s t k cd ⟨c.bits, false⟩ ∧
    WritesC (.csetlo k p cd cs g) s t k cd ⟨c.bits.extractLsb' 64 64 ++ x, false⟩ ∧
    WritesC (.csethi k p cd cs g) s t k cd ⟨x ++ c.bits.extractLsb' 0 64, false⟩ ∧
    Writes (.cgetlo k p g cs) s t k g (c.bits.extractLsb' 0 64) ∧
    Writes (.cgethi k p g cs) s t k g (c.bits.extractLsb' 64 64) ∧
    Writes (.cgettag k p g cs) s t k g (if c.tag then 1 else 0) ∧
    Writes (.cgetoff k p g cs) s t k g ((c.bits.extractLsb' 0 32).setWidth 64) ∧
    (fine →
      WritesC (.cincoffi k p cd cs i14) s t k cd (c.withOffset (((c.offset : Int) + i14.toInt) % 2 ^ 32).toNat) ∧
      WritesC (.cincoff k p cd cs g) s t k cd (c.withOffset (((c.offset : Int) + x.toInt) % 2 ^ 32).toNat) ∧
      WritesC (.csetoff k p cd cs g) s t k cd (c.withOffset (x.toNat % 2 ^ 32)) ∧
      WritesC (.candrights k p cd cs g) s t k cd (c.withRights (c.rights &&& x.toNat % 2 ^ 11))) ∧
    (¬fine → Faults (.cincoffi k p cd cs i14) s t k ⟨0x05, cs.val + 16 * 3, c.offset⟩ ∧
      Faults (.cincoff k p cd cs g) s t k ⟨0x05, cs.val + 16 * 3, c.offset⟩ ∧
      Faults (.csetoff k p cd cs g) s t k ⟨0x05, cs.val + 16 * 3, c.offset⟩ ∧
      Faults (.candrights k p cd cs g) s t k ⟨0x05, cs.val + 16 * 3, c.offset⟩) ∧
    (∀ v e, t.check15 k.val c true { creg := cs.val, ofs := c.offset } = .ok v e →
      Writes (.cgetlen k p g cs) s v k g (BitVec.ofNat 64 (e.limit + 1)) ∧
      Writes (.cgetrights k p g cs) s v k g (BitVec.ofNat 64 (effRights c e (k.val = 128))))

/-- R178-R181: SEAL, UNSEAL, CMINT, DERIVE and RELEASE. -/
def Obligations.SealMintDeriveRelease : Prop :=
  ∀ (k : CoreId) (p : Guard) (cd cs ca : CReg) (ga gr : GReg) (s t : State),
    Issues s t k p false →
    let c := t.c k.val cs.val
    let a := t.c k.val ca.val
    let tell : Tell := { creg := cs.val, ofs := c.offset }
    (∀ u v ty e, t.checkAuthority k.val ca.val a .sealAuth = .ok u ty →
      u.check15 k.val c false tell = .ok v e → e.xseal = ty →
      WritesC (.sealCap k p cd cs ca) s v k cd (c.withSeal ty)) ∧
    (∀ u v ty e, t.checkAuthority k.val ca.val a .unsealAuth = .ok u ty →
      u.check15 k.val c true tell = .ok v e → c.sealType = ty → e.xseal = ty →
      WritesC (.unsealCap k p cd cs ca) s v k cd ((c.withSeal 0).withColour e.colour)) ∧
    (∀ u e, ((t.core k.val).level = 2 ∨ k.val = 128) → t.entryFor k.val c.index c.gen = .hit u e → c.gen = e.gen →
      c.reserved = 0 → c.rights &&& (0xFFFF - e.maxRights) = 0 → c.sealType = 0 → c.colour = e.colour →
      WritesC (.cmint k p cd cs) s u k cd ⟨c.bits, true⟩) ∧
    (∀ u v, t.derive k.val cs.val c ((t.g k.val ga.val).toNat % 2 ^ 32) ((t.g k.val ga.val).toNat / 2 ^ 32)
        ((t.g k.val gr.val).toNat % 2 ^ 11) = .ok u v →
      WritesC (.deriveCap k p cd cs ga gr) s u k cd v ∧ v.tag = true ∧ v.sealType = 0) ∧
    ((t.core k.val).walkDone = some c.index →
      Does (.release k p cs) s (after k (t.onCore k.val fun x => { x with walkDone := none }))) ∧
    (∀ u e, (t.core k.val).walkDone ≠ some c.index → t.check15 k.val c false tell = .ok u e → e.depth ≠ 0 →
      e.pegged = false → e.ledgerOnly = false → e.owner = u.domain k.val →
      ∃ v, Does (.release k p cs) s v ∧
        ((v.core k.val).walkWait = some c.index ∨ (v.core k.val).walkDone = some c.index))

/-- R239-R241: ENQ appends the entry and answers OK, or answers why not; DEQ removes the oldest entry and writes it, or
answers EMPTY. -/
def Obligations.QueueWords : Prop :=
  ∀ (k : CoreId) (p : Guard) (cq cm : CReg) (gd : GReg) (s t : State),
    Issues s t k p false →
    let c := t.c k.val cq.val
    (∀ u v w q g l, t.checkQueue k.val cq.val .enq = .ok u q →
      (u.drainAll k.val).readGrans k.val cm.val ((u.drainAll k.val).c k.val cm.val) 2 = .ok v g →
      let h := hdrOf (granBytes g)
      (256 < h.paylen.toNat → Writes (.enq k p cq cm gd) s v k gd 4) ∧
      (h.paylen.toNat ≤ 256 →
        v.readGrans k.val cm.val ((u.drainAll k.val).c k.val cm.val) (2 + (h.paylen.toNat + 15) / 16) = .ok w l →
        (w.hasRoom q (k.val = 128) = false → Writes (.enq k p cq cm gd) s w k gd 1) ∧
        (w.hasRoom q (k.val = 128) = true → 1000 ≤ q → 1000 ≤ h.replyq.toNat → Writes (.enq k p cq cm gd) s w k gd 5) ∧
        (w.hasRoom q (k.val = 128) = true → 1000 ≤ q → h.replyq.toNat < 1000 → w.freePlaces h.replyq.toNat = 0 →
          Writes (.enq k p cq cm gd) s w k gd 3) ∧
        (w.hasRoom q (k.val = 128) = true → 1000 ≤ q → h.replyq.toNat < 1000 → w.freePlaces h.replyq.toNat ≠ 0 →
          Writes (.enq k p cq cm gd) s (w.deviceAdd q ⟨l, if q = 1008
            then .task ((w.core k.val).taskNo k.val) (w.domain k.val) else w.submitter k.val, false⟩) k gd 0) ∧
        (w.hasRoom q (k.val = 128) = true → q < 1000 →
          Writes (.enq k p cq cm gd) s (w.addEntry q ⟨l, w.submitter k.val, false⟩) k gd 0))) ∧
    (∀ u q, t.checkQueue k.val cq.val .deq = .ok u q →
      (1000 ≤ q → Does (.deq k p cq cm gd) s (u.trap k.val (capExc cq.val .rights c.offset) (u.here k.val))) ∧
      (q < 1000 → (u.queue q).ents = [] → Writes (.deq k p cq cm gd) s (u.noteDeq k.val (some q)) k gd 2) ∧
      (∀ e r y l v x, q < 1000 → (u.queue q).ents = e :: r → u.sweepFilters k.val e.grans = .ok y l →
        y.passWhole k.val cm.val (u.c k.val cm.val)
          (.capStore (l.any Cap.tag) (l.any fun g => g.tag && !bitOf g.rights 6))
          ((u.c k.val cm.val).offset : Int) (16 * l.length) = .ok v x →
        ∃ w : State, Does (.deq k p cq cm gd) s
            (after k (w.setG k.val gd.val (BitVec.ofNat 64 (16 * l.length * 2 ^ 16)))) ∧ (w.queue q).ents = r))

/-- R201-R204, R242-R246: transfers that need no window trap, the loop words and WAIT. -/
def Obligations.TransfersMovePcc : Prop :=
  ∀ (k : CoreId) (p : Guard) (cs cc cd : CReg) (ga gd : GReg) (i22 : BitVec 22) (i20 : BitVec 20) (s t : State),
    Issues s t k p true →
    let link (u : State) : State := u.setC k.val 15 (linkOf t k)
    let n := ((t.core k.val).getLc + 2 ^ 32 - 1) % 2 ^ 32
    let dec := t.onCore k.val fun c => c.setLc n
    Does (.br k p i22) s (afterJump k (branched t k i22.toInt)) ∧
    (CallFits t k → Does (.call k p i22) s (afterJump k (branched (link (called t k)) k i22.toInt))) ∧
    (∀ u, t.checkTarget k.val cs.val (t.c k.val cs.val) = .ok u () →
      Does (.cjmp k p cs false) s (afterJump k (jumped u k (t.c k.val cs.val))) ∧
      (CallFits u k → Does (.cjmp k p cs true) s (afterJump k (jumped (link (called u k)) k (t.c k.val cs.val))))) ∧
    (∀ u, t.checkLink k.val (t.c k.val 15) = .ok u () → ReturnFits u k →
      Does (.ret k p) s (afterJump k (jumped (returned u k) k ((t.c k.val 15).withSeal 0)))) ∧
    (∀ u, t.checkInvoke k.val cc.val cd.val (t.c k.val cc.val) (t.c k.val cd.val) = .ok u () → CallFits u k →
      Does (.invoke k p cc cd) s (afterJump k (jumped ((link (called u k)).setC k.val 0 ((t.c k.val cd.val).withSeal 0)) k
        ((t.c k.val cc.val).withSeal 0)))) ∧
    (n ≠ 0 → Does (.loop k p i20) s (afterJump k (branched dec k i20.toInt))) ∧
    (n = 0 → Does (.loop k p i20) s (after k dec)) ∧
    Does (.setlc k p ga) s (after k (t.onCore k.val fun c => c.setLc ((t.g k.val ga.val).toNat % 2 ^ 32))) ∧
    Does (.setlci k p i20) s (after k (t.onCore k.val fun c => c.setLc i20.toNat)) ∧
    Writes (.getlc k p gd) s t k gd (BitVec.ofNat 64 (t.core k.val).getLc) ∧
    ((t.core k.val).level ≠ 0 → Does (.wait k p) s (after k t)) ∧
    (∀ i, (t.core k.val).running = some i → (t.core k.val).level = 0 →
      let x := (t.core k.val).slot i
      let come := (x.emptyQ.isSome ∧ x.emptyAdded) ∨ x.pStart ∨ x.pDoor ∨ x.pTick
      (come → Does (.wait k p) s (after k t)) ∧
      (¬come → ∃ u, Does (.wait k p) s u ∧ (u.core k.val).running = none ∧
        ((u.core k.val).slot i).state = (if x.stopDue then .stopped else .waiting) ∧
        ((u.core k.val).slot i).pcc = x.pcc.withOffset ((t.here k.val + 4) % 2 ^ 32) ∧ u.mem = t.mem))

/-- R204, R278: with RESW at W - 1 a CALL at T first spills the oldest caller's window, 128 bytes in register order, to
128 bytes below c14; CWP moves on and RESW stays. -/
def Obligations.CallSpillsTheOldestWindow : Prop :=
  ∀ (k : CoreId) (p : Guard) (i22 : BitVec 22) (s t u v : State) (x : Passed) (i : Nat),
    Issues s t k p true → (t.core k.val).level = 0 → (t.core k.val).running = some i →
    stResw (t.core k.val).status + 1 = winCount t k →
    let c14 := t.c k.val 14
    let w := stCwp (t.core k.val).status
    let ofs : Int := (c14.offset : Int) - 128
    t.passSpill k.val c14 .store ofs = .ok u x →
    let l := u.onCore k.val CoreS.landAll
    let b := (List.range 16).flatMap fun j =>
      leBytes 8 ((l.core k.val).win.get 0 (i * winCount t k + (w + 1) % winCount t k, j)).toNat
    (l.drainDevice k.val x).storeParts k.val b { creg := 14, ofs := ofs } x.parts = .ok v () →
    Does (.call k p i22) s (afterJump k (branched
      ((((v.setC k.val 14 (c14.withOffset (ofs % 2 ^ 32).toNat)).onCore k.val fun c =>
        c.turn ((w + 1) % winCount t k) (winCount t k - 1))).setC k.val 15 (linkOf t k)) k i22.toInt))

/-- R209, R248-R252: repeat pairs run their iterations and end with lc 0; a prefix word with a guard, and a pair whose
second word is not one that a prefix may precede, are illegal; block-repeat instructions run their elements; a REPI
pair with an interrupt due after its first iteration stops there: lc holds the iterations left, REPACT is 1, pcc names the
REP word, RETIRED counts one. -/
def Obligations.RepeatsRunTheirIterations : Prop :=
  ∀ (k : CoreId) (p : Guard) (w : Scalar) (wd : BitVec 32) (sz : Size) (due : Option Nat) (s t u : State),
    (PairStarts s t k p w 64 → repWord wd = .admitted p w →
      Iterates k p w (t.core k.val).getLc (t.onCore k.val fun c => c.setStatus (stPut c.status 16 1 0)) u →
      Does (.repu k ⟨⟨0, false⟩, wd⟩) s (afterPair k (t.core k.val).getLc u)) ∧
    (PairStarts s t k p w 65536 → repWord wd = .admitted p w →
      IteratesI k due p w (t.core k.val).getLc 0 (t.onCore k.val fun c => c.setStatus (stPut c.status 16 1 0)) u →
      Does (.repi k ⟨⟨0, false⟩, wd⟩ due) s (afterPair k (t.core k.val).getLc u)) ∧
    (s.issueHeld k.val = false → (s.core k.val).trapFirst true = none → s.fetchAt k.val (s.here k.val) = .ok t () →
      (p.pg ≠ 0 ∨ p.sn = true →
        Does (.repu k ⟨p, wd⟩) s (t.trap k.val ⟨0x01, 0, 0⟩ (t.here k.val)) ∧
        Does (.repi k ⟨p, wd⟩ due) s (t.trap k.val ⟨0x01, 0, 0⟩ (t.here k.val))) ∧
      (t.fetchAt k.val (t.here k.val + 4) = .ok u () → repWord wd = .other →
        Does (.repu k ⟨⟨0, false⟩, wd⟩) s (u.trap k.val ⟨0x01, 0, 0⟩ (t.here k.val)) ∧
        Does (.repi k ⟨⟨0, false⟩, wd⟩ due) s (u.trap k.val ⟨0x01, 0, 0⟩ (t.here k.val)))) ∧
    (Issues s t k p true → bitOf (t.core k.val).status 4 = true →
      let n := (t.g k.val 3).toNat
      let e := 2 ^ sz.val
      (Elements k due (movbTo k e) n 0 t u → Does (.movb k p sz due) s (after k u)) ∧
      (Elements k due (cmpbTo k e) n 0 t u → Does (.cmpb k p sz due) s (after k (u.setG k.val 4 0))) ∧
      (Elements k due (fillbTo k e) n 0 t u → Does (.fillb k p sz due) s (after k u)) ∧
      (Elements k due (scanbTo k e) n 0 t u → Does (.scanb k p sz due) s (after k u)) ∧
      (∀ a b x y, n ≠ 0 → t.readElem k.val 1 e = .ok a x → a.readElem k.val 2 e = .ok b y → x ≠ y →
        Does (.cmpb k p sz due) s (after k (b.setG k.val 4 (BitVec.ofNat 64 (x ^^^ y))))) ∧
      (∀ a x, n ≠ 0 → t.readElem k.val 1 e = .ok a x → x = (a.g k.val 4).toNat % 2 ^ (8 * e) →
        Does (.scanb k p sz due) s (after k a))) ∧
    (∀ v i, PairStarts s t k p w 65536 → repWord wd = .admitted p w → 1 < (t.core k.val).getLc →
      (t.core k.val).running = some i →
      ((t.core k.val).slot i).stopDue = false → (t.core k.val).haltReq = false →
      let z := (t.onCore k.val fun c => c.setStatus (stPut c.status 16 1 0)).onCore k.val CoreS.landAll
      (z.core k.val).guardOn p = true → (∃ f gd ga gb, w = .op f gd ga gb) →
      z.scalar k.val true w = .done v →
      ∃ x, Does (.repi k ⟨⟨0, false⟩, wd⟩ (some 1)) s x ∧
        (x.core k.val).getLc = ((t.core k.val).getLc - 1) % 2 ^ 32 ∧ bitOf (x.core k.val).status 16 = true ∧
        (x.core k.val).pcc = (t.core k.val).pcc ∧ (x.core k.val).cr 33 = ((t.core k.val).cr 33 + 1) % 2 ^ 64)

/-- R246, R282-R290, R309, R314: system words complete as their rules say. -/
def Obligations.SystemWordsComplete : Prop :=
  ∀ (k : CoreId) (p : Guard) (n : Fin 8) (b : BitVec 11) (cr : BitVec 6) (code : BitVec 16) (gd gs : GReg)
      (cd cs : CReg) (s t : State),
    Issues s t k p true →
    let c := t.core k.val
    let bank := if c.level = 1 then (taskOf t k).sb else c.mb
    ((∃ i, c.running = some i) → c.level = 0 →
      ∃ u, Does (.scall k p n) s (afterJump k u) ∧ EnteredS u k c.settleAll (0x20 + n.val) false 0 0
        (c.pcc.withOffset ((t.here k.val + 4) % 2 ^ 32)) (16 + n.val)) ∧
    Does (.breakpoint k p code) s (t.trap k.val ⟨0x02, 0, 0⟩ (t.here k.val)) ∧
    (c.level = 1 → b ≠ 0 → c.nibDue = false → c.nibActive = false →
      Does (.nib k p b) s (after k (t.onCore k.val fun c =>
        c.setCr 25 (c.cr 25 / 2 ^ 32 * 2 ^ 32 + min b.toNat (min (c.cr 24) 2000) + 2 ^ 11)))) ∧
    (c.level = 2 → Does (.nib k p b) s (after k t)) ∧
    (c.crAccess k.val cr.toNat ≠ .none →
      Writes (.mfc k p gd cr) s t k gd (BitVec.ofNat 64 (t.readCr k.val cr.toNat))) ∧
    ((c.crAccess k.val cr.toNat = .rw ∨ c.crAccess k.val cr.toNat = .wo) → (cr.toNat = 5 → c.created = []) →
      Does (.mtc k p gs cr) s (after k (t.onCore k.val fun c => c.writeCr k.val cr.toNat (t.g k.val gs.val)))) ∧
    (c.crAccess k.val cr.toNat = .none → Does (.mfc k p gd cr) s (t.trap k.val ⟨0x01, 0, 0⟩ (t.here k.val))) ∧
    Does (.csync k p) s (after k (t.onCore k.val CoreS.settleAll)) ∧
    (∃ u, Does (.fence k p) s (after k u) ∧ (u.core k.val).store = []) ∧
    (c.level ≠ 0 → (c.level = 1 → c.running.isSome) → WritesC (.cmfc k p cd) s t k cd bank.spcc) ∧
    (c.level = 2 → Does (.cmtc k p cs) s (after k (t.onCore k.val fun x =>
      { x with mb := { x.mb with spcc := t.c k.val cs.val } }))) ∧
    (c.level = 1 → Does (.cmtc k p cs) s (after k (t.onCore k.val fun x => x.onTask fun y =>
      { y with sb := { y.sb with spcc := t.c k.val cs.val } }))) ∧
    (c.level = 0 → Does (.eret k p) s (t.trap k.val ⟨0x01, 0, 0⟩ (t.here k.val)) ∧
      Does (.cmfc k p cd) s (t.trap k.val ⟨0x01, 0, 0⟩ (t.here k.val)))

/-- R283, R284: ERET and SRET return to the saved status and the saved pcc once the checks pass and no interrupt of the
level is pending; a level above ORIGIN is a Privilege Ceiling fault. A saved status outside the ranges of R202, R204, R220
and R222 is cut to them (the model's reading, log entry 114); a return from M to M skips the check of the return capability
alone, not that of its alignment. -/
def Obligations.ReturnsRestoreTheSavedState : Prop :=
  ∀ (k : CoreId) (p : Guard) (s t v : State) (e : Entry) (i : Nat),
    Issues s t k p true → (t.core k.val).running = some i →
    let c := t.core k.val
    let bank := if c.level = 1 then (c.slot i).sb else c.mb
    let l := bank.sst.toNat % 4
    (c.level = 1 ∨ c.level = 2) →
    ((l = 3 ∨ bank.sst.toNat / 2 ^ 17 % 4 < l) →
      Does (.eret k p) s (t.trap k.val ⟨0x12, 0, 0⟩ (t.here k.val)) ∧
      (c.level = 1 → Does (.sret k p) s (t.trap k.val ⟨0x12, 0, 0⟩ (t.here k.val)))) ∧
    (l ≠ 3 → l ≤ bank.sst.toNat / 2 ^ 17 % 4 →
      (if l = 2 ∧ bank.sst.toNat / 2 ^ 17 % 4 = 2 then v = t
        else checks123 bank.spcc false = none ∧ t.entryFor k.val bank.spcc.index bank.spcc.gen = .hit v e ∧
          bank.spcc.gen = e.gen ∧ e.ty = 2 ∧ bitOf (effRights bank.spcc e (k.val = 128)) 2 = true) →
      (bank.spcc.offset % 4 ≠ 0 → Does (.eret k p) s (v.trap k.val ⟨0x09, 15 + 16 * 7 + 2 ^ 10, bank.spcc.offset⟩ (t.here k.val))) ∧
      (bank.spcc.offset % 4 = 0 →
        ∃ u, (c.level = 1 → Does (.sret k p) s (afterJump k u)) ∧
          (c.chainDue = none → Does (.eret k p) s (afterJump k u)) ∧
          (u.core k.val).running = some i ∧ (u.core k.val).status = c.settleAll.backTo k.val i bank.sst ∧
          (let w := 16 / 2 ^ c.settleAll.shape k.val
           bank.sst.toNat / 2 ^ 5 % 8 = 0 → stCwp (bank.sst.toNat % 2 ^ 17) < w → stResw (bank.sst.toNat % 2 ^ 17) < w →
            (bitOf bank.sst.toNat 3 = true → (c.settleAll.slot i).vctx.isSome) →
            (u.core k.val).status = bank.sst.toNat % 2 ^ 17) ∧
          (u.core k.val).pcc = bank.spcc ∧ u.mem = t.mem ∧ (∀ j, j ≠ k.val → u.core j = t.core j)))

/-- R222, R314: after an MTC to one of cr14 to cr23, an MFC reads the value written, cut to the register's bits, whether
or not a CSYNC has come between. -/
def Obligations.ControlRegisterReadsBack : Prop :=
  ∀ (k : CoreId) (n : Nat) (v : Word) (s : State), 14 ≤ n → n ≤ 23 →
    let u := s.onCore k.val fun c => c.writeCr k.val n v
    u.readCr k.val n = v.toNat &&& 0x3FFFFFFFFFFFFFFC ∧
    (u.onCore k.val CoreS.settleAll).readCr k.val n = v.toNat &&& 0x3FFFFFFFFFFFFFFC

/-- R281, R291, R292, R417: an exception at T enters S or M, one at S enters M, one at M check-stops the core; entry saves
pcc, the status and the cause, and goes to the entry point; a check-stop of the Steward is a WDR. -/
def Obligations.ExceptionsEnterTheNextLevel : Prop :=
  ∀ (k : CoreId) (s : State) (e : Exc) (resume i : Nat), (s.core k.val).running = some i →
    ((s.core k.val).slot i).trap = none → e.code < 2 ^ 32 → e.finfo < 2 ^ 64 →
    let c := (s.core k.val).settleAll
    let u := s.raise k.val e resume
    let spcc := (s.core k.val).pcc.withOffset resume
    ((s.core k.val).level = 0 → targetsM e.code = false →
      EnteredS u k c e.code false e.finfo e.fofs spcc 14) ∧
    ((s.core k.val).level = 0 → targetsM e.code = true →
      EnteredM u k c e.code false e.finfo e.fofs spcc (c.status % 2 ^ 17)) ∧
    ((s.core k.val).level = 1 →
      EnteredM u k c e.code false e.finfo e.fofs spcc (c.status % 2 ^ 17 + 2 ^ 17)) ∧
    ((s.core k.val).level < 2 → u.mem = s.mem ∧ u.tags = s.tags ∧ u.ctl = s.ctl ∧
      (∀ j, j ≠ k.val → u.core j = s.core j) ∧
      (∀ j, j ≠ i → (u.core k.val).slot j = c.slot j)) ∧
    (2 ≤ (s.core k.val).level → (u.core k.val).cstop = true ∧ (u.core k.val).running = none ∧
      u.f .TC_CSINFO_CODE k.val = e.code % 2 ^ 8) ∧
    (((s.core k.val).level < 2 → (s.core k.val).cstop = false) → (k.val ≠ 128 ∨ (s.core k.val).level < 2) →
      s.trap k.val e resume = u) ∧
    (k.val = 128 → 2 ≤ (s.core k.val).level → s.trap k.val e resume = u.resetDevice .wdr)

/-- R259, R263-R267: vector arithmetic and geometry compute element by element below n and keep the rest. -/
def Obligations.VectorArithmeticIsElementwise : Prop :=
  ∀ (k : CoreId) (p : Guard) (vd va vb : VReg) (b : VSrc) (gs : GReg) (ew : EW) (s t : State),
    IssuesV s t k p →
    let w := 8 * 2 ^ ew.val
    let x := elem t k ew va
    let y := operand t k ew b
    let m := elem t k ew vb
    let pg (g : Nat) := point w ((t.g k.val g).toNat % 2 ^ w)
    WritesV (.vadd k p vd va b ew) s t k ew vd (fun j => (x j + y j) % 2 ^ w) ∧
    WritesV (.vsub k p vd va b ew) s t k ew vd (fun j => (((x j : Int) - y j) % 2 ^ w).toNat) ∧
    WritesV (.vmul k p vd va b ew) s t k ew vd (fun j => x j * y j % 2 ^ w) ∧
    WritesV (.vmulh k p vd va b ew) s t k ew vd (fun j => (sval w (x j) * sval w (y j) / 2 ^ w % 2 ^ w).toNat) ∧
    WritesV (.vand k p vd va b ew) s t k ew vd (fun j => x j &&& y j) ∧
    WritesV (.vor k p vd va b ew) s t k ew vd (fun j => x j ||| y j) ∧
    WritesV (.vxor k p vd va b ew) s t k ew vd (fun j => x j ^^^ y j) ∧
    WritesV (.vmin k p vd va b ew) s t k ew vd (fun j => if sval w (x j) ≤ sval w (y j) then x j else y j) ∧
    WritesV (.vmax k p vd va b ew) s t k ew vd (fun j => if sval w (x j) ≤ sval w (y j) then y j else x j) ∧
    WritesV (.vminu k p vd va b ew) s t k ew vd (fun j => min (x j) (y j)) ∧
    WritesV (.vmaxu k p vd va b ew) s t k ew vd (fun j => max (x j) (y j)) ∧
    WritesV (.vsll k p vd va b ew) s t k ew vd (fun j => x j * 2 ^ (y j % w) % 2 ^ w) ∧
    WritesV (.vsrl k p vd va b ew) s t k ew vd (fun j => x j / 2 ^ (y j % w)) ∧
    WritesV (.vsra k p vd va b ew) s t k ew vd (fun j => (sval w (x j) / 2 ^ (y j % w) % 2 ^ w).toNat) ∧
    WritesV (.vsadd k p vd va b ew) s t k ew vd (fun j => satTo w (sval w (x j) + sval w (y j))) ∧
    WritesV (.vssub k p vd va b ew) s t k ew vd (fun j => satTo w (sval w (x j) - sval w (y j))) ∧
    WritesV (.vabsd k p vd va b ew) s t k ew vd (fun j => (sval w (x j) - sval w (y j)).natAbs) ∧
    WritesV (.vbcast k p vd gs ew) s t k ew vd (fun _ => (t.g k.val gs.val).toNat % 2 ^ w) ∧
    (2 ≤ ew.val → gs.val % 2 = 0 →
      WritesV (.vpsd k p vd va vb gs ew) s t k ew vd (fun j =>
        min (min (segDist (point w (x j)) (pg gs.val) (pg (gs.val + 1))).toNat (2 ^ w - 1)) (m j)) ∧
      WritesV (.vswin k p vd va vb gs ew) s t k ew vd (fun j =>
        let q := point w (x j)
        let lo := pg gs.val
        let hi := pg (gs.val + 1)
        if lo.1 ≤ q.1 ∧ q.1 ≤ hi.1 ∧ lo.2 ≤ q.2 ∧ q.2 ≤ hi.2 then 2 ^ w - 1 else m j))

/-- R221, R257, R258, R260, R261, R266: SETVL, the moves and reductions, the vector loads and stores, and VPACC with the
unit On; a vector word that finds the unit Off starts its wake and is presented again; the wake ends, and an idle unit and
one that VPWR.OFF names go Off. -/
def Obligations.VectorMovesAndAccesses : Prop :=
  ∀ (k : CoreId) (p : Guard) (v va vb : VReg) (g gd : GReg) (cs : CReg) (ew : EW) (idx : Fin 32) (i12 : BitVec 12)
      (s t : State),
    (IssuesV s t k p →
    let w := 8 * 2 ^ ew.val
    let x := elem t k ew v
    let n := count t k ew
    let vals := (List.range n).map fun j => sval w (x j)
    let bz := busy t k
    let c := t.c k.val cs.val
    let ofs := effOffset c i12.toInt
    (∃ u : State, Does (.setvl k p gd g ew) s (after k (u.setG k.val gd.val (BitVec.ofNat 64 (min (t.g k.val g.val).toNat (256 / w))))) ∧
      u.vl k.val = min (t.g k.val g.val).toNat (256 / w) + 64 * ew.val ∧ u.mem = t.mem) ∧
    (idx.val < 256 / w →
      WritesVG (.vexti k p v g ew idx) s t k g (BitVec.ofInt 64 (sval w (x idx.val))) ∧
      ∃ y, Does (.vinsi k p v g ew idx) s (after k (bz.setV k.val v.val y)) ∧
        elemOf y w idx.val = (t.g k.val g.val).toNat % 2 ^ w ∧
        ∀ j, j ≠ idx.val → j < 256 / w → elemOf y w j = x j) ∧
    (256 / w ≤ idx.val →
      Does (.vexti k p v g ew idx) s (t.trap k.val ⟨0x01, 0, 0⟩ (t.here k.val)) ∧
      Does (.vinsi k p v g ew idx) s (t.trap k.val ⟨0x01, 0, 0⟩ (t.here k.val))) ∧
    WritesVG (.vredsum k p v g ew) s t k g (BitVec.ofInt 64 vals.sum) ∧
    WritesVG (.vredmin k p v g ew) s t k g (BitVec.ofInt 64 (vals.foldr min 0x7FFFFFFFFFFFFFFF)) ∧
    WritesVG (.vredmax k p v g ew) s t k g (BitVec.ofInt 64 (vals.foldr max (-0x8000000000000000))) ∧
    WritesVG (.vredminu k p v g ew) s t k g (BitVec.ofNat 64 (((List.range n).map x).foldr min (2 ^ 64 - 1))) ∧
    WritesVG (.vredmaxu k p v g ew) s t k g (BitVec.ofNat 64 (((List.range n).map x).foldr max 0)) ∧
    (∀ u l r y, bz.passElems k.val cs.val c .elemLoad ofs (2 ^ ew.val) 0 n = .ok u l →
      (u.noteElems k.val false l).loadElems k.val cs.val ofs (2 ^ ew.val) l = .ok r y →
      Does (.vld k p v cs ew i12) s (after k (r.setV k.val v.val (mapElems (r.v k.val v.val) w n fun j => y.getD j 0)))) ∧
    (∀ u l r, bz.passElems k.val cs.val c .elemStore ofs (2 ^ ew.val) 0 n = .ok u l →
      (u.noteElems k.val true l).storeElems k.val cs.val ofs (2 ^ ew.val) x l = .ok r () →
      Does (.vst k p v cs ew i12) s (after k r)) ∧
    (2 ≤ ew.val → ∃ y, Does (.vpacc k p v va vb g ew) s (after k (if n = 0 then bz.setV k.val v.val y
        else (bz.setV k.val v.val y).setGLong k.val g.val (BitVec.ofNat 64 (elem t k ew va (n - 1))))) ∧
      ∀ j, j < n →
        let q := point w (if j = 0 then (t.g k.val g.val).toNat % 2 ^ w else elem t k ew va (j - 1))
        let d := (normSq (point w (elem t k ew va j)) q).toNat
        ∃ r, r * r ≤ d ∧ d < (r + 1) * (r + 1) ∧ elemOf y w j = min (elem t k ew vb j + r) (2 ^ w - 1))) ∧
    (Issues s t k p true → bitOf (t.core k.val).status 3 = true → (t.core k.val).vunit = .off →
      ∃ u, Does (.setvl k p gd g ew) s u ∧ (u.core k.val).vunit = .waking ∧ u.mem = t.mem ∧
        (u.core k.val).cr 28 / 2 ^ 32 = min ((t.core k.val).cr 28 / 2 ^ 32 + 1) (2 ^ 32 - 1)) ∧
    ((s.core k.val).vunit = .waking →
      Does (.vectorWakeComplete k) s (s.onCore k.val fun c => { c with vunit := .on, woken := true })) ∧
    ((s.core k.val).vunit = .on → Flight.vec ∉ (s.core k.val).flights → (s.core k.val).woken = false →
      ((s.core k.val).cr 27 % 2 ^ 13 ≠ 0 →
        Does (.vectorIdleOff k) s (s.onCore k.val fun c => { c with vunit := .off })) ∧
      ((s.core k.val).cr 27 % 2 ^ 13 = 0 → Does (.vectorIdleOff k) s s) ∧
      ((s.core k.val).vreqOff = true →
        Does (.vpwrOff k) s (s.onCore k.val fun c => { c with vunit := .off, vreqOff := false })))

/-- R168, R232, R271, R281, R288, R289, R295, R302: what happens at a core by itself: a result lands, NIB ends, a pending
trap and a pending interrupt are taken. That Task Start comes before an interrupt to level M is the model's reading (log
entry 115). -/
def Obligations.CoreEventsComplete : Prop :=
  ∀ (k : CoreId) (s : State),
    (∀ l v a r, (s.core k.val).flights = .g l v true a :: r → 1 < a →
      ∃ t, Does (.loadComplete k) s t ∧ (t.core k.val).flights = r ∧ (t.core k.val).readLoc l = v ∧ t.mem = s.mem) ∧
    (∀ l v a r, (s.core k.val).flights = .g l v false a :: r →
      Does (.longOpComplete k) s (s.onCore k.val fun c => ({ c with flights := r } : CoreS).writeLoc v l)) ∧
    (∀ i, (s.core k.val).nibActive = true → (s.core k.val).running = some i →
      ((s.core k.val).slot i).stopDue = false →
      ∃ t, Does (.nibExpire k) s t ∧ (t.core k.val).nibActive = false ∧ (t.core k.val).nibDue = true ∧
        (t.core k.val).cr 25 / 2 ^ 32 = min ((s.core k.val).cr 25 / 2 ^ 32 + 1) (2 ^ 32 - 1)) ∧
    (∀ i a, (s.core k.val).running = some i → ((s.core k.val).slot i).trap = some a → (s.core k.val).cstop = false →
      (s.core k.val).halted = false → s.issueOff = false → a.code < 2 ^ 32 → (s.core k.val).level = 0 →
      ∃ t, Does (.arithTrapTake k) s t ∧
        EnteredS t k (s.core k.val).settleAll a.code false 0 0 (s.core k.val).pcc 14 ∧
        (taskOf t k).trap = none ∧ (taskOf t k).aepc = BitVec.ofNat 64 (a.offset + a.index * 2 ^ 32)) ∧
    (∀ i, (s.core k.val).running = some i → ((s.core k.val).slot i).trap = none → (s.core k.val).cstop = false →
      (s.core k.val).halted = false → s.issueOff = false → s.tileDown k.val = false →
      (s.core k.val).interruptible = true → (s.core k.val).level = 0 →
      let x := (s.core k.val).slot i
      let c := (s.core k.val).settleAll
      (x.pStart = true → ∃ t, Does (.interruptEntry k) s t ∧
        EnteredS t k c 0x40 true 0 0 (s.startCap (64 * k.val + i)) 14 ∧ (taskOf t k).pStart = false) ∧
      (x.pStart = false →
        ((s.core k.val).pSreq = true → ∃ t, Does (.interruptEntry k) s t ∧
          EnteredM t k c 0x48 true 0 0 (s.core k.val).pcc (c.status % 2 ^ 17) ∧ (t.core k.val).pSreq = false) ∧
        ((s.core k.val).pSreq = false → (s.core k.val).pStopped = true → ∃ t, Does (.interruptEntry k) s t ∧
          EnteredM t k c 0x49 true 0 0 (s.core k.val).pcc (c.status % 2 ^ 17) ∧ (t.core k.val).pStopped = false) ∧
        ((s.core k.val).pSreq = false → (s.core k.val).pStopped = false →
          (x.pDoor = true → ∃ t, Does (.interruptEntry k) s t ∧
            EnteredS t k c 0x41 true 0 0 (s.core k.val).pcc 14 ∧ (taskOf t k).pDoor = false) ∧
          (x.pDoor = false → x.pTick = true → ∃ t, Does (.interruptEntry k) s t ∧
            EnteredS t k c 0x42 true 0 0 (s.core k.val).pcc 14 ∧ (taskOf t k).pTick = false))))

/-- R33, R37-R41, R56: the commands of the Tick Unit. -/
def Obligations.TickUnitCommands : Prop :=
  ∀ (m : Master) (v : Word) (dist : Nat) (s : State),
    (Taken s m 0x40000018 →
      let c := counted s m 0x40000018
      (c.f .TU_PEND_ARM = 0 → c.tickNo < c.f .TU_PENDAT_ATTICK →
        ∃ t, Does (.tuPendArm m v) s t ∧ t.f .TU_PEND_ARM = 1 ∧ t.f .TU_PEND_NEWPERIOD = v.toNat % 4 ∧
          t.f .TU_PENDAT_ATTICK = c.f .TU_PENDAT_ATTICK ∧ KeepsMachine s t) ∧
      ((c.f .TU_PEND_ARM ≠ 0 ∨ c.f .TU_PENDAT_ATTICK ≤ c.tickNo) →
        ∃ t, Does (.tuPendArm m v) s t ∧ t.f .TU_PEND_PENDERR = 1 ∧ t.f .TU_PEND_ARM = c.f .TU_PEND_ARM ∧
          KeepsMachine s t)) ∧
    (Taken s m 0x40000028 → s.tick.src = 1 →
      ∃ t, Does (.tuRefofsWrite m v) s t ∧
        TakesOffset s t ((v.setWidth 32).toInt - toSigned 32 (s.f .TU_CORR_CORR)) (v.setWidth 32).toInt ∧ KeepsMachine s t) ∧
    (Taken s m 0x40000028 → s.tick.src ≠ 1 → Does (.tuRefofsWrite m v) s (counted s m 0x40000028)) ∧
    (Admits s m 0x40000018 → Master.isSteward m = false → Does (.tuPendArm m v) s (counted s m 0x40000018)) ∧
    (Admits s m 0x40000028 → Master.isSteward m = false → Does (.tuRefofsWrite m v) s (counted s m 0x40000028)) ∧
    (s.tick.src = 2 → s.tick.running = true → dist ≤ (if s.f .TU_STAT_LOCK = 2 then 25000 else s.nominal / 2) →
      (s.tick.seenNext = false → ∃ t, Does (.tickinEdge true dist) s t ∧ TakesOffset s t dist dist ∧
        t.tick.seenNext = true ∧ KeepsMachine s t) ∧
      (s.tick.seenLast = false → ∃ t, Does (.tickinEdge false dist) s t ∧
        TakesOffset s t (-(dist : Int) - toSigned 32 (s.f .TU_CORR_CORR)) (-(dist : Int)) ∧ t.tick.seenLast = true ∧
        KeepsMachine s t) ∧
      (s.tick.seenNext = true → Does (.tickinEdge true dist) s s)) ∧
    ((s.tick.src = 1 ∨ (s.tick.src = 2 ∧ 8 ≤ s.tick.miss)) → (s.f .TU_STAT_LOCK = 1 ∨ s.f .TU_STAT_LOCK = 2) →
      ∃ t, Does .referenceLost s t ∧ t.f .TU_STAT_LOCK = 3 ∧ t.f .TU_STAT_REFLOST = 1 ∧ t.mem = s.mem ∧
        t.cores = s.cores) ∧
    (s.tick.tickout = true → ∃ t, Does .tickoutPulseEnd s t ∧ t.tick.tickout = false ∧
      t.wire = s.wire ++ [.tickout false] ∧ KeepsMachine s t ∧ t.ctl = s.ctl)

/-- R30-R33: a boundary raises the tick number, returns the phase to 0, applies a period change armed for the new
tick, and takes its steps in R32's order; the tick number stays at or below the tick mark, which is written first where it
has to be; before the Tick Unit runs, and past the mark of a parked die, a boundary does nothing. -/
def Obligations.TickBoundaryRunsItsSteps : Prop :=
  ∀ (tai : BitVec 64) (s : State),
    ((s.tick.running = false ∨ (s.press.parked = true ∧ s.tickMark ≤ s.tickNo)) → Does (.tickBoundary tai) s s) ∧
    (s.tick.running = true → (s.tickNo < s.tickMark ∨ s.press.parked = false) → ∃ a b : State, Does (.tickBoundary tai) s b ∧
      b = ((a.closeBlock s.tickNo).discardAllLate.noteHeldUnits.recordMeters.reloadMeters.releaseAll).otherBoundary ∧
      a.f .TU_TICK_TICK = (s.tickNo + 1) % 2 ^ 64 ∧ s.tickNo + 1 ≤ a.tickMark ∧
      a.press = (if s.tickNo < s.tickMark then s.press else { s.press with
        tickMarks := ((s.tickNo + 2 * s.ticksPerSecond) :: s.press.tickMarks).take 16 }) ∧
      a.f .TU_PHASE_PHASE = 0 ∧ a.tick.tai = tai.toNat ∧
      (s.f .TU_PEND_ARM = 1 → s.f .TU_PENDAT_ATTICK = (s.tickNo + 1) % 2 ^ 64 →
        a.f .TU_CTRL_PERIOD = s.f .TU_PEND_NEWPERIOD % 4 ∧ a.f .TU_PEND_ARM = 0) ∧
      (s.f .TU_PEND_ARM = 0 → a.f .TU_CTRL_PERIOD = s.f .TU_CTRL_PERIOD) ∧
      (s.f .TU_CTRL_TOEN = 1 → a.tick.tickout = true) ∧ a.mem = s.mem ∧ a.cores = s.cores)

/-- R44, R47, R53, R57: a reload gives each meter floor(ALLOW x P / 1000); charges lower what remains and stop at zero;
the excess is what was charged past zero; an exhausted cycle meter deschedules its task, which is Ready to run again. -/
def Obligations.MetersCountAndDeschedule : Prop :=
  ∀ (m : Meter) (n : Nat) (s : State) (isClass : Bool) (i : Nat),
    (let r := s.reloadMeters
     let p := 125 * 2 ^ (s.f .TU_CTRL_PERIOD)
     r.unlimited m = false → s.f .TU_CTRL_PERIOD < 4 →
       r.remain m = r.allowance m * p / 1000 ∧ r.excess m = 0 ∧
       (r.charge m n).remain m = r.allowance m * p / 1000 - n ∧
       (r.charge m n).excess m = n - r.allowance m * p / 1000) ∧
    (∀ k, k ≠ m → (s.charge m n).remain k = s.remain k) ∧
    (let x : Meter := if isClass then .cycles i else .task i
     s.admits x = false → x ∉ s.meters.due → (isClass = false → i / 64 ≠ 128) →
      ∃ t, Does (.cycleMeterExhaust isClass i) s t ∧ x ∈ t.meters.due ∧ (s.wanted x = true → x ∈ t.meters.heldAny) ∧
        (∀ j, s.limits x j = true → (s.task j).state = .ready → (t.task j).state = .descheduled) ∧
        t.mem = s.mem ∧ t.tags = s.tags ∧ t.press = s.press ∧ t.queues = s.queues) ∧
    (.task i ∈ s.meters.due → s.admits (.task i) = false → i / 64 ≠ 128 → (s.core (i / 64)).running = some (i % 64) →
      (s.task i).state = .running → (s.task i).stopDue = false →
      (s.core (i / 64)).mayLeave = true → ((s.core (i / 64)).slot (i % 64)).trap = none →
      ∃ t, Does (.taskDeschedule false i) s t ∧ (t.task i).state = .descheduled ∧
        (t.core (i / 64)).running = none ∧ t.mem = s.mem ∧ t.ctl = s.ctl) ∧
    (∀ k, .cycles i ∈ s.meters.due → s.admits (.cycles i) = false → s.cores.keys = [k] → k ≠ 128 →
      (s.core k).running.isSome →
      (∀ j, (s.core k).running = some j → s.classOf (64 * k + j) = i ∧ ((s.core k).slot j).trap = none ∧
        ((s.core k).slot j).state = .running ∧ j < 64) →
      (s.core k).mayLeave = true →
      ∃ t, Does (.taskDeschedule true i) s t ∧ (t.core k).running = none ∧ t.mem = s.mem)

/-- R42, R55, R206, R268-R272, R287, R293: creating, stopping and destroying tasks, the doorbell, the Steward's request, and the
switch into a Ready task. -/
def Obligations.TaskControlCommands : Prop :=
  ∀ (m : Master) (n : Nat) (v : Word) (k : CoreId) (s : State),
    let a := 0x40E80000 + 32 * n
    let c := counted s m a
    (let steward := decide (n / 64 = 128)
     let bulk := if steward then decide (4 ≤ n % 64) else bitOf v.toNat 4
     let vec := steward || bitOf v.toNat 5
     Admits s m a → c.mayControl m n = true → c.slotExists n = true → (c.task n).state = .absent →
      bitOf v.toNat 1 = false → bitOf v.toNat 2 = false →
      (steward = false → c.live .CLASS_CFG_KIND (c.classOf n) = (if bulk then 1 else 0)) →
      (vec = false → ∃ t, Does (.create m n v) s t ∧ (t.task n).state = .ready ∧
        (t.task n).pStart = true ∧ (t.task n).st.toNat = (if bulk then 16 else 0) ∧
        (t.task n).vctx = none ∧ t.f .TC_CTRL_RESULT n = 0 ∧ t.mem = s.mem) ∧
      (∀ x, vec = true → (c.core (n / 64)).freeCtx = some x → ∃ t, Does (.create m n v) s t ∧
        (t.task n).state = .ready ∧ (t.task n).vctx = some x ∧ bitOf (t.task n).st.toNat 3 = true ∧
        bitOf (t.task n).st.toNat 4 = bulk ∧ t.f .TC_CTRL_RESULT n = 0)) ∧
    (Admits s m a → c.mayControl m n = true → c.slotExists n = true → (c.task n).state ≠ .absent →
      bitOf v.toNat 1 = false → bitOf v.toNat 2 = false →
      ∃ t, Does (.create m n v) s t ∧ t.f .TC_CTRL_RESULT n = 2 ∧ t.cores = s.cores) ∧
    (Admits s m a → c.mayControl m n = true → c.slotExists n = true →
      ((c.task n).state = .ready ∨ (c.task n).state = .waiting ∨ (c.task n).state = .descheduled) →
      (c.core (n / 64)).running ≠ some (n % 64) →
      ∃ t, Does (.stop m n) s t ∧ (t.task n).state = .stopped ∧ (t.task n).stopWhy = 1 ∧ t.mem = s.mem) ∧
    (Admits s m a → c.mayControl m n = true → c.slotExists n = true →
      ((c.task n).state = .stopped → ∃ t, Does (.destroy m n) s t ∧ (t.task n).state = .absent ∧
        (t.task n).vctx = none ∧ t.f .TC_CTRL_RESULT n = 0 ∧ t.mem = s.mem) ∧
      ((c.task n).state ≠ .stopped → ∃ t, Does (.destroy m n) s t ∧ t.f .TC_CTRL_RESULT n = 5 ∧ t.cores = s.cores)) ∧
    (Admits s m (a + 16) → (counted s m (a + 16)).slotExists n = true →
      ((counted s m (a + 16)).task n).state ≠ .absent →
      ∃ t, Does (.doorbell m n) s t ∧ (t.task n).pDoor = true ∧ (t.task n).state ≠ .waiting ∧ t.mem = s.mem) ∧
    (Taken s m (0x40ED0000 + 16 * k.val) →
      ∃ t, Does (.stewardRequest m k) s t ∧ (t.core k.val).pSreq = true ∧ t.mem = s.mem ∧
        (∀ j, j ≠ k.val → t.core j = s.core j)) ∧
    (∀ i l, (s.core k.val).held = false → s.issueOff = false → s.tileDown k.val = false →
      (s.core k.val).idleM = none → (s.core k.val).running = none → (s.core k.val).rotation k.val false = i :: l →
      i < 64 → s.eligible (64 * k.val + i) = true →
      ∃ t, Does (.taskSwitch k) s t ∧ (t.core k.val).running = some i ∧ (t.task (64 * k.val + i)).state = .running ∧
        t.spent (.task (64 * k.val + i)) = s.spent (.task (64 * k.val + i)) + (if k.val = 128 then 0 else 4) ∧ t.mem = s.mem)

/-- R7, R21, R22, R324-R326: a register write that the Guard admits and the target takes stores the writable fields; one
that the Guard refuses changes nothing but the Guard's counters and log; a hold keeps it waiting. -/
def Obligations.RegisterWritesAreGuarded : Prop :=
  ∀ (m : Master) (a : Nat) (v : Word) (s : State), a % 8 = 0 → inControl a = true →
    (s.silent m = true → Does (.registerWrite m a v) s s) ∧
    (∀ b r, s.silent m = false → s.verdict (s.masterAgent m) true a 8 = .refuse b r →
      ∃ t, Does (.registerWrite m a v) s t ∧ OnlyGuardNotes s t ∧ t.f .FG_LOG_ADDR = b % 2 ^ 40 ∧
        t.f .FG_LOG_VALID = 1 ∧ t.f .FG_LOG_WRITE = 1) ∧
    (s.verdict (s.masterAgent m) true a 8 = .hold → Does (.registerWrite m a v) s s) ∧
    (Admits s m a → regAt a = none → ∃ t, Does (.registerWrite m a v) s t ∧ OnlyGuardNotes s t) ∧
    (∀ r i, Admits s m a → regAt a = some (r, i) → (counted s m a).mayWrite m r i = false →
      ∃ t, Does (.registerWrite m a v) s t ∧ OnlyGuardNotes s t) ∧
    (∀ r i, Admits s m a → regAt a = some (r, i) → (counted s m a).mayWrite m r i = true →
      r ∈ [Reg.AM_CTRL, .TASK_ALLOW, .CLASS_CFG, .ENG_ALLOW, .HM_CFG, .HM_BUFIDX, .PR_ACFG, .RW_CFG, .LP_CFG, .PW_WDCFG,
        .PW_TILECFG, .PW_WAKE, .PW_PFCFG, .DN_CFG] → (r = .TASK_ALLOW → (counted s m a).slotExists i = true) →
      ∃ t, Does (.registerWrite m a v) s t ∧ KeepsMachine s t ∧
        ∀ x ∈ r.fields, x.spec.acc = .rw → t.f x i = bitsOf v.toNat x.spec.lo (x.spec.hi - x.spec.lo + 1))

/-- R329-R333: the Steward's update of the Guard: hold, drain, commit, epoch, quiet, and ABORT before the commit and
between the commit and the epoch, which puts the rules back that the commit has replaced. -/
def Obligations.GuardUpdateCommands : Prop :=
  ∀ (m : Master) (nr : BitVec 5) (s : State),
    let a := 0x40600010
    let c := counted s m a
    (Taken s m a → c.f .FG_UPD_HOLD = 0 → (c.setF .FG_UPD_NRANGE nr.toNat).badUpdate = false →
      (∃ t, Does (.fgHold m false nr) s t ∧ t.f .FG_UPD_HOLD = 1 ∧ t.f .FG_STAT_HOLDING = 1 ∧
        t.f .FG_STAT_DRAINED = 0 ∧ t.f .FG_UPD_NRANGE = nr.toNat ∧ t.guard.held.isSome ∧ KeepsMachine s t) ∧
      (∃ t, Does (.fgHold m true nr) s t ∧ t.f .FG_UPD_HOLD = 1 ∧ t.f .FG_UPD_COMMIT = 1 ∧ KeepsMachine s t)) ∧
    (Taken s m a → c.f .FG_UPD_HOLD = 0 → (c.setF .FG_UPD_NRANGE nr.toNat).badUpdate = true →
      ∃ t, Does (.fgHold m false nr) s t ∧ t.f .FG_STAT_CFGERR = 1 ∧ t.f .FG_UPD_HOLD = 0 ∧ t.guard = s.guard) ∧
    (Taken s m a → c.f .FG_STAT_DRAINED = 1 → c.guard.committed = false → c.guard.modeOnly = false →
      ∃ t, Does (.fgCommit m) s t ∧ t.f .FG_UPD_COMMIT = 1 ∧ t.guard.committed = true ∧
        t.f .FG_CTRL_MODE = c.f .FG_CTRL_NEXTMODE % 2 ∧
        (∀ i, i < 50 → t.f .FG_LRALLOW_ALLOW i = c.f .FG_RALLOW_ALLOW i % 2 ^ 64 ∧
          t.f .FG_LWALLOW_ALLOW i = c.f .FG_WALLOW_ALLOW i % 2 ^ 64 ∧
          t.f .FG_LBASE_BASE i = c.f .FG_BASE_BASE i % 2 ^ 28 ∧ t.f .FG_LBASE_EN i = c.f .FG_BASE_EN i % 2 ∧
          t.f .FG_LLIMIT_LIMIT i = c.f .FG_LIMIT_LIMIT i % 2 ^ 28) ∧ KeepsMachine s t) ∧
    (Taken s m a → c.guard.committed = false → c.guard.applying = none → c.guard.modeDue = none →
      c.ports.hostHeld = [] →
      ∃ t, Does (.fgAbort m) s t ∧ t.f .FG_UPD_HOLD = 0 ∧ t.f .FG_UPD_COMMIT = 0 ∧ t.f .FG_STAT_HOLDING = 0 ∧
        t.guard.held = none ∧ t.f .FG_CTRL_NEXTMODE = c.f .FG_CTRL_MODE % 2 ∧
        (∀ i, i < 50 → t.f .FG_RALLOW_ALLOW i = c.f .FG_LRALLOW_ALLOW i % 2 ^ 64 ∧
          t.f .FG_BASE_BASE i = c.f .FG_LBASE_BASE i % 2 ^ 28) ∧
        KeepsMachine s t) ∧
    (∀ c0 : State, Taken s m a → c.guard.committed = true → c.guard.undo = c0.rulesNow → c.guard.applying = none →
      c.guard.modeDue = none → c.ports.hostHeld = [] →
      ∃ t, Does (.fgAbort m) s t ∧ t.f .FG_UPD_HOLD = 0 ∧ t.f .FG_UPD_NRANGE = 0 ∧ t.guard.committed = false ∧
        t.guard.held = none ∧ t.guard.pages = c.guard.oldPages ∧ t.f .FG_CTRL_MODE = c0.f .FG_CTRL_MODE % 2 ∧
        (∀ i, i < 50 → t.f .FG_LRALLOW_ALLOW i = c0.f .FG_LRALLOW_ALLOW i % 2 ^ 64 ∧
          t.f .FG_RALLOW_ALLOW i = c0.f .FG_LRALLOW_ALLOW i % 2 ^ 64) ∧
        KeepsMachine s t) ∧
    (s.f .FG_STAT_HOLDING = 1 → s.f .FG_STAT_DRAINED = 0 →
      (s.cores.entries.any fun e => e.2.store.any s.entHeld) = false → s.f .FG_UPD_COMMIT = 0 →
      ∃ t, Does .fgDrained s t ∧ t.f .FG_STAT_DRAINED = 1 ∧ t.guard = s.guard ∧ KeepsMachine s t) ∧
    (s.guard.committed = true → s.guard.applying = none → s.guard.modeDue = none → s.ports.hostHeld = [] →
      ∃ t, Does .fgEpoch s t ∧ t.f .FG_EPOCH_EPOCHS = min (s.f .FG_EPOCH_EPOCHS + 1) (2 ^ 64 - 1) ∧ t.f .FG_UPD_HOLD = 0 ∧
        t.f .FG_UPD_COMMIT = 0 ∧ t.f .FG_STAT_HOLDING = 0 ∧ t.guard.held = none ∧ t.guard.committed = false ∧
        KeepsMachine s t) ∧
    (s.guard.before = [] → ∃ t, Does .fgQuiet s t ∧ t.f .FG_STAT_QUIET = 1 ∧ t.guard = s.guard ∧ KeepsMachine s t)

/-- R165, R183, R184, R189, R197, R198: the Walker's commands from the Steward's block on an idle Walker: ALLOC makes the
entry at the head of the free list, READ returns one, REVOKE raises GEN, FREE clears VALID, MODIFY changes the fields of
its mask; the epoch invalidates and the quiet completes. What names the change of a LEDGERONLY entry is the model's
reading (log entry 90). -/
def Obligations.WalkerCommands : Prop :=
  ∀ (m : Master) (b : CoreId) (idx : BitVec 22) (mask : BitVec 16) (s : State),
    let a := 0x40510000 + 64 * b.val
    let c := counted s m a
    let e := c.entry idx.toNat
    (Taken s m a → b.val = 128 → ownsBlock m b.val = true → WalkerIdle c →
      (∀ i r, c.argsOk 128 = true → c.takeFree = some (i, r) → c.freeCount ≠ 0 →
        ∃ t, Does (.alloc m b) s t ∧ (t.entry i).valid = true ∧ (t.entry i).base = c.f .RW_ARG0_BASE 128 ∧
          (t.entry i).limit = c.f .RW_ARG1_LIMIT 128 ∧ (t.entry i).ty = c.f .RW_ARG2_TYPE 128 ∧
          (t.entry i).maxRights = c.f .RW_ARG1_MAXRIGHTS 128 ∧ (t.entry i).owner = c.f .RW_ARG2_OWNER 128 ∧
          (t.entry i).gen = (r.entry i).gen ∧ t.f .RW_RESULT_INDEX 128 = i % 2 ^ 22 ∧ t.f .RW_RESULT_STATUS 128 = 0 ∧
          t.f .RW_RESULT_DONE 128 = 1 ∧ t.mem = s.mem) ∧
      (e.valid = true → e.quar = false → idx ≠ 0 →
        (∃ t, Does (.registryRead m b idx) s t ∧ t.f .RW_ARG0_BASE 128 = e.base % 2 ^ 40 ∧
          t.f .RW_ARG1_LIMIT 128 = e.limit % 2 ^ 32 ∧ t.f .RW_ARG2_TYPE 128 = e.ty % 2 ^ 8 ∧
          t.f .RW_RESULT_DONE 128 = 1 ∧ t.f .RW_RESULT_STATUS 128 = 0 ∧ t.mem = s.mem) ∧
        ((e.ledgerOnly = true → c.changeNamed = true) → e.gen ≠ 0xFFFF →
          (∃ t, Does (.revoke m b idx) s t ∧ t.entry idx.toNat = { e with gen := e.gen + 1 } ∧
            t.registry.cmd.isSome ∧ t.f .RW_RESULT_DONE 128 = 0 ∧ t.mem = s.mem) ∧
          (∃ t, Does (.free m b idx) s t ∧ t.entry idx.toNat = { e with gen := e.gen + 1, valid := false } ∧
            t.registry.cmd.isSome ∧ t.mem = s.mem)) ∧
        (e.ledgerOnly = true → c.changeNamed = false →
          ∃ t, Does (.revoke m b idx) s t ∧ t.f .RW_RESULT_STATUS 128 = 2 ∧ t.f .RW_RESULT_DONE 128 = 1 ∧
            t.entry idx.toNat = e ∧ t.registry.cmd = none) ∧
        ((e.ledgerOnly = true → c.changeNamed = true) → mask.toNat < 32 → c.f .RW_ARG1_MAXRIGHTS 128 < 2 ^ 11 →
          (128, 2) ∉ c.registry.argBad →
          ∃ t, Does (.modify m b idx mask) s t ∧ t.registry.cmd.isSome ∧
            (t.entry idx.toNat).maxRights = (if bitOf mask.toNat 0 then c.f .RW_ARG1_MAXRIGHTS 128 else e.maxRights) ∧
            (t.entry idx.toNat).xseal = (if bitOf mask.toNat 1 then c.f .RW_ARG1_XSEAL 128 else e.xseal) ∧
            (t.entry idx.toNat).colour = (if bitOf mask.toNat 2 then c.f .RW_ARG2_COLOUR 128 else e.colour) ∧
            (t.entry idx.toNat).gen = e.gen ∧ (t.entry idx.toNat).base = e.base ∧ t.mem = s.mem))) ∧
    (∀ r, s.registry.cmd = some r → s.registry.waiting = [] → r.cmd.by_ = .block 128 →
      ∃ t, Does .walkerEpoch s t ∧ t.registry.cmd = none ∧ t.f .RW_RESULT_EPOCH 128 = 1 ∧
        t.f .RW_EPOCH_EPOCHS = min (s.f .RW_EPOCH_EPOCHS + 1) (2 ^ 64 - 1) ∧
        (∀ k, ∀ x ∈ (t.core k).sdc, x.index ≠ r.cmd.index ∧ r.cmd.index ∉ x.ancestors) ∧ t.mem = s.mem) ∧
    (∀ x l, s.registry.quiet = x :: l → s.underWay x = false → x.run.cmd.by_ = .block 128 →
      ∃ t, Does .walkerQuiet s t ∧ t.registry.quiet = l ∧ t.f .RW_RESULT_DONE 128 = 1 ∧
        t.f .RW_RESULT_INDEX 128 = x.run.cmd.index % 2 ^ 22 ∧ t.f .RW_RESULT_GEN 128 = x.run.gen % 2 ^ 16 ∧
        t.f .RW_RESULT_STATUS 128 = x.run.status % 2 ^ 4 ∧ t.mem = s.mem)

/-- R65, R168, R191, R193, R195: fills, RECYCLE, sweeps, the patrol and INIT. -/
def Obligations.RegistryUpkeep : Prop :=
  ∀ (k : CoreId) (m : Master) (idx : BitVec 22) (ms : BitVec 20) (buf : Nat) (s : State),
    (∀ r, (s.core k.val).fill = some r → r.index = idx.toNat → r.stale = false → s.indexHeld idx.toNat = false →
      (∀ e, s.fillOf k.val idx.toNat = .ok e → ∃ t, Does (.registryFillComplete k idx false) s t ∧
        (t.core k.val).fill = none ∧ (t.core k.val).fillFail = (s.core k.val).fillFail ∧
        (t.core k.val).sdc.head? = some e ∧ t.mem = s.mem) ∧
      (∀ x, s.fillOf k.val idx.toNat = .error x → ∃ t, Does (.registryFillComplete k idx false) s t ∧
        (t.core k.val).fill = none ∧ (idx.toNat, x) ∈ (t.core k.val).fillFail ∧ t.mem = s.mem)) ∧
    (∀ r, (s.core k.val).fill = some r → r.index = idx.toNat → r.stale = true →
      ∃ t, Does (.registryFillComplete k idx false) s t ∧
        (t.core k.val).fill = some { r with stale := false, waits := s.indexHeld idx.toNat } ∧
        t.f .RW_CNTFILL_RETRIED = min (s.f .RW_CNTFILL_RETRIED + 1) (2 ^ 16 - 1)) ∧
    (s.hamper.bufs.find buf = some .recycleDue → buf < 131072 → WalkerIdle s →
      let i := s.f .HM_BUFIDX_FIRST + buf
      (s.entry i).gen ≠ 0xFFFF → (s.entry i).valid = true → (s.entry i).quar = false → i ≠ 0 →
      ∃ t, Does (.recycle buf) s t ∧ t.hamper.bufs.find buf = some .recycling ∧
        t.entry i = { s.entry i with gen := (s.entry i).gen + 1, limit := 0 } ∧ t.registry.cmd.isSome ∧ t.mem = s.mem) ∧
    (Taken s m 0x40500028 → s.f .RW_STAT_SWEEPING = 0 →
      ∃ t, Does (.sweepStart m) s t ∧ t.f .RW_STAT_SWEEPING = 1 ∧ t.f .RW_SWEEP_START = 1 ∧
        t.registry.sweepSet = s.quarantined ∧ KeepsMachine s t) ∧
    (s.f .RW_STAT_SWEEPING = 1 → s.f .RW_SWEEP_START = 0 →
      ∃ t, Does (.sweepComplete ms) s t ∧ t.f .RW_SWEEP_LASTMS = ms.toNat ∧ t.f .RW_STAT_SWEEPING = 0 ∧
        t.registry.sweepSet = [] ∧ t.mem = s.mem ∧
        (∀ g, t.tag g = (s.tag g && !s.registry.sweepSet.contains
          (Cap.index ⟨BitVec.ofNat 128 (leNat (s.bytes (16 * g) 16)), true⟩)))) ∧
    (s.isOrphan idx.toNat = true → WalkerIdle s → (s.entry idx.toNat).quar = false → idx ≠ 0 →
      (s.entry idx.toNat).gen ≠ 0xFFFF → (s.entry idx.toNat).ledgerOnly = false →
      ∃ t, Does (.registryPatrol idx) s t ∧ (t.entry idx.toNat).valid = false ∧
        (t.entry idx.toNat).gen = (s.entry idx.toNat).gen + 1 ∧ t.mem = s.mem) ∧
    (s.isOrphan idx.toNat = false → Does (.registryPatrol idx) s s) ∧
    (Taken s m 0x40500000 → ∃ t, Does (.registryInit m) s t ∧ t.tags = [] ∧ t.registry.entries = emptyMap ∧
      t.registry.freeFrom = 1 ∧ t.f .RW_EPOCH_EPOCHS = 0 ∧ t.mem = s.mem ∧ t.cores = s.cores)

/-- R65, R74, R329: a request frame is written into a free request buffer as the Guard decides, and waits while the Guard
holds the write; it is answered NACK-BUSY, NACK-SEQ, ACK-DUP or NACK-FULL, dropped as a duplicate in flight, or held in
its window position (which free buffer is the model's choice, log entry 10). -/
def Obligations.RequestsAreClassified : Prop :=
  ∀ (i : InFrame) (r : List InFrame) (s : State), s.hamper.inbox = i :: r → i.frame.hdr.kind = 1 →
    let h := i.frame.hdr
    let n := h.session.toNat
    let x := s.session n
    let p := (popped s r).landFrame i (s.landing i)
    (s.landing i = .waits → Does .requestFrame s s) ∧
    (s.landing i ≠ .waits →
    (s.hamperReady = false → RepliesWith .requestFrame s p i 10) ∧
    (s.hamperReady = true → (x.isOpen = false ∨ x.peer ≠ i.peer ∨ x.epoch ≠ h.epoch.toNat) →
      RepliesWith .requestFrame s p i 11) ∧
    (Ours s i →
      ((dOf s i < -48 ∨ 15 < dOf s i) → RepliesWith .requestFrame s p i 11) ∧
      (-48 ≤ dOf s i → dOf s i < 0 →
        (∀ e, x.logFind h.reqid.toNat = some e → RepliesWith .requestFrame s p i 2 e.lsn e.outcome) ∧
        (x.logFind h.reqid.toNat = none → RepliesWith .requestFrame s p i 11)) ∧
      (∀ d : Nat, dOf s i = d → d ≤ 15 → (x.closing = none ∨ d = 0) →
        ((x.at d).inFlight = true → Does .requestFrame s (p.bump .HM_CNTDROP_DUPDROP)) ∧
        ((x.at d).inFlight = false → s.ledgerFull = true → RepliesWith .requestFrame s p i 9) ∧
        ((x.at d).inFlight = false → s.ledgerFull = false →
          (s.freeBuffer = none → RepliesWith .requestFrame s p i 10) ∧
          (∀ b, s.landing i = .refused b →
            Does .requestFrame s ((p.reply i.peer h 10).bump .HM_CNTDISC_FAULTDISC)) ∧
          (∀ b, s.freeBuffer = some b →
            s.verdict (laneDmaAgent i.port) true (s.bufAddr b) (32 + i.frame.payload.length) = .allow →
            ∃ (t : State) (q : Req), Does .requestFrame s t ∧
              ((t.session n).at d = .queued q ∨ (t.session n).at d = .dispatched q) ∧
              q.hdr = h ∧ q.peer = i.peer ∧ q.buf = b ∧ q.arrival = s.tickNo ∧ q.deadline = s.tickNo + h.deadline.toNat ∧
              t.hamper.bufs.find b = some .held ∧ t.hamper.inbox = r ∧ t.press = s.press ∧
              t.mem = (s.putBytes (s.bufAddr b) (hdrBytes h ++ i.frame.payload)).mem)))) ∧
    (∀ d : Nat, Ours s i → dOf s i = d → 0 < d → d ≤ 15 → x.closing.isSome → RepliesWith .requestFrame s p i 11))

/-- R65, R70-R72, R329: a session opens for the first peer that asks, at an epoch that is not its previous one; an open
session is confirmed to its owner and denied to others; a close waits for an idle session and an abandon record. The
frame is written into a buffer first, and waits while the Guard holds that write. -/
def Obligations.SessionsOpenAndClose : Prop :=
  ∀ (i : InFrame) (r : List InFrame) (s : State), s.hamper.inbox = i :: r →
    let h := i.frame.hdr
    let n := h.session.toNat
    let x := s.session n
    let p := (popped s r).landFrame i (s.landing i)
    (s.landing i = .waits → h.kind = 4 → Does .sessionOpen s s) ∧
    (s.landing i = .waits → h.kind = 5 → Does .sessionClose s s) ∧
    (s.landing i ≠ .waits →
    (h.kind = 4 → (s.hamperReady = false → Does .sessionOpen s (p.statusBusy i.peer h)) ∧
      (s.hamperReady = true →
        (x.isOpen = false →
          Does .sessionOpen s ((p.setSession n { isOpen := true, peer := i.peer, epoch := s.openEpoch n }).status
            i.peer h 0 (s.openEpoch n) 0) ∧
          (∀ e, (x.log ≠ [] → e = x.epoch) → (x.log = [] → s.lastEpoch n = some e) → e < 65536 → s.openEpoch n ≠ e) ∧
          (s.openEpoch n = s.tickNo % 65536 ∨ s.openEpoch n = (s.tickNo % 65536 + 1) % 65536)) ∧
        (x.isOpen = true → x.peer ≠ i.peer → Does .sessionOpen s (p.status i.peer h 2 0 0)) ∧
        (x.isOpen = true → x.peer = i.peer → x.closing = none →
          Does .sessionOpen s (p.status i.peer h 0 x.epoch x.next)) ∧
        (x.isOpen = true → x.peer = i.peer → x.closing.isSome → Does .sessionOpen s (p.statusBusy i.peer h)))) ∧
    (h.kind = 5 → s.hamperReady = false → Does .sessionClose s (p.statusBusy i.peer h)) ∧
    (h.kind = 5 → s.hamperReady = true →
      (x.isOpen = false → Does .sessionClose s (p.status i.peer h 4 0 0)) ∧
      (x.isOpen = true → x.peer ≠ i.peer → Does .sessionClose s (p.status i.peer h 2 0 0)) ∧
      (x.isOpen = true → x.peer = i.peer →
        ((x.closing.isSome ∨ x.busy = true ∨ s.noRecords = true) → Does .sessionClose s (p.statusBusy i.peer h)) ∧
        (x.closing = none → x.busy = false → s.noRecords = false → FormedRecords s →
          ∃ t, Does .sessionClose s t ∧ (t.session n).closing = some h ∧ (t.session n).at 0 = .committing none ∧
            (t.session n).isOpen = true ∧ AbandonWaits s t ∧ KeepsCores p t))))

/-- R63, R66-R68, R464: what the link layer does with a received frame, an acknowledgement that is due, a frame that is
not acknowledged, and frames that no port could carry. -/
def Obligations.LinkLayerCommands : Prop :=
  ∀ (p : Fin 8) (q : Nat) (n : BitVec 16) (s : State),
    (∀ x l dport src v6 sb sz len f, s.rxQueue p.val = x :: l → x.charged = true → (∀ y ∈ l, y.charged = true) →
      x.content = .udp dport src true v6 sb sz len f → s.isPlp p.val x.content = true → s.peerOf src = some q →
      (badHeader f.hdr len f.payload (s.peers.get {} q).mgmt = true →
        Does (.linkFrameReceive p) s ((s.popRx p.val).bump .HM_CNTDROP_HDRDROP)) ∧
      (badHeader f.hdr len f.payload (s.peers.get {} q).mgmt = false →
        (f.hdr.kind = 1 ∨ f.hdr.kind = 4 ∨ f.hdr.kind = 5) → s.exhausted (dmaMeter p.val) = false →
        ∃ t, Does (.linkFrameReceive p) s t ∧ t.rxQueue p.val = l ∧ (t.link q).port = some p.val ∧
          (t.link q).src = some src ∧ (t.link q).lack = ((s.link q).take f.hdr).2.lack ∧
          (t.link q).sack = ((s.link q).take f.hdr).2.sack ∧
          t.hamper.inbox = (if ((s.link q).take f.hdr).1 = .dup then s.hamper.inbox
            else s.hamper.inbox ++ [⟨q, f, p.val⟩]) ∧ t.mem = s.mem ∧ t.cores = s.cores)) ∧
    (∀ port, (s.link q).ackDue = true → (s.link q).port = some port → s.laneUp port = true →
      ∃ t, Does (.linkAckTimer q) s t ∧ (t.link q).ackDue = false ∧
        t.wire = s.wire ++ [.plp port q (s.envelope port q) ⟨(s.link q).ackFields (blankHdr 3), []⟩] ∧ KeepsMachine s t) ∧
    (∀ port c, (s.link q).port = some port →
      ((s.link q).out.find? fun c => c.frame.hdr.lseq = n && c.sent) = some c → c.tries < 3 → s.laneUp port = true →
      ∃ (t : State) (c' : TxCopy), Does (.linkRetransmit q n) s t ∧ c' ∈ (t.link q).out ∧ c'.tries = c.tries + 1 ∧
        c'.frame.hdr.lseq = n ∧ c'.frame.payload = c.frame.payload ∧ t.wire = s.wire ++ [.plp port q (s.envelope port q) c'.frame] ∧
        (t.link q).ackDue = false ∧ t.f .HM_CNTLINK_LRETX = min (s.f .HM_CNTLINK_LRETX + 1) (2 ^ 32 - 1) ∧
        KeepsMachine s t) ∧
    (∀ c, c ∈ (s.link q).out → c.frame.hdr.lseq = n → c.sent = true → 3 ≤ c.tries → (s.link q).waiting = [] →
      ∃ t, Does (.linkGiveUp q n) s t ∧ (∀ d ∈ (t.link q).out, d.frame.hdr.lseq ≠ n) ∧
        (∀ d ∈ (s.link q).out, d.frame.hdr.lseq ≠ n → d ∈ (t.link q).out) ∧ t.wire = s.wire ∧ KeepsMachine s t) ∧
    (∀ port, (s.link q).port = some port → s.laneUp port = true →
      ∃ t, Does (.heldFrameTransmit q) s t ∧ (∀ d ∈ (t.link q).out, d.sent = true) ∧
        t.wire = s.wire ++ ((s.link q).out.filter fun c => !c.sent).map (fun c =>
          .plp port q (s.envelope port q) { c.frame with hdr := (s.link q).ackFields c.frame.hdr }) ∧ KeepsMachine s t)

/-- R65, R74, R79, R82, R88-R90: SETLIM, dispatch from a held session, the deadline, the abandon timer, and a rebuild
from the ledger. -/
def Obligations.HamperUpkeep : Prop :=
  ∀ (m : Master) (n b : Nat) (d : Fin 16) (cls : Fin 64) (us : BitVec 32) (q : Req) (s : State),
    (s.bufHolder b = some (n, d.val, q) → (s.session n).at d.val = .queued q → q.hdr.paylen ≠ 0 → q.lim = false →
      b < 131072 → WalkerIdle s →
      let x := s.entry (s.f .HM_BUFIDX_FIRST + b)
      ∃ (t : State) (u : Req), Does (.setlim b) s t ∧
        ((t.session n).at d.val = .queued u ∨ (t.session n).at d.val = .dispatched u) ∧ u = { q with lim := true } ∧
        (t.entry (s.f .HM_BUFIDX_FIRST + b)).limit = (if s.f .HM_BUFIDX_FIRST + b ≠ 0 ∧ x.valid = true ∧ x.quar = false
          then q.hdr.paylen.toNat - 1 else x.limit) ∧ t.mem = s.mem) ∧
    (s.hamper.heldSess = [n] → (s.session n).at 0 = .queued q →
      taskQueue (q.hdr.cls.toNat % 64) = taskQueue cls.val → (q.lim = true ∨ q.hdr.paylen = 0) →
      s.exhausted (.dispatches (q.hdr.cls.toNat % 64)) = false → s.freePlaces (taskQueue (q.hdr.cls.toNat % 64)) ≠ 0 →
      ∃ t, Does (.taskQueueDispatch cls) s t ∧ (t.session n).at 0 = .dispatched q ∧ (t.session n).timer = false ∧
        n ∉ t.hamper.heldSess ∧
        t.spent (.dispatches (q.hdr.cls.toNat % 64)) = s.spent (.dispatches (q.hdr.cls.toNat % 64)) + 1 ∧
        t.mem = s.mem ∧ t.press = s.press) ∧
    (((s.session n).at d.val = .queued q ∨ (s.session n).at d.val = .dispatched q) →
      (q.deadline < s.tickNo → ∃ t, Does (.deadlineDiscard n d) s t ∧ (t.session n).at d.val = .absent ∧
        t.hamper.bufs.find q.buf = some .recycleDue ∧ (d = 0 → n ∉ t.hamper.heldSess) ∧ KeepsMachine s t) ∧
      (s.tickNo ≤ q.deadline → Does (.deadlineDiscard n d) s s)) ∧
    ((s.session n).isOpen = true → (s.session n).timer = true → (s.session n).at 0 = .absent →
      s.hamper.rebuilding = false →
      (s.noRecords = false → FormedRecords s → ∃ t, Does (.abandonTimeout n) s t ∧
        (t.session n).at 0 = .committing none ∧ (t.session n).timer = false ∧ AbandonWaits s t ∧ KeepsCores s t) ∧
      (s.noRecords = true → ∃ t, Does (.abandonTimeout n) s t ∧ (t.session n).at 0 = .absent ∧ t.press = s.press ∧
        KeepsCores s t)) ∧
    (Taken s m 0x40100000 → s.hamper.rebuilding = false → ∃ t, Does (.hamperRebuild m) s t ∧
      t.hamper.rebuilding = true ∧ t.f .HM_CTRL_START = 1 ∧ t.hamperReady = false ∧ t.hamper.sess = emptyMap ∧
      t.press = { s.press with devSlots := s.press.devSlots.filter fun x => !x.isAbandon } ∧ KeepsCores s t) ∧
    (s.hamper.rebuilding = true → ∃ t, Does (.rebuildComplete us) s t ∧ t.hamper.rebuilding = false ∧
      t.f .HM_CTRL_START = 0 ∧ t.f .HM_RBINFO_RBTIME = us.toNat ∧ KeepsMachine s t ∧
      ∀ k, t.session k = ((s.rebuilt.find k).map Rebuilt.sess).getD {})

/-- R31, R103-R109, R123, R430: the Press takes the handover of the request at NEXT and starts its record, holds the
Steward's records, makes a slot durable, rewrites one in place for the patrol, tries a failing write again and then a
spare, and writes its mark cells. Stated where no record on queue 1,009 is of a wrong form, and, of a write that ends,
where nothing of the Steward or the host waits for it. -/
def Obligations.PressWritesTheLedger : Prop :=
  ∀ (r : DevRec) (e : QEnt) (rest : List QEnt) (q : Req) (w : Writing) (s : State), FormedRecords s →
    (s.pressNext = .task → (s.queue 1008).ents = e :: rest →
      (s.checkHandover e = .ok q →
        ∃ (t : State) (v : Writing), Does .handoverTake s t ∧ t.press.writing = some v ∧ v.rec_.lsn = s.nextLsn ∧
          v.rec_.wtick = s.tickNo % 2 ^ 32 ∧ v.tries = 0 ∧ v.spare = false ∧
          v.rec_.body = (if e.hdr.code = 1
            then .accept (s.stampOf e.hdr.session.toNat q (e.taskOf.getD 0)) e.content
            else .reject (s.stampOf e.hdr.session.toNat q (e.taskOf.getD 0)) e.content) ∧
          (t.session e.hdr.session.toNat).at 0 = .committing (some q) ∧ (t.queue 1008).ents = rest ∧
          t.spent (.eng 9) = s.spent (.eng 9) + 1 ∧ t.mem = s.mem ∧ t.cores = s.cores) ∧
      (∀ c, s.checkHandover e = .error c → ∃ t, Does .handoverTake s t ∧ Raised s t .PR_CNTERR_REFUSED ∧
        t.mem = s.mem)) ∧
    (s.fb .PR_STAT_SEALED = false → s.fb .PR_STAT_LFAULT = false → s.press.tampering = false →
      s.press.devQ.length < 16 →
      (s.press.writing.isSome → ∃ t, Does (.deviceRecordSubmit r) s t ∧ t.press.devQ = s.press.devQ ++ [(r, ({} : Serves))] ∧
        t.press.writing = s.press.writing ∧ KeepsCores s t) ∧
      (s.channelFree = true → s.press.recQ = [] → s.press.hdrs = [] → s.taskDue = false → s.press.devSlots = [] →
        s.press.devQ = [] → s.press.finalHdr = none → ∃ t, Does (.deviceRecordSubmit r) s t ∧
          t.press.writing = some { rec_ := ⟨s.nextLsn, s.tickNo % 2 ^ 32, .dev r⟩, src := .devRec } ∧ KeepsCores s t)) ∧
    (s.press.writing = some w → s.ports.hostHeld = [] → s.trust.awaits = [] →
      (w.src ≠ .repair → (∀ h ∈ s.press.hdrs, slotIndex h.lsn ≠ slotIndex w.rec_.lsn) →
        ∃ t, Does (.writeVerifyDone true) s t ∧ t.press.slots.find (slotIndex w.rec_.lsn) = some (.good w.rec_) ∧
        slotIndex w.rec_.lsn ∈ t.press.valid ∧ t.f .PR_NEXTLSN_NEXTLSN = (w.rec_.lsn + 1) % 2 ^ 64 ∧ t.mem = s.mem) ∧
      (w.src = .repair → ∃ t, Does (.writeVerifyDone true) s t ∧ t.press.valid = s.press.valid ∧
        t.press.leaves = s.press.leaves ∧ t.f .PR_NEXTLSN_NEXTLSN = s.f .PR_NEXTLSN_NEXTLSN ∧
        t.f .PR_CNTREC_TASKREC = s.f .PR_CNTREC_TASKREC ∧ t.f .PR_CNTREC_DEVREC = s.f .PR_CNTREC_DEVREC ∧
        t.mem = s.mem) ∧
      (∀ rq h tk st c, w.src = .taskRec rq h tk →
        (w.rec_.body = .accept st c ∨ w.rec_.body = .reject st c) → st.reason = 0 →
        (s.session st.session).isOpen = true → (s.session st.session).epoch = st.epoch →
        (s.session st.session).next = st.reqid → (s.session st.session).closing = none →
        ∃ t, Does (.writeVerifyDone true) s t ∧ (t.session st.session).next = (st.reqid + 1) % 2 ^ 32 ∧
          (t.session st.session).log.head? = some ⟨st.reqid, if w.rec_.body.kind = 1 then 1 else 2, w.rec_.lsn⟩) ∧
      (w.tries = 0 → ∃ t, Does (.writeVerifyDone false) s t ∧ t.press.writing = some { w with tries := 1 } ∧
        Raised s t .PR_CNTERR_VRETRY ∧ KeepsCores s t) ∧
      (w.tries ≠ 0 → w.spare = false → s.press.sparesUsed < 8192 → ∃ t, Does (.writeVerifyDone false) s t ∧
        t.press.writing = some { w with tries := 0, spare := true } ∧ t.press.sparesUsed = s.press.sparesUsed + 1 ∧
        slotIndex w.rec_.lsn ∈ t.press.remapped ∧ KeepsCores s t) ∧
      (w.tries ≠ 0 → (w.spare = true ∨ 8192 ≤ s.press.sparesUsed) → ∃ t, Does (.writeVerifyDone false) s t ∧
        t.press.writing = none ∧
        t.f .PR_STAT_LFAULT = 1 ∧ slotIndex w.rec_.lsn ∉ t.press.valid ∧ t.press.hdrs = [] ∧ t.mem = s.mem)) ∧
    (s.tick.running = true → s.press.parked = false → s.press.tickMarks.foldl max 0 ≤ s.tickNo + s.ticksPerSecond →
      ∃ t, Does .tickMarkWrite s t ∧
        t.press.tickMarks = List.take 16 ((s.tickNo + 2 * s.ticksPerSecond) :: s.press.tickMarks) ∧ KeepsCores s t) ∧
    (s.press.recovered = true → s.press.parked = false → ∃ t, Does .archiveMarkWrite s t ∧
      t.press.archMarks = List.take 64 (s.f .PR_ARCHLSN_ARCHLSN :: s.press.archMarks) ∧ KeepsCores s t)

/-- R120-R124, R370, R371: segments go to the drive, their completions move PR_ARCHLSN, errors and timeouts stall the
archive, a retry starts from PR_ARCHLSN; drives bind, and the Archive Port's link comes and goes. -/
def Obligations.ArchiveDrainsTheLedger : Prop :=
  ∀ (b : Bool) (g : Seg) (d : Drive) (warn : Byte) (s : State),
    (s.archiveOpen = true → (s.press.segs.filter Seg.outstanding).length < 8 → (∀ x ∈ s.press.segs, x.reissue = false) →
      s.press.retrying = false → s.press.issued < s.nextLsn → (256 ≤ s.nextLsn - s.press.issued ∨ b = true) →
      ArchiveAdmits s →
      let n := s.blockStart s.press.issued
      ∃ t, Does (.archiveSegmentIssue b) s t ∧ Issued s t n ∧
        t.press.segs = s.press.segs ++ [{ first := n, count := s.segCount n, tries := 0 }] ∧
        t.press.issued = max s.press.issued (n + s.segCount n) ∧ KeepsCores s t) ∧
    (s.press.segs = [g] → g.drained = false → g.reissue = false →
      (g.first ≤ s.f .PR_ARCHLSN_ARCHLSN → s.f .PR_ARCHLSN_ARCHLSN < g.first + g.count →
        ∃ t, Does (.segmentComplete g.first true) s t ∧ t.f .PR_ARCHLSN_ARCHLSN = (g.first + g.count) % 2 ^ 64 ∧
          t.press.segs = [] ∧ Raised s t .AP_CNT_CMDS ∧ t.mem = s.mem) ∧
      (g.tries < 3 → s.archiveOpen = false → ∃ t, Does (.segmentComplete g.first false) s t ∧
        t.press.segs = [{ g with reissue := true, tries := g.tries + 1 }] ∧ Raised s t .PR_CNTARC_AERR ∧ KeepsCores s t) ∧
      (3 ≤ g.tries → ∃ t, Does (.segmentComplete g.first false) s t ∧ t.press.segs = [] ∧ t.f .PR_STAT_ASTALL = 1 ∧
        t.press.retrying = true ∧ t.press.issued = s.f .PR_ARCHLSN_ARCHLSN ∧ t.mem = s.mem) ∧
      (∃ t, Does (.segmentTimeout g.first) s t ∧ t.press.segs = [] ∧ t.f .PR_STAT_ASTALL = 1 ∧
        t.press.retrying = true ∧ Raised s t .PR_CNTARC_ATMO ∧ t.mem = s.mem)) ∧
    (s.press.retrying = true → s.archiveOpen = true → s.press.segs.filter Seg.outstanding = [] →
      s.f .PR_ARCHLSN_ARCHLSN < s.nextLsn → ArchiveAdmits s →
      let n := s.blockStart (s.f .PR_ARCHLSN_ARCHLSN)
      ∃ t, Does .archiveRetryTimer s t ∧ Issued s t n ∧
        t.press.segs = [{ first := n, count := s.segCount n, tries := 0 }] ∧ KeepsCores s t) ∧
    (s.archiveEnabled = true →
      (∃ t, Does (.driveBind none) s t ∧ t.press.bound = false ∧ t.f .PR_STAT_ASTALL = 1 ∧ t.mem = s.mem) ∧
      (s.ports.archiveLink = true → s.admits (.eng 19) = true →
        (d.suitable = false → ∃ t, Does (.driveBind (some d)) s t ∧ t.press.bound = false ∧ t.f .PR_STAT_ASTALL = 1) ∧
        (d.suitable = true → (∀ x ∈ fitTo 32768 d.label, x = 0) → ∃ t, Does (.driveBind (some d)) s t ∧
          t.press.bound = true ∧ t.f .PR_CTRL_ARCHEN = 1 ∧ t.press.issued = s.f .PR_ARCHLSN_ARCHLSN ∧
          t.wire = s.wire ++ [.nvmeWrite 0 (s.labelBytes d.lbas (s.f .PR_ARCHLSN_ARCHLSN) (capsegOf d))] ∧
          KeepsCores s t))) ∧
    (s.fb .P_CTRL_ENABLE 9 = true → s.portDown 9 = false → ∃ t, Does .archiveLinkUp s t ∧ t.ports.archiveLink = true ∧
      t.f .P_STAT_LINK 9 = 1 ∧ (s.archiveEnabled = true → t.press.binding = true) ∧ KeepsCores s t) ∧
    (s.ports.archiveLink = true → ∃ t, Does .archiveLinkDown s t ∧ t.ports.archiveLink = false ∧ t.press.bound = false ∧
      t.press.segs = [] ∧ t.f .P_STAT_LINK 9 = 0 ∧ t.f .PR_STAT_ASTALL = 1 ∧ t.mem = s.mem) ∧
    (s.press.binding = true → s.ports.archiveLink = false → s.archiveEnabled = true → ∃ t, Does .bindLinkTimeout s t ∧
      t.press.binding = false ∧ t.f .PR_STAT_ASTALL = 1 ∧ t.mem = s.mem) ∧
    (s.ports.archiveLink = true → s.press.bound = true → s.admits (portMeter 9) = true →
      ∃ t, Does (.smartLogTimer warn) s t ∧ t.dict.vals.find (0x3411, 5) = some [warn] ∧
        t.wire = s.wire ++ [.nvmeLogPage] ∧ KeepsMachine s t)

/-- R109, R125, R127-R129, R427, R428: a power-fail warning stops the Press, the cores, the engines and the ports, and
abandons the store buffers; the device's own BOR follows once the rails held, with the write in progress complete and the
park flag set. Recovery loads PR_NEXTLSN behind the newest slot and starts a Tick Unit that does not run above the tick
mark, the TICK of the newest header in the ring and that of the block it closes; a blank ring on a die with marks is a
ledger fault. Where a write or a recovery is under way, and on a ledger that takes no writes any more, it does nothing. -/
def Obligations.PowerFailAndRecovery : Prop :=
  ∀ (m : Master) (rail : BitVec 3) (s : State),
    (s.power.warned = false → ∃ t, Does (.powerFailWarning rail) s t ∧ t.power.warned = true ∧ t.press.parked = true ∧
      t.pressNext = .none ∧ t.issueOff = true ∧ t.enginesOff = true ∧ (∀ port, t.portDown port = true) ∧
      (∀ k, k ∈ s.cores.keys → (t.core k).store = []) ∧ t.mem = s.mem ∧ t.press.slots = s.press.slots ∧
      t.press.writing = s.press.writing) ∧
    (s.power.warned = true → Does (.powerFailWarning rail) s s) ∧
    (s.power.warned = true → ∃ t, Does .powerFailBorTimer s t ∧ t.press.parkFlag = true ∧ t.f .PW_RSTAT_CAUSE = 2 ∧
      t.trust.bootDue = true ∧ t.mem = [] ∧ t.press.writing = none ∧
      (∀ w, s.press.writing = some w → w.src ≠ .repair →
        t.press.slots.find (slotIndex w.rec_.lsn) = some (.good w.rec_)) ∧
      ((∀ w, s.press.writing = some w → w.src = .repair) → t.press.slots = s.press.slots)) ∧
    (s.power.warned = false → Does .powerFailBorTimer s s) ∧
    (Taken s m 0x40200000 →
      (s.press.writing = none → s.press.recQ = [] → s.fb .PR_STAT_LFAULT = false → s.fb .PR_STAT_SEALED = false →
        s.press.tampering = false →
        (s.newestFirst = [] → ∃ t, Does (.ledgerRecovery m) s t ∧ t.press.recovered = true ∧ t.nextLsn = 0 ∧
          t.f .PR_LASTBLK_LASTBLK = 2 ^ 64 - 1 ∧ t.f .PR_LASTSIG_LASTSIG = 2 ^ 64 - 1 ∧ t.tick.running = true ∧
          (s.tick.running = false → t.tickNo = (s.tickMark + 1) % 2 ^ 64) ∧
          (s.tick.running = true → t.tickNo = s.tickNo) ∧
          (s.press.archMarks = [] ∧ s.press.tickMarks = [] → t.fb .PR_STAT_LFAULT = false) ∧
          (s.press.archMarks ≠ [] ∨ s.press.tickMarks ≠ [] → t.f .PR_STAT_LFAULT = 1) ∧ t.mem = s.mem ∧
          t.press.slots = s.press.slots) ∧
        (∀ r l, s.newestFirst = r :: l → ∃ (t : State) (n : Nat), Does (.ledgerRecovery m) s t ∧
          t.press.recovered = true ∧ t.nextLsn = (r.lsn + 1) % 2 ^ 64 ∧ t.tick.running = true ∧
          (s.tick.running = false → t.tickNo = n % 2 ^ 64 ∧ s.tickMark < n ∧
            (∀ h, s.ringHeaders.head? = some h → h.hdrTick < n) ∧ (∀ h, t.press.newest = some h → h.hdrTick < n)) ∧
          (s.tick.running = true → t.tickNo = s.tickNo) ∧ t.mem = s.mem)) ∧
      ((s.press.writing ≠ none ∨ s.press.recQ ≠ [] ∨ s.fb .PR_STAT_LFAULT = true ∨ s.fb .PR_STAT_SEALED = true ∨
        s.press.tampering = true) → Does (.ledgerRecovery m) s (counted s m 0x40200000)))

/-- R134-R144, R329: lookups are taken from queue 1,010, wait while the Guard holds their reads, and are answered with
R135's code, the entry and TABLESEQ; damaged buckets are mended where the Guard lets the Steward; a list is applied, its
record submitted, the switch armed, and the home copy restored. -/
def Obligations.WatchCommands : Prop :=
  ∀ (m : Master) (e : QEnt) (rest : List QEnt) (l : Lookup) (ls : List Lookup) (i : Inst) (tag : BitVec 32) (b : Bytes)
    (n : Nat) (s : State),
    (s.enginesOff = false → s.watch.lookups.length < 32 → s.nextLookup = some (e, rest) →
      (s.lookupHeld e = true → Does .watchLookupTake s s) ∧
      (s.lookupHeld e = false → ∃ t, Does .watchLookupTake s t ∧ t.watch.lookups = s.watch.lookups ++ [s.startLookup e] ∧
        (t.queue 1010).ents = rest ∧ t.mem = s.mem ∧ t.cores = s.cores ∧
        t.spent (.eng 8) = s.spent (.eng 8) + (if e.isTask then 1 else 0))) ∧
    (s.watch.lookups = l :: ls → ∃ t, Does .watchLookupComplete s t ∧ t.watch.lookups = ls ∧
      Completed s t l.ent.hdr.replyq.toNat
        { blankHdr 2 with session := l.ent.hdr.session, epoch := l.ent.hdr.epoch, reqid := l.ent.hdr.reqid,
                          code := BitVec.ofNat 8 (lookupCode s l), paylen := 32, handle := BitVec.ofNat 64 l.tableSeq }
        (if lookupCode s l = 1 ∨ lookupCode s l = 3 ∨ lookupCode s l = 4 then l.found.getD (zeros 32) else zeros 32) ∧
      t.mem = s.mem) ∧
    (s.watch.badHome.contains n = true → s.watch.badShadow.contains n = false →
      s.stewardAdmits false (s.watchBase true + 64 * n) 64 = true → s.stewardAdmits true (0x2F0000000 + 64 * n) 64 = true →
      ∃ t, Does (.watchBucketRepair n) s t ∧
      t.mem = (s.putBytes (0x2F0000000 + 64 * n) (s.bytes (s.watchBase true + 64 * n) 64)).mem ∧
      n ∉ t.watch.badHome ∧ t.cores = s.cores) ∧
    (s.watch.badHome.contains n = false → s.watch.badShadow.contains n = true →
      s.stewardAdmits true (s.watchBase true + 64 * n) 64 = true → s.stewardAdmits false (0x2F0000000 + 64 * n) 64 = true →
      ∃ t, Does (.watchBucketRepair n) s t ∧
      t.mem = (s.putBytes (s.watchBase true + 64 * n) (s.bytes (0x2F0000000 + 64 * n) 64)).mem ∧
      n ∉ t.watch.badShadow ∧ t.cores = s.cores) ∧
    (s.watch.badHome.contains n = true → s.watch.badShadow.contains n = true → ∃ t, Does (.watchBucketRepair n) s t ∧
      0xFF03 ∈ t.emcyOn ∧ KeepsMachine s t) ∧
    (∀ x t, s.serves i = true → s.storedAnswer i tag = none → s.checkAccess i 0x2A10 0 = .ok x →
      x.ty.lengthCode b.length = none →
      s.takeList i b { inst := some i, tag := tag, index := 0x2A10, sub := 0 } = .ok t →
      Does (.watchListWrite i tag b) s t ∧
        t.watch.list = some (.recordDue (fieldAt b 12 4) (fieldAt b 20 4) (s.tickNo + 2) (sha512 b)
          (decide (fieldAt b 9 1 = 1))) ∧ t.f .WT_SEQ_NEXTSEQ = fieldAt b 12 4 % 2 ^ 32) ∧
    (Taken s m 0x40300020 → s.watch.list = none → s.f .WT_PEND_ARM = 0 →
      (s.tickNo < s.f .WT_PENDAT_ATTICK → ∃ t, Does (.wtPendArm m) s t ∧ t.f .WT_PEND_ARM = 1 ∧ KeepsMachine s t) ∧
      (s.f .WT_PENDAT_ATTICK ≤ s.tickNo → ∃ t, Does (.wtPendArm m) s t ∧ t.f .WT_PEND_ARM = 0 ∧
        t.f .WT_STAT_PENDERR = 1 ∧ KeepsMachine s t)) ∧
    (∀ f, Taken s m 0x40300020 → s.watch.list = some (.switched f) → s.watchOpen = true →
      ∃ t, Does (.watchRestoreRequest m) s t ∧
      t.f .WT_PEND_RESTORE = 1 ∧ t.watch.list = some .restoring ∧ t.watch.badHome = s.watch.badShadow ∧
      t.mem = (s.copyRange (s.watchBase true) 0x2F0000000 67108864).mem ∧ t.cores = s.cores)

/-- R45, R46, R145, R149, R154, R463: an idle READY engine takes the item that R46's order gives, if it is of this
operation, or of none, which ends FORMAT; a task's job is charged to the engine's meter, one of the Press or the Steward
is not. -/
def Obligations.SealEnginesStartJobs : Prop :=
  ∀ (e : Fin 8) (x : Instr × Nat) (s : State), x ∈ sealStarts e → s.enginesOff = false → s.engineReady e.val = true →
    (s.engine e.val).running = none →
    (∀ j rest, s.nextItem e.val = some (.press j, rest) → (SealItem.press j).code = x.2 →
      ∃ t, Does x.1 s t ∧ t.engine e.val = { queue := rest, running := some (s.startPress j).1 } ∧
        t.mem = s.mem ∧ t.meters = s.meters ∧ t.cores = s.cores) ∧
    (∀ j rest, s.nextItem e.val = some (.key j, rest) → (SealItem.key j).code = x.2 →
      ∃ t, Does x.1 s t ∧ t.engine e.val = { queue := rest, running := some (s.startKey j).1 } ∧
        t.mem = s.mem ∧ t.meters = s.meters ∧ t.cores = s.cores) ∧
    (∀ d rest r u, s.nextItem e.val = some (.desc d, rest) →
      ((SealItem.desc d).code = x.2 ∨ (SealItem.desc d).code ∉ sealCodes) →
      (if (SealItem.desc d).isTask then s.charge (.eng e.val) 1 else s).startDesc e.val (sealDesc d) = some (r, u) →
      ∃ t, Does x.1 s t ∧ t.engine e.val = { queue := rest, running := some r } ∧
        t.spent (.eng e.val) = s.spent (.eng e.val) + (if (SealItem.desc d).isTask then 1 else 0) ∧
        t.f .SE_CUR_OP e.val = r.hdr.code.toNat % 2 ^ 8 ∧ ((SealItem.desc d).code ∉ sealCodes → r.out.status = 14) ∧
        t.mem = s.mem ∧ t.cores = s.cores) ∧
    (∀ i rest, s.nextItem e.val = some (i, rest) → i.code ≠ x.2 → i.code ∈ sealCodes → Does x.1 s s)

/-- R148-R152, R155, R326: the checks at the start of a descriptor's job in order, and the outcome of one that passes. The
signature that ED-VERIFY checks, which no operand of R148 names, is a free value (log entry 127); that a KEYDESTROY of
slots 0 to 6 ends KEYDENIED is the model's reading (log entry 128). -/
def Obligations.SealJobsCheckAndCompute : Prop :=
  ∀ (e : Fin 8) (d : SealDesc) (s : State),
    (d.formOk = false → s.startDesc e.val d = some (stoppedJob d (14, 0), s)) ∧
    (d.formOk = true → 16 ≤ d.len0 →
      (needsEntropy d.hdr.code.toNat = true → s.seals.entFail = true → s.startDesc e.val d = some (stoppedJob d (13, 0), s)) ∧
      (needsEntropy d.hdr.code.toNat = false →
        (∀ c, stewardOnly d.hdr.code.toNat = false → keyNeed d.hdr.code.toNat = some c →
          s.mayUse d.by_ (d.keyh % 1024) = false →
          s.startDesc e.val d = some (stoppedJob d (9, d.keyh % 1024), s)) ∧
        (∀ c, stewardOnly d.hdr.code.toNat = false → keyNeed d.hdr.code.toNat = some c →
          s.mayUse d.by_ (d.keyh % 1024) = true → (s.key (d.keyh % 1024)).key = none →
          s.startDesc e.val d = some (stoppedJob d (10, d.keyh % 1024), s)) ∧
        (stewardOnly d.hdr.code.toNat = true → d.by_.isSteward = false →
          ∃ k, s.startDesc e.val d = some (stoppedJob d (9, k), s)) ∧
        (d.hdr.code = 18 → d.keyh % 1024 < 7 →
          s.startDesc e.val d = some (stoppedJob d (9, d.keyh % 1024), s)) ∧
        (d.hdr.code = 6 → ∀ i, s.checkOperands e.val d [(0, false, d.len0), (2, true, 64)] = .error (some i) →
          s.startDesc e.val d = some (stoppedJob d (8, i.num), s.noteOperand i)) ∧
        (d.hdr.code = 6 → ∀ a b, s.checkOperands e.val d [(0, false, d.len0), (2, true, 64)] = .ok [(0, a), (2, b)] →
          ∃ r u, s.startDesc e.val d = some (r, u) ∧
            r.out = { status := 1, writes := [(b, bvBytes 64 (sha512 (s.targetBytes a d.len0)))] }) ∧
        (d.hdr.code = 1 → ∀ a b,
          s.checkOperands e.val d [(0, false, d.len0), (1, false, 32)] = .ok [(0, a), (1, b)] →
          let sig := bvBytes 64 (Config.edSignature s.draw.1)
          ∃ r u, s.startDesc e.val d = some (r, u) ∧
            r.out = { status := if edVerified (s.targetBytes b 32) (s.targetBytes a d.len0) sig then 1 else 2 })))

/-- R149-R152, R155, R351, R463: the end of a job writes its output and its key slot, posts its completion, or holds the
result of a key command, and frees the engine; a fault ends the engine's jobs; the entropy source fails and recovers; the Steward clears a fault. -/
def Obligations.SealEnginesEndJobs : Prop :=
  ∀ (m : Master) (e : Fin 8) (r : Running) (s : State),
    ((s.engine e.val).running = some r → r.job = none → s.seals.keyJobs = [] → s.mustWait e.val r = false →
      (r.keyJob = none → ∃ t, Does (.sealJobComplete e) s t ∧ (t.engine e.val).running = none ∧
        Completed s t r.hdr.replyq.toNat (sealCompletion r.hdr r.out.status r.out.detail) [] ∧
        Raised s t .SE_CNTJOB_JOBS e.val ∧
        t.mem = (r.out.writes.foldl (fun (u : State) w => u.putBytes w.1 w.2) s).mem ∧
        (∀ k v, r.out.key = some (k, v) → (t.key k).key = v) ∧ (r.out.key = none → t.seals.keys = s.seals.keys)) ∧
      (∀ j, r.keyJob = some j → r.out.status ≠ 13 → ∃ t, Does (.sealJobComplete e) s t ∧
        (t.engine e.val).running = none ∧ t.dict.vals.find (0x2C20, 3) = some [BitVec.ofNat 8 r.out.status] ∧
        Raised s t .SE_CNTJOB_JOBS e.val ∧ (∀ k v, r.out.key = some (k, v) → (t.key k).key = v))) ∧
    ((s.engine e.val).running = some r → s.mustWait e.val r = true → Does (.sealJobComplete e) s s) ∧
    (∀ b, (b = false ∨ s.signing e.val = true) → ∃ t, Does (.sealEngineFault e b) s t ∧
      t.f .SE_STAT_FAULT e.val = 1 ∧ (t.engine e.val).running = none ∧ (t.engine e.val).queue = [] ∧
      0xFF05 ∈ t.emcyOn ∧ t.mem = s.mem) ∧
    (∃ t, Does .entropyFail s t ∧ t.seals.entFail = true ∧ 0xFF06 ∈ t.emcyOn ∧ KeepsMachine s t) ∧
    (∃ t, Does .entropyRecover s t ∧ t.seals.entFail = false ∧ 0xFF06 ∉ t.emcyOn ∧ KeepsMachine s t) ∧
    (Taken s m (0x40400008 + 0x1000 * e.val) → ∃ t, Does (.seFaultClear m e) s t ∧ t.f .SE_STAT_FAULT e.val = 0 ∧
      t.mem = s.mem ∧ t.cores = s.cores)

/-- R361, R364, R365, R464: a Lane Port takes the frames that are for it, answers ARP, drops and counts the others,
timestamps PTP event messages, and loses what it holds when its link fails. -/
def Obligations.LanePortCommands : Prop :=
  ∀ (p : Fin 8) (x : EthFrame) (mt : BitVec 4) (seq : BitVec 16) (s : State),
    (s.fb .P_CTRL_ENABLE p.val = true → s.portDown p.val = false →
      (x.content ≠ .pause → s.laneTakes p.val x = true → s.isPlp p.val x.content = true →
        rxFill (s.rxQueue p.val) + 64 * divUp x.len 64 ≤ 262144 →
        ∃ t, Does (.laneFrameReceive p x) s t ∧
          t.rxQueue p.val = s.rxQueue p.val ++ [⟨x.content, x.len, s.rxAdmits p.val⟩] ∧
          Raised s t .LP_CNTRX_PLPFRAMES p.val ∧ t.f .P_STAT_FAULT p.val = 0 ∧ KeepsMachine s t) ∧
      (x.content ≠ .pause → s.laneTakes p.val x = false → ∃ t, Does (.laneFrameReceive p x) s t ∧
        Raised s t .LP_CNTRX_DROPS p.val ∧ t.rxQueue p.val = s.rxQueue p.val ∧ KeepsMachine s t) ∧
      (x.content = .pause → x.fcsOk = true → ∃ t, Does (.laneFrameReceive p x) s t ∧ Raised s t .LP_CNTTX_PAUSE p.val ∧
        t.rxQueue p.val = s.rxQueue p.val ∧ KeepsMachine s t) ∧
      (x.fcsOk = false → ∃ t, Does (.laneFrameReceive p x) s t ∧ Raised s t .LP_CNTRX_FCSERR p.val ∧
        Raised s t .LP_CNTRX_DROPS p.val ∧ t.f .LP_CNTTX_PAUSE p.val = s.f .LP_CNTTX_PAUSE p.val ∧
        t.rxQueue p.val = s.rxQueue p.val ∧ KeepsMachine s t) ∧
      (∀ a, x.content = .arp a → s.laneUp p.val = true → s.laneTakes p.val x = true → s.rxAdmits p.val = true →
        s.fb .LP_CFG_IP4EN p.val = true → a.toNat = s.f .LP_IP4_ADDR p.val → ∃ t, Does (.laneFrameReceive p x) s t ∧
          t.wire = s.wire ++ [.arpReply p.val] ∧ t.spent (portMeter p.val) = s.spent (portMeter p.val) + 1 ∧
          KeepsMachine s t)) ∧
    (s.fb .P_CTRL_ENABLE p.val = false → Does (.laneFrameReceive p x) s s) ∧
    (s.fb .P_CTRL_ENABLE p.val = true → s.portDown p.val = false → mt.toNat < 4 →
      (∃ t, Does (.ptpEventMessage p true mt seq none) s t ∧ t.f .LP_TSTX_TIME p.val = s.ns % 2 ^ 64 ∧
        t.f .LP_TSID_TXSEQ p.val = seq.toNat ∧ t.f .LP_TSID_TXTYPE p.val = mt.toNat ∧ KeepsMachine s t) ∧
      (∃ t, Does (.ptpEventMessage p false mt seq none) s t ∧ t.f .LP_TSRX_TIME p.val = s.ns % 2 ^ 64 ∧
        t.f .LP_TSID_RXSEQ p.val = seq.toNat ∧ t.f .LP_TSID_RXTYPE p.val = mt.toNat ∧ KeepsMachine s t)) ∧
    (s.fb .P_CTRL_ENABLE p.val = true →
      (∃ t, Does (.lanePortFault p true 0) s t ∧ p.val ∈ t.ports.laneDown ∧ t.rxQueue p.val = [] ∧ t.laneUp p.val = false ∧
        KeepsMachine s t) ∧
      (∃ t, Does (.lanePortFault p false 0) s t ∧ t.f .P_STAT_FAULT p.val = 1 ∧ t.rxQueue p.val = [] ∧
        t.laneUp p.val = false ∧ KeepsMachine s t))

/-- R344, R345, R347, R358: a read answers the entry's bytes from an offset, a write puts its value in force or aborts,
and an idle transfer is aborted. -/
def Obligations.DictionaryReadsAndWrites : Prop :=
  ∀ (i : Inst) (q : Mgmt) (e : DEntry) (s : State),
    let v := asksOf i q
    let b := fitTo q.len q.data
    (s.serves .mailbox = true → s.storedAnswer .mailbox q.tag = none → q.flags.toNat < 2 → q.rsvZero = true →
      checkRead .mailbox v.index v.sub = .ok e → q.index ≠ 0x4001 → q.index ≠ 0x4060 →
      let d := sliceAt (s.entryBytes (some .mailbox) v.index v.sub e) q.ofs (min q.len 4032)
      ∃ (t : State) (fin : Nat), Does (.dictRead .mailbox q) s t ∧
        t.mailOut = s.mailOut ++ [mgmtBytes 0x81 fin v.index v.sub q.tag q.ofs 0 d] ∧ t.dict = s.dict ∧ KeepsBlock s t) ∧
    (∀ c, s.serves i = true → s.storedAnswer i q.tag = none → q.flags.toNat < 2 → q.rsvZero = true →
      checkRead i v.index v.sub = .error c → Does (.dictRead i q) s (s.abortWrite v c)) ∧
    (∀ c, s.serves i = true → s.storedAnswer i q.tag = none → q.flags.toNat < 2 → q.rsvZero = true →
      s.checkAccess i v.index v.sub = .error c →
      ∃ t, Does (.dictWrite i q) s t ∧ t.dict.vals = s.dict.vals ∧ t.trust = s.trust ∧ KeepsBlock s t) ∧
    (∀ u, Accepts s i q.tag v.index v.sub e b.length → bitOf q.flags.toNat 0 = true → q.flags.toNat < 2 →
      q.rsvZero = true → q.ofs = 0 → s.transferOf v i = none →
      v.index ∉ [0x1010, 0x1011, 0x2A10, 0x2C20, 0x3000, 0x3800, 0x3C00, 0x4002, 0x4003, 0x4010, 0x4020, 0x4030, 0x4070] →
      (v.index < 0x3C01 ∨ 0x3C14 < v.index) → s.plainWrite v.index v.sub e b = .ok u →
      ∃ t, Does (.dictWrite i q) s t ∧ t.dict.vals = u.dict.vals ∧ t.mem = u.mem ∧ t.cores = u.cores ∧
        (e.cls = .p → t.dict.retained.find (v.index, v.sub) = some b) ∧
        (e.src = .held → t.dict.vals.find (v.index, v.sub) = some b) ∧
        (∀ x k, e.src = .fld x k → x ∈ [.LP_CFG_MAXFRM, .LP_CFG_UDPPORT, .SL_CFG_POLLMAP, .PW_WDCFG_PERIOD] →
          t.f x k = leNat b % 2 ^ x.width)) ∧
    (∀ t l, s.dict.transfers.get [] i = t :: l → ∃ u, Does (.domainIdleTimeout i) s u ∧
      u.dict.transfers.get [] i = (t :: l).filter (fun x => !(x.index = t.index && x.sub = t.sub)) ∧ KeepsBlock s u)

/-- R340, R348, R351, R354, R463: parameters are saved and marked for their defaults; a signed change waits for its
record, is armed, and starts at its tick; the Guard's update is asked for; a key command gives its slot a type, an owner
and the VOLATILE flag and becomes a job on the READY engine with the shortest queue, or waits for a place there (its end
and its answer are SealEnginesEndJobs's). -/
def Obligations.DictionaryCommands : Prop :=
  ∀ (i : Inst) (tag : BitVec 32) (sub : Byte) (v : BitVec 32) (w : Word) (r : Bytes) (e : DEntry) (s : State),
    let k := bitsOf w.toNat 8 10
    (Accepts s i tag 0x1010 sub.toNat e 4 → s.checkValue 0x1010 sub.toNat e (leBytes 4 v.toNat) = .ok () →
      ∃ t, Does (.storeParameters i tag sub v) s t ∧ t.dict = (s.storeParams sub.toNat).dict ∧ KeepsBlock s t) ∧
    (Accepts s i tag 0x1011 sub.toNat e 4 → s.checkValue 0x1011 sub.toNat e (leBytes 4 v.toNat) = .ok () →
      ∃ t, Does (.restoreDefaults i tag sub v) s t ∧ sub.toNat ∈ t.dict.toDefault ∧ t.dict.vals = s.dict.vals ∧
        KeepsBlock s t) ∧
    (∀ x u, Accepts s i tag 0x4020 0 e r.length → s.roleOf i = some x →
      s.takeChange i x r (asks i tag 0x4020 0) = .ok u →
      ∃ t c, Does (.changeRequest i tag r) s t ∧ t.dict.changes.getLast? = some c ∧ c.index = fieldAt r 10 2 ∧
        c.sub = fieldAt r 12 1 ∧ c.value = sliceAt r 64 (fieldAt r 14 2) ∧ c.armed = false ∧
        c.efftick = s.effTick (fieldAt r 24 8) ∧ t.mem = s.mem) ∧
    (∀ c rec rest, s.dict.changes = [c] → c.index = 0x2000 → c.sub = sub.toNat → c.armed = false →
      takeConfig c.index c.sub s.press.devDone = some (rec, rest) →
      (s.tickNo < c.efftick → ∃ t, Does (.changeArm 0x2000 sub) s t ∧ t.dict.changes = [{ c with armed := true }] ∧
        t.f .TU_PEND_ARM = 1 ∧ t.f .TU_PENDAT_ATTICK = c.efftick % 2 ^ 64 ∧
        t.f .TU_PEND_NEWPERIOD = leNat c.value % 2 ^ 2 ∧ t.press.devDone = rest ∧ t.mem = s.mem) ∧
      (c.efftick ≤ s.tickNo → ∃ t, Does (.changeArm 0x2000 sub) s t ∧ t.dict.changes = [] ∧
        t.f .TU_PEND_ARM = s.f .TU_PEND_ARM ∧ t.mem = s.mem)) ∧
    (∀ b, Accepts s i tag 0x3000 4 e 1 → s.checkValue 0x3000 4 e [b] = .ok () →
      ((s.setF .FG_UPD_NRANGE s.dict.ranges).badUpdate = false → ∃ t, Does (.fgApply i tag b) s t ∧
        t.f .FG_UPD_HOLD = 1 ∧ t.f .FG_UPD_COMMIT = 1 ∧ t.guard.held.isSome ∧ KeepsMachine s t) ∧
      ((s.setF .FG_UPD_NRANGE s.dict.ranges).badUpdate = true → ∃ t, Does (.fgApply i tag b) s t ∧
        t.f .FG_STAT_CFGERR = 1 ∧ t.guard = s.guard ∧ KeepsMachine s t)) ∧
    (∀ b x, (b = 1 ∧ x = Instr.keyCmdKeygen i tag w) ∨ (b = 2 ∧ x = Instr.keyCmdKeyimport i tag w) ∨
        (b = 3 ∧ x = Instr.keyCmdKeydestroy i tag w) →
      let c := BitVec.ofNat 8 b :: (leBytes 8 w.toNat).drop 1
      let job : KeyJob := { cmd := leNat c, serves := asks i tag 0x2C20 1, old := s.key k }
      Accepts s i tag 0x2C20 1 e 8 → s.checkValue 0x2C20 1 e c = .ok () → s.anyReady = true →
      ∃ t, Does x s t ∧ (t.key k).key = (s.key k).key ∧ (t.key k).kgen = (s.key k).kgen ∧
        (b ≠ 3 → (t.key k).ty = bitsOf w.toNat 24 8 ∧ (t.key k).owner = bitsOf w.toNat 32 16 ∧
          (t.key k).isVolatile = bitOf w.toNat 48) ∧ (b = 3 → t.key k = s.key k) ∧
        (∀ f, s.shortest (numsFrom 0 8) = some f → (s.engine f).queue.length < sealDepth →
          (t.engine f).queue = (s.engine f).queue ++ [.key job]) ∧
        (∀ f, s.shortest (numsFrom 0 8) = some f → sealDepth ≤ (s.engine f).queue.length →
          t.seals.keyJobs = s.seals.keyJobs ++ [job]) ∧ KeepsBlock s t)

/-- R350, R357, R373, R374, R387: the CAN ports' heartbeat, TPDOs, NMT services, received frames and recovery from bus-off. -/
def Obligations.CanPortCommands : Prop :=
  ∀ (c : CanPort) (n : Fin 4) (f : CanFrame) (s : State),
    let p := 10 + c.val
    (s.heartbeatOff = true → Does .heartbeat s s) ∧
    (s.dict.loaded = true → s.heartbeatOff = false → s.fieldUp 10 = true → s.fieldUp 11 = false → ∃ t, Does .heartbeat s t ∧
      t.wire = s.wire ++ [.canHeartbeat 0 s.nmtState] ∧
      (s.fb .P_CTRL_ENABLE 8 = true → s.mailOut.length < 16 →
        t.mailOut = s.mailOut ++ [mgmtBytes 0x91 0 0 0 0 0 0 (leBytes 1 s.nmtState)]) ∧ KeepsMachine s t) ∧
    (s.dict.loaded = true → s.fieldUp p = true → c.val ∉ s.ports.canStopped → s.tpdoOn n.val = true →
      ∃ t, Does (.tpdoEvent c n) s t ∧ t.wire = s.wire ++ [.canTpdo c n.val (s.tpdoData n.val)] ∧ KeepsMachine s t) ∧
    (s.fieldUp p = true → ∃ t, Does (.nmtStop c) s t ∧ c.val ∈ t.ports.canStopped ∧ t.ctl = s.ctl ∧ KeepsMachine s t) ∧
    (∀ x, x = Instr.nmtResetCommunication c ∨ x = Instr.nmtResetNode c → s.fieldUp p = true → ∃ t, Does x s t ∧
      t.canHeld c = [] ∧ c.val ∉ t.ports.canStopped ∧ t.roleOf (canServer c) = none ∧
      t.f .CN_CNT_RXFRAMES p = 0 ∧ t.f .CN_CNT_TEC p = 0 ∧ KeepsMachine s t) ∧
    (s.fieldUp p = true → s.inStandby = false → s.canHeld c = [] → s.admits (portMeter p) = true →
      (∃ t, Does (.canFrameReceive c .other) s t ∧ Raised s t .CN_CNT_RXFRAMES p ∧
        t.spent (portMeter p) = s.spent (portMeter p) + 1 ∧ KeepsMachine s t) ∧
      (∃ t, Does (.canFrameReceive c (.nmt 2 0)) s t ∧ c.val ∈ t.ports.canStopped ∧ KeepsMachine s t)) ∧
    (s.fieldUp p = true → s.inStandby = false → s.admits (portMeter p) = false →
      ((s.canHeld c).length < 64 → ∃ t, Does (.canFrameReceive c f) s t ∧ t.canHeld c = s.canHeld c ++ [f] ∧
        Raised s t .CN_CNT_RXFRAMES p ∧ KeepsMachine s t) ∧
      (64 ≤ (s.canHeld c).length → ∃ t, Does (.canFrameReceive c f) s t ∧ t.canHeld c = s.canHeld c ∧
        Raised s t .ENG_OVR_DROPS (10 + p) ∧ KeepsMachine s t)) ∧
    (s.fb .P_STAT_FAULT p = true → s.isLimited p = false → s.fb .P_CTRL_ENABLE p = true → s.ports.vex = true →
      ∃ t, Does (.busOffRecovery c) s t ∧ t.f .P_STAT_FAULT p = 0 ∧ t.f .CN_CNT_TEC p = 0 ∧ KeepsMachine s t)

/-- R44, R366, R367, R371, R462: the mailbox's messages in and out, the Host Port's link, reads of its BARs, a read that
the Guard holds, a request that finds the port meter exhausted, and the drive's requests at the
Archive Port. -/
def Obligations.HostAndArchiveRequests : Prop :=
  ∀ (len : BitVec 13) (q : Mgmt) (n : Nat) (m : Bytes) (r : List Bytes) (g : Fin 4) (w : Fin 3) (ofs k : Nat) (s : State),
    (s.hostUp = true → s.ports.hostHeld = [] → s.admits (portMeter 8) = true →
      (s.ports.mailbox.busy = false → len.toNat ≤ 4064 → ∃ t, Does (.mailboxDeliver len q) s t ∧
        t.ports.mailbox.inMsg = some (len.toNat, q) ∧ t.ports.mailbox.busy = true ∧ t.ports.mailbox.hdb = len.toNat ∧
        Raised s t .HP_CNT_MSGIN ∧ KeepsMachine s t) ∧
      (s.ports.mailbox.busy = true → ∃ t, Does (.mailboxDeliver len q) s t ∧ t.ports = s.ports ∧
        Raised s t .HP_CNT_BUSYWR ∧ KeepsMachine s t) ∧
      (∃ t, Does .mailboxDdbClear s t ∧ t.ports.mailbox.valid = false ∧ t.ctl = s.ctl ∧ KeepsMachine s t)) ∧
    (s.ports.mailbox.inMsg = some (n, q) → s.dict.loaded = true → s.mailOut.length < 16 → q.op = 1 →
      ∃ t, Does .mailboxCopy s t ∧ t.ports.mailbox.inMsg = none ∧ t.ports.mailbox.busy = false ∧ KeepsBlock s t) ∧
    (s.mailOut = m :: r → s.ports.mailbox.valid = false → s.hostUp = true → ∃ t, Does .mailboxSend s t ∧ t.mailOut = r ∧
      t.ports.mailbox.outMsg = some m ∧ t.ports.mailbox.valid = true ∧ t.wire = s.wire ++ [.mailbox m, .msix 0] ∧
      t.ctl = s.ctl ∧ KeepsMachine s t) ∧
    (s.hostUp = true →
      (∃ t, Does (.hostLinkDown false) s t ∧ t.f .P_STAT_LINK 8 = 0 ∧ t.f .P_STAT_RATE 8 = 0 ∧
        t.roleOf .mailbox = none ∧ t.ports = { s.ports with hostHeld := [] } ∧ KeepsMachine s t) ∧
      (∃ t, Does (.hostLinkDown true) s t ∧ t.f .P_STAT_LINK 8 = 0 ∧ t.roleOf .mailbox = none ∧
        t.ports.mailbox = {} ∧ t.f .HP_CNT_MSGIN = 0 ∧ KeepsMachine s t)) ∧
    (s.fb .P_CTRL_ENABLE 8 = true → s.portDown 8 = false → s.fb .P_STAT_LINK 8 = false →
      ∃ t, Does (.hostLinkUp g w) s t ∧ t.f .P_STAT_LINK 8 = 1 ∧ t.wire = s.wire ++ [.msix 1] ∧ KeepsMachine s t) ∧
    (s.hostUp = true → s.ports.hostHeld = [] → s.admits (portMeter 8) = false →
      ∃ t, Does (.hostInboundRequest false 2 ofs k) s t ∧ t.ports.hostHeld = [(.access false 2 ofs k, false)] ∧
        t.wire = s.wire ∧ KeepsMachine s t) ∧
    (s.hostUp = true → s.ports.hostHeld = [] → s.admits (portMeter 8) = true →
      (ofs + k ≤ 0x10000000 → s.admits (dmaMeter 8) = true → s.verdict hostAgent false (0x30000000 + ofs) k = .hold →
        ∃ t, Does (.hostInboundRequest false 2 ofs k) s t ∧ t.ports.hostHeld = [(.access false 2 ofs k, true)] ∧
          t.spent (portMeter 8) = s.spent (portMeter 8) + 1 ∧ t.wire = s.wire ∧ KeepsMachine s t) ∧
      (∃ t, Does (.hostInboundRequest true 2 ofs k) s t ∧ Raised s t .HP_CNT_BADREQ ∧ t.wire = s.wire ∧ KeepsMachine s t) ∧
      (∃ t, Does (.hostInboundRequest false 0 ofs k) s t ∧ t.wire = s.wire ++ [.hostAnswer true (sliceAt s.bar0 ofs k)] ∧
        t.ctl = s.ctl ∧ KeepsMachine s t) ∧
      (ofs + k ≤ 0x10000000 → s.admits (dmaMeter 8) = true → s.verdict hostAgent false (0x30000000 + ofs) k = .allow →
        ∃ t, Does (.hostInboundRequest false 2 ofs k) s t ∧
          t.wire = s.wire ++ [.hostAnswer true (s.windowBytes ofs k)] ∧
          t.spent (dmaMeter 8) = s.spent (dmaMeter 8) + k ∧ KeepsMachine s t)) ∧
    (∀ b, s.ports.archiveLink = true → ((numsFrom ofs k).all (s.driveMay b)) = true → s.archiveVerdict ofs k = .allow →
      ∃ t, Does (.archiveInboundRequest b ofs k) s t ∧
        t.wire = s.wire ++ [.archiveAnswer true (if b then [] else (numsFrom ofs k).map s.driveByte)] ∧ t.ctl = s.ctl ∧
        KeepsMachine s t) ∧
    (∀ b, s.ports.archiveLink = true → ((numsFrom ofs k).all (s.driveMay b)) = false →
      ∃ t, Does (.archiveInboundRequest b ofs k) s t ∧ t.wire = s.wire ++ [.archiveAnswer false []] ∧
        Raised s t .AP_CNT_UR ∧ KeepsMachine s t)

/-- R376-R380: a sensor loop polls the next address of its cycle, delivers a DATA frame to RXQ and acknowledges it,
tries twice again where no answer comes, and holds TRIGGER writes. -/
def Obligations.SensorLoopCommands : Prop :=
  ∀ (m : Master) (n : Loop) (a : Nat) (l : List Nat) (b : Bytes) (v : Word) (e : Exchange) (s : State),
    let p := 12 + n.val
    let x := s.loop n.val
    (s.fieldUp p = true → x.exch = none → x.triggers = [] → x.timeDue = none →
      x.polls.filter (s.pollMap n.val).contains = a :: l → ∃ t, Does (.loopPoll n) s t ∧
        (t.loop n.val).exch = some { addr := a, trigger := none, seq := x.seq, tries := 0 } ∧ (t.loop n.val).polls = l ∧
        (t.loop n.val).seq = (x.seq + 1) % 256 ∧
        t.wire = s.wire ++ [.loopFrame n (loopHead a 1 x.seq [] ++ leBytes 2 (crc16 (loopHead a 1 x.seq [])))] ∧
        KeepsMachine s t) ∧
    (s.fieldUp p = true → loopFrameOk b = false → ∃ t, Does (.loopFrameReceive n b false) s t ∧
      Raised s t .SL_CNT_CRCERR p ∧ t.ports = s.ports ∧ KeepsMachine s t) ∧
    (s.fieldUp p = true → ∃ t, Does (.loopFrameReceive n b true) s t ∧ Raised s t .SL_CNT_CRCERR p ∧ t.ports = s.ports ∧
      KeepsMachine s t) ∧
    (s.fieldUp p = true → loopFrameOk b = true → x.rx = [] → s.admits (portMeter p) = true → x.exch = some e →
      e.trigger = none → fieldAt b 0 1 = 128 + e.addr → fieldAt b 1 1 = 2 → x.last.find e.addr ≠ some (fieldAt b 2 1) →
      s.f .SL_CFG_RXQ p < 1000 → 0 < s.freePlaces (s.f .SL_CFG_RXQ p) → ∃ t, Does (.loopFrameReceive n b false) s t ∧
        (t.loop n.val).exch = none ∧ (t.loop n.val).last.find e.addr = some (fieldAt b 2 1) ∧
        (t.queue (s.f .SL_CFG_RXQ p)).ents = (s.queue (s.f .SL_CFG_RXQ p)).ents ++ [loopEntry n.val b s.tickNo s.ns] ∧
        Raised s t .SL_CNT_DATAFRAMES p ∧ t.mem = s.mem ∧ t.press = s.press) ∧
    (x.exch = some e → x.answered e = false →
      (e.tries < 2 → ∃ t, Does (.loopAnswerTimeout n) s t ∧ (t.loop n.val).exch = some { e with tries := e.tries + 1 } ∧
        t.wire.length = s.wire.length + 1 ∧ KeepsMachine s t) ∧
      (2 ≤ e.tries → ∃ t, Does (.loopAnswerTimeout n) s t ∧ (t.loop n.val).exch = none ∧ Raised s t .SL_CNT_NOANSWER p ∧
        t.wire = s.wire ∧ KeepsMachine s t)) ∧
    (Admits s m (0x40A02018 + 0x1000 * n.val) →
      (x.triggers.length < 4 → ∃ t, Does (.slTrig m n v) s t ∧
        (t.loop n.val).triggers = x.triggers ++ [(bitsOf v.toNat 0 5, leBytes 7 (v.toNat / 256))] ∧ KeepsMachine s t) ∧
      (4 ≤ x.triggers.length → ∃ t, Does (.slTrig m n v) s t ∧ Raised s t .SL_CNT_DROPS p ∧ t.ports = s.ports ∧
        KeepsMachine s t))

/-- R359, R382, R385, R387: limiters, the VEX supply, the GPIO pins and port resets. -/
def Obligations.PinCommands : Prop :=
  ∀ (m : Master) (g : Fin 7) (i : Fin 16) (p : Fin 8) (b : Bool) (v : Word) (s : State),
    (g.val < 6 → s.isLimited (10 + g.val) = false → s.ports.vex = true → ∃ t, Does (.limiterTrip g) s t ∧
      t.f .P_STAT_LIMIT (10 + g.val) = 1 ∧ t.isLimited (10 + g.val) = true ∧ t.fieldUp (10 + g.val) = false ∧
      KeepsMachine s t) ∧
    (g.val = 6 → Does (.limiterTrip g) s s) ∧
    (∃ t, Does (.vexSupplyChange b) s t ∧ t.ports.vex = b ∧ t.ctl = s.ctl ∧ KeepsMachine s t) ∧
    (bitOf (s.f .GP_DIR_OUTEN) i.val = false → bitOf s.ports.gpioIn i.val ≠ b → bitOf (s.f .PW_WAKE_GPIO) i.val = false →
      ∃ t, Does (.gpioEdge i b) s t ∧ bitOf (t.f .GP_EDGE_EDGE) i.val = true ∧ bitOf t.ports.gpioIn i.val = b ∧
        KeepsMachine s t) ∧
    (bitOf (s.f .GP_DIR_OUTEN) i.val = true → Does (.gpioEdge i b) s s) ∧
    (Admits s m 0x40E00018 → ∃ t, Does (.gpSet m v) s t ∧
      t.f .GP_OUT_OUT = (s.f .GP_OUT_OUT ||| v.toNat % 65536) % 65536 ∧ KeepsMachine s t) ∧
    (Admits s m 0x40E00020 → ∃ t, Does (.gpClr m v) s t ∧
      t.f .GP_OUT_OUT = (s.f .GP_OUT_OUT &&& (65535 ^^^ (v.toNat % 65536))) % 65536 ∧ KeepsMachine s t) ∧
    (∃ t, Does (.portReset (Fin.castLE (by decide) p) 0) s t ∧ t.rxQueue p.val = [] ∧ t.f .P_STAT_FAULT p.val = 0 ∧
      t.f .LP_CNTRX_DROPS p.val = 0 ∧ t.f .LP_CNTRX_PLPFRAMES p.val = 0 ∧ p.val ∈ t.ports.laneDown ∧ t.laneUp p.val = false ∧ KeepsMachine s t) ∧
    (∃ t, Does (.portReset 8 0) s t ∧ t.ports.mailbox = {} ∧ t.f .P_STAT_LINK 8 = 0 ∧ t.roleOf .mailbox = none ∧
      KeepsMachine s t) ∧
    (∃ t, Does (.portReset 9 0) s t ∧ t.ports.archiveLink = false ∧ t.f .P_STAT_LINK 9 = 0 ∧ t.press.segs = [] ∧
      t.press.issued = s.f .PR_ARCHLSN_ARCHLSN ∧ t.f .AP_CNT_CMDS = 0 ∧ KeepsCores s t) ∧
    (∃ t, Does (.portReset 12 0) s t ∧ t.loop 0 = {} ∧ t.f .SL_CNT_DROPS 12 = 0 ∧ t.isLimited 12 = false ∧
      KeepsMachine s t)

/-- R392-R398: the boot runs the firmware of the active bank and brings the Steward up once; an update is checked,
written to the inactive bank, recorded, made active for a trial, switched to by SDR, confirmed or timed out. The image that
a device is made with is the model's (log entry 9). -/
def Obligations.BootAndBankCommands : Prop :=
  ∀ (m : Master) (i : Inst) (tag : BitVec 32) (b : Bytes) (e : DEntry) (r : RoleSess) (d : Delivery) (s : State),
    let z := ({ s with trust := { s.trust with bootDue := false } }).finishTamper.enableSeals.trialBoot
    (s.trust.bootDue = true → s.pinsHeld = false →
      (∀ n x, z.chooseFirmware = some (n, x) → ∃ t, Does .boot s t ∧ t.trust.bootDue = false ∧
        t.trust.fwVersion = x.version ∧ t.dict.loaded = true ∧ t.hamper.rebuilding = true) ∧
      (z.chooseFirmware = none → ∃ t, Does .boot s t ∧ t.trust.bootDue = false ∧ t.trust.halted = true)) ∧
    (s.trust.bootDue = false → Does .boot s s) ∧
    (∀ u, Accepts s i tag 0x4070 0 e b.length → s.roleOf i = some r →
      s.takeBank r b (asks i tag 0x4070 0) = .ok u → Does (.bankUpdate i tag b) s u ∧
        u.trust.banks.find s.idleBank = some (.written b) ∧
        u.trust.delivery = some { serves := asks i tag 0x4070 0, efftick := s.tickNo + 2, active := false } ∧
        u.mem = s.mem) ∧
    (∀ rec rest, s.trust.delivery = some d → d.active = false → takeBankRecord s.press.devDone = some (rec, rest) →
      ∃ t, Does .bankActivate s t ∧ t.f .TT_BOOT_ACTIVE = s.idleBank ∧ t.f .TT_BOOT_TRIAL = 1 ∧ t.f .TT_BOOT_TRIED = 0 ∧
        t.trust.delivery = some { d with active := true } ∧ t.press.devDone = rest ∧ t.mem = s.mem) ∧
    (s.trust.delivery = some d → d.active = true → d.efftick ≤ s.tickNo → Resets .bankSwitchSdr s s .sdr) ∧
    (Taken s m 0x40D00008 → s.f .TT_BOOT_TRIAL ≠ 0 → ∃ t, Does (.bootConfirm m) s t ∧ t.f .TT_BOOT_TRIAL = 0 ∧
      t.f .TT_BOOT_TRIED = 0 ∧ t.f .TT_ARB_FWCTR = max (s.f .TT_ARB_FWCTR) s.trust.fwSvn % 2 ^ 6 ∧ KeepsMachine s t) ∧
    (s.f .TT_BOOT_TRIAL ≠ 0 → s.f .TT_BOOT_TRIED ≠ 0 → Resets .trialTimeout s s .wdr)

/-- R402-R404: a read of 0x4001 draws a challenge, answers its 48 bytes and ends the instance's session; a response of
the right length is checked in R402's order, the challenge's 60 s, the role, the certificate, VERIFY2, and opens a session
or aborts with the code of the check that fails; a session ends on request or in time, on its own instance alone; a nonce is
taken, and a quote of the device's state is signed by the attestation key, except in Retired. -/
def Obligations.RolesAndAttestation : Prop :=
  ∀ (i : Inst) (tag : BitVec 32) (b : Bytes) (e : DEntry) (old : Bool) (s : State),
    let role := fieldAt b 0 1
    let ofs := if s.lifecycle = 2 then 5429 else 8
    let cert := sliceAt b ofs 5421
    let anchor := if s.lifecycle = 2 then some (sliceAt b 8 5421) else none
    let refused (c : Nat) : Prop := Does (.roleResponse i tag b old) s (s.abortWrite (asks i tag 0x4002 0) c)
    (s.serves i = true → s.storedAnswer i tag = none →
      (checkRead i 0x4001 0 = .ok e → ∃ (t : State) (c : Challenge), Does (.roleChallenge i tag) s t ∧
        t.trust.chals.find i = some c ∧ c.nonce = leBytes 32 (Config.draw s.draw.1).toNat ∧ c.tick = s.tickNo ∧
        c.since = s.ns ∧ t.roleOf i = none ∧ (∀ j, j ≠ i → t.roleOf j = s.roleOf j) ∧
        (i = .mailbox → t.mailOut = s.mailOut ++
          [mgmtBytes 0x81 1 0x4001 0 tag 0 0 (c.nonce ++ leBytes 8 c.id ++ leBytes 8 c.tick)]) ∧ KeepsBlock s t) ∧
      (checkRead i 0x4060 2 = .ok e → ∃ (t : State) (x : Bytes), Does (.attestQuote i tag) s t ∧
        t.trust.quotes.get [] i = s.quoteBody ++ x ∧ (s.lifecycle = 5 → x = zeros 3373) ∧
        (s.lifecycle ≠ 5 → x = edSign (s.keyBytes 4) s.quoteBody ++
          mldsaSigned (s.keyBytes 5) (ascii "JV7128-AQ") s.quoteBody s.draw.1) ∧ KeepsBlock s t)) ∧
    (s.quoteBody.take 8 = ascii "PORTUMAQ" ∧ fieldAt s.quoteBody 9 1 = s.lifecycle ∧
      (∀ n, s.trust.attNonce = some n → n.length = 32 → sliceAt s.quoteBody 16 32 = n ∧
        fieldAt s.quoteBody 240 8 = s.tickNo % 2 ^ 64)) ∧
    (Accepts s i tag 0x4002 0 e b.length → b.length = ofs + 5421 + 3373 → fieldAt b 1 7 = 0 →
      (s.trust.chals.find i = none → refused 0x08000104) ∧
      (∀ c, s.trust.chals.find i = some c →
        ((old = true ∨ c.since + 60000000000 < s.ns) → refused 0x08000104) ∧
        (old = false → s.ns ≤ c.since + 60000000000 →
          (roleAdmitted s.lifecycle role = false → refused 0x08000108) ∧
          (roleAdmitted s.lifecycle role = true →
            (∀ x, s.roleIssuer role anchor = .error x → refused x) ∧
            (∀ ed ml subject, s.roleIssuer role anchor = .ok (ed, ml, subject) →
              (∀ x, s.certValid cert 5 role ed ml subject = .error x → refused x) ∧
              (s.certValid cert 5 role ed ml subject = .ok () →
                let v := s.verify2 (certEd cert) (certMl cert) (c.bytes ++ b.take (ofs + 5421)) (sliceAt b (ofs + 5421) 64)
                  (sliceAt b (ofs + 5485) 3309) (ascii "JV7128-RS")
                (∀ x, v = .error x → refused x) ∧
                (v = .ok () → ∃ (t : State) (x : RoleSess), Does (.roleResponse i tag b old) s t ∧ t.roleOf i = some x ∧
                  x.role = role ∧ x.id = c.id ∧ x.crseq = 0 ∧ x.anchor = anchor ∧ t.trust.chals.find i = none ∧
                  (∀ j, j ≠ i → t.roleOf j = s.roleOf j) ∧ KeepsBlock s t))))))) ∧
    (∀ c, Accepts s i tag 0x4002 0 e b.length → s.takeResponse i b old = .error c →
      ∃ t, Does (.roleResponse i tag b old) s t ∧ t.trust = s.trust ∧ KeepsBlock s t) ∧
    (Accepts s i tag 0x4003 0 e 0 → ∃ t, Does (.roleEnd i tag) s t ∧ t.roleOf i = none ∧
      (∀ j, j ≠ i → t.roleOf j = s.roleOf j) ∧ KeepsBlock s t) ∧
    (∃ t, Does (.roleSessionTimeout i) s t ∧ t.roleOf i = none ∧ (∀ j, j ≠ i → t.roleOf j = s.roleOf j) ∧
      t.ctl = s.ctl ∧ KeepsBlock s t) ∧
    (Accepts s i tag 0x4060 1 e b.length → s.checkValue 0x4060 1 e b = .ok () → ∃ t, Does (.attestNonce i tag b) s t ∧
      t.trust.attNonce = some b ∧ KeepsBlock s t)

/-- R405-R412: a transition of the lifecycle and a debug token submit their records, and take effect once these are
durable; keys rotate and are rinsed, debug is unlocked and locked, a tamper is answered. -/
def Obligations.LifecycleAndTamper : Prop :=
  ∀ (m : Master) (i : Inst) (tag : BitVec 32) (b : Bytes) (vb : Bool) (e : DEntry) (r : RoleSess) (src : Fin 8)
    (w : Writing) (rec_ : DevRec) (v : Serves) (s : State),
    (∀ u, Accepts s i tag 0x4010 0 e b.length → s.roleOf i = some r →
      s.takeTransition i r b vb (asks i tag 0x4010 0) = .ok u → Does (.lifecycleTransition i tag b vb) s u ∧
        u.lifecycle = s.lifecycle ∧
        u.trust.awaits = s.trust.awaits ++ [(asks i tag 0x4010 0, .transition (fieldAt b 10 1) b)] ∧
        (fieldAt b 10 1 = 5 → u.f .HM_CTRL_ENABLE = 0 ∧ u.f .PR_CTRL_ENABLE = 0) ∧
        (s.press.writing.isSome →
          u.press.devQ = s.press.devQ ++ [(s.transitionRecord r b, asks i tag 0x4010 0)]) ∧ u.mem = s.mem) ∧
    (s.press.writing = some w → w.src = .devRec → s.press.devNow = some (rec_, v) → s.press.devDone = [] →
      s.ports.hostHeld = [] → isAwaited rec_ = true →
      (∀ dst, s.trust.awaits = [(v, .transition dst b)] → ∃ t, Does (.writeVerifyDone true) s t ∧ t.trust.awaits = [] ∧
        (dst = 5 → t.trust.retiring = some v ∧ t.press.sealNext = true) ∧
        (dst ≠ 5 → dst = s.lifecycle → t.trust.rotateAt = some (s.effTick (fieldAt b 24 8))) ∧
        (dst ≠ 5 → dst ≠ s.lifecycle → t.trust.roles = emptyMap ∧ t.f .TT_DBG_UNLOCKED = 0 ∧
          (dst = 2 → t.trust.enrolled = true ∧ t.trust.idCert = some (ltPayload b)) ∧
          (dst = 4 → t.trust.service = true) ∧
          (dst = 3 → s.lifecycle = 4 → t.trust.service = false) ∧
          (dst = 3 → s.lifecycle ≠ 4 → t.trust.commissioned = true ∧ t.trust.latched = true ∧ t.trust.keygen = 1 ∧
            t.trust.anchor = some (ltPayload b)))) ∧
      (∀ scope til, s.trust.awaits = [(v, .token scope til)] → ∃ t, Does (.writeVerifyDone true) s t ∧
        t.trust.awaits = [] ∧ t.mem = s.mem ∧
        (s.tickNo < til → t.f .TT_DBG_UNLOCKED = 1 ∧ t.f .TT_DBG_SCOPE = scope % 2 ^ 2 ∧ t.trust.debugUntil = til) ∧
        (til ≤ s.tickNo → t.f .TT_DBG_UNLOCKED = s.f .TT_DBG_UNLOCKED))) ∧
    (∀ g, s.trust.rotating = some g → s.generationSigned g = true → s.seals.entFail = false →
      ∃ t, Does .evidenceKeyRotation s t ∧ t.trust.rotating = none ∧ (t.key 2).key.isSome ∧ (t.key 3).key.isSome ∧
        t.trust.evCerts.length = s.trust.evCerts.length + 1 ∧ t.trust.keygen = s.trust.keygen ∧ t.mem = s.mem) ∧
    (∀ v, s.trust.retiring = some v → s.fb .PR_STAT_SEALED = true → s.trust.retired = false →
      ∃ t, Does .retirementRinse s t ∧ t.trust.retired = true ∧ t.lifecycle = 5 ∧ t.seals.keys = emptyMap ∧
        t.trust.latched = false ∧ t.trust.roles = emptyMap ∧ t.mem = s.mem) ∧
    (∀ u, Accepts s i tag 0x4030 0 e b.length → s.roleOf i = some r → s.takeToken r b (asks i tag 0x4030 0) = .ok u →
      Does (.debugUnlock i tag b) s u ∧ u.f .TT_DBG_UNLOCKED = s.f .TT_DBG_UNLOCKED ∧
        u.trust.awaits = s.trust.awaits ++ [(asks i tag 0x4030 0, .token (fieldAt b 9 1) (fieldAt b 24 8))] ∧
        (s.press.writing.isSome → u.press.devQ = s.press.devQ ++ [(.config 0x4030 0 4 s.tickNo (BitVec.ofNat 64 r.id)
          (sha512 b) 96 (b.take 96), asks i tag 0x4030 0)]) ∧ u.mem = s.mem) ∧
    (s.fb .TT_DBG_UNLOCKED = true → s.trust.debugUntil ≤ s.tickNo → ∃ t, Does .debugUnlockEnd s t ∧
      t.f .TT_DBG_UNLOCKED = 0 ∧ t.f .TT_DBG_SCOPE = 0 ∧ (∀ k, k ∈ s.cores.keys → (t.core k).halted = false) ∧
      t.mem = s.mem ∧ t.press = s.press) ∧
    (bitOf (armedSources s.lifecycle) src.val = true → s.fb .TT_TSTAT_LATCH = false →
      (∃ t, Does (.tamperDetect src true) s t ∧ t.f .TT_TSTAT_LATCH = 1 ∧ bitOf (t.f .TT_TSTAT_SOURCE) src.val = true ∧
        t.f .TT_RINSE_START = 1 ∧ t.trust.rinsing = true ∧ t.seals.keys = emptyMap ∧ t.f .TT_DBG_UNLOCKED = 0 ∧
        (s.fb .PR_STAT_SEALED = false → s.fb .PR_STAT_LFAULT = false → t.press.tampering = true) ∧ t.mem = s.mem) ∧
      (src.val ≠ 3 → src.val ≠ 4 → ∃ t, Does (.tamperDetect src false) s t ∧ t.f .TT_TSTAT_LATCH = 1 ∧
        t.seals.keys = emptyMap ∧ t.trust.latched = false ∧ t.mem = s.mem)) ∧
    (bitOf (armedSources s.lifecycle) src.val = false → Does (.tamperDetect src vb) s s) ∧
    (Taken s m 0x40D00030 → ∃ t, Does (.rinseStart m) s t ∧ t.f .TT_RINSE_START = 1 ∧ t.seals.keys = emptyMap ∧
      t.trust.latched = false ∧ t.trust.roles = emptyMap ∧ t.mem = s.mem) ∧
    (s.f .TT_RINSE_START ≠ 0 → ∃ t, Does .rinseComplete s t ∧ t.f .TT_RINSE_START = 0 ∧ t.f .TT_RINSE_DONE = 1 ∧
      t.trust.retired = (s.trust.retired || s.trust.rinsing) ∧ t.mem = s.mem)

/-- R12, R415-R420: what raises each reset, and what each leaves. -/
def Obligations.ResetsClearTheDevice : Prop :=
  ∀ (m : Master) (rails : BitVec 3) (key : BitVec 32) (s : State),
    Resets .powerOnReset s s .por ∧
    Resets .wdr s s .wdr ∧
    Resets .lockstepMismatch s s .wdr ∧
    Resets (.bor rails) s s .bor ∧
    (s.trust.rinsing = true → s.fb .TT_RINSE_DONE = true → s.trust.retired = true → Resets .tzr s s .tzr) ∧
    (Taken s m 0x40B00020 → Resets (.sdr m 0x53524453) s (counted s m 0x40B00020) .sdr) ∧
    (Taken s m 0x40B00020 → key ≠ 0x53524453 → Does (.sdr m key) s (counted s m 0x40B00020)) ∧
    (Taken s m 0x40B00040 → ∃ t, Does (.watchdogKick m 0x4B43494B) s t ∧ t.power.wdStart = s.ns ∧ KeepsMachine s t) ∧
    (Taken s m 0x40B00040 → key ≠ 0x4B43494B → Resets (.watchdogKick m key) s (counted s m 0x40B00040) .wdr) ∧
    (s.f .PW_STATE_STATE ≠ 4 → Resets .watchdogExpire s s .wdr) ∧
    (s.f .PW_STATE_STATE = 4 → Does .watchdogExpire s s) ∧
    (∀ k : Nat, k < 128 → Taken s m 0x40B00030 → ∃ t, Does (.crr m (BitVec.ofNat 64 (256 + k))) s t ∧
      t.power.crrs = s.power.crrs + 1 ∧ (t.core k).running = none ∧ (t.core k).store = [] ∧
      (t.core k).slots = emptyMap ∧ t.press = s.press) ∧
    (∀ j : Nat, j < 16 → Taken s m 0x40B00028 → ∃ t, Does (.tlr m (BitVec.ofNat 16 (2 ^ j))) s t ∧
      t.power.tlrs = s.power.tlrs + 1 ∧ (∀ i, i < 8 → (t.core (8 * j + i)).running = none) ∧ t.press = s.press) ∧
    (Taken s m 0x40B00028 → Does (.tlr m 0) s (counted s m 0x40B00028))

/-- R421-R424: Standby is asked for, entered once the device is quiet and left; tiles doze, sleep and wake. -/
def Obligations.PowerStates : Prop :=
  ∀ (m : Master) (j : Fin 16) (s : State),
    (Taken s m 0x40B00008 → s.f .PW_REQ_STANDBY = 0 → s.inStandby = false → ∃ t, Does (.standbyRequest m) s t ∧
      t.f .PW_REQ_STANDBY = 1 ∧ t.f .HM_CTRL_ENABLE = 0 ∧ t.power.standbyStage = 1 ∧
      t.power.hmWas = s.fb .HM_CTRL_ENABLE ∧ KeepsMachine s t) ∧
    (s.power.standbyStage = 3 → ∃ t, Does (.standbyEntryTimeout true) s t ∧ t.f .PW_STATE_STATE = 4 ∧
      t.f .PR_CTRL_ENABLE = 0 ∧ t.f .DN_STAT_PAUSED = 1 ∧ t.power.standbyStage = 4 ∧ t.mem = s.mem) ∧
    (s.power.standbyStage = 1 → ∃ t, Does (.standbyEntryTimeout false) s t ∧ t.power = s.power ∧
      (∀ n d q, d < 16 → (t.session n).at d ≠ .dispatched q) ∧ KeepsMachine s t) ∧
    (∀ c, (c = Instr.standbyWake ∨ (c = .wakeTimerExpire ∧ s.fb .PW_WAKE_TIMER = true ∧ s.f .PW_WAKETMR_TICK ≤ s.tickNo)) →
      s.power.standbyStage ≠ 0 → ∃ t, Does c s t ∧ t.f .PW_REQ_STANDBY = 0 ∧ t.f .DN_STAT_PAUSED = 0 ∧
        t.power.standbyStage = 0 ∧ t.f .HM_CTRL_ENABLE = b2n s.power.hmWas ∧ t.f .PR_CTRL_ENABLE = b2n s.power.prWas ∧
        (s.inStandby = true → t.f .PW_STATE_STATE = 0 ∧ t.f .PW_STATE_ASLEEP = 0) ∧ KeepsMachine s t) ∧
    (s.fb .PW_TILECFG_DOZEEN = true → s.tileIdle j.val = true → bitOf (s.f .PW_STATE_ASLEEP) j.val = false →
      ∃ t, Does (.tileDoze j) s t ∧ bitOf (t.f .PW_STATE_DOZING) j.val = true ∧ KeepsMachine s t) ∧
    (s.fb .PW_TILECFG_SLEEPEN = true → bitOf (s.f .PW_STATE_DOZING) j.val = true → ∃ t, Does (.tileSleep j) s t ∧
      bitOf (t.f .PW_STATE_ASLEEP) j.val = true ∧ bitOf (t.f .PW_STATE_DOZING) j.val = false ∧
      (∀ i, i < 8 → (t.core (8 * j.val + i)).sdc = []) ∧ t.mem = s.mem ∧ t.press = s.press) ∧
    (s.inStandby = false → ∃ t, Does (.tileWake j) s t ∧ bitOf (t.f .PW_STATE_ASLEEP) j.val = false ∧
      bitOf (t.f .PW_STATE_DOZING) j.val = false ∧ KeepsMachine s t)

/-- R83, R144, R164, R169, R430-R434: uncorrectable memory errors and the patrols of DRAM, the ledger and the banks;
self-tests start, are refused and end; a link's generator and checker start, show an injected error and count what they
compare. That a patrol's repair of a ledger slot waits until no new slot is due is the model's choice (log entry 131). -/
def Obligations.DarnerAndTestCommands : Prop :=
  ∀ (m : Master) (fails : BitVec 32) (l : Fin 20) (v bits errs : Word) (n a : Nat) (s : State),
    (∃ t, Does (.dramUncorrectableError (.data a)) s t ∧ a / 16 ∈ t.power.badGrans ∧ t.ctl = s.ctl ∧ KeepsMachine s t) ∧
    (∃ t, Does (.dramUncorrectableError (.tagWord n)) s t ∧
      (∀ g, t.tag g = (s.tag g && !(decide (0x10000000 + 64 * n ≤ g) && decide (g < 0x10000000 + 64 * n + 64)))) ∧
      Raised s t .DN_CNTTAG_TAGUE ∧ t.mem = s.mem ∧ t.cores = s.cores) ∧
    (∃ t, Does (.dramUncorrectableError (.registry n)) s t ∧ t.f .RW_STAT_ECCERR = 1 ∧ 0xFF04 ∈ t.emcyOn ∧
      KeepsMachine s t) ∧
    (∃ t, Does (.dramUncorrectableError (.watch n false)) s t ∧ n ∈ t.watch.badHome ∧ t.ctl = s.ctl ∧ KeepsMachine s t) ∧
    (∀ h, h = DramHit.replyLog ∨ h = .sessionState → ∃ t, Does (.dramUncorrectableError h) s t ∧
      t.f .HM_STAT_LOGERR = 1 ∧ t.hamper.rebuilding = true ∧ t.hamper.sess = emptyMap ∧
      t.press = { s.press with devSlots := s.press.devSlots.filter fun x => !x.isAbandon } ∧ KeepsCores s t) ∧
    (∀ k d q, s.bufHolder n = some (k, d, q) → (s.session k).at d = .queued q →
      ∃ t, Does (.dramUncorrectableError (.buffer n)) s t ∧ (t.session k).at d = .absent ∧
        t.hamper.bufs.find q.buf = some .recycleDue ∧ Raised s t .HM_CNTDISC_FAULTDISC ∧ KeepsMachine s t) ∧
    (s.inStandby = false → ∃ t, Does (.dramPatrol .corrected) s t ∧ Raised s t .DN_CNTDRAM_CE ∧ KeepsMachine s t) ∧
    (s.inStandby = false → ∃ t, Does (.dramPatrol (.uncorrectable a)) s t ∧ Raised s t .DN_CNTDRAM_UE ∧
      t.f .DN_LASTUE_ADDR = a % 2 ^ 40 ∧ t.mem = s.mem ∧ t.cores = s.cores) ∧
    (s.mayWriteSlots = false → ∃ t, Does (.ledgerPatrol .corrected n) s t ∧ Raised s t .DN_CNTLED_CE ∧
      t.press = { s.press with repairs := removeNum (n % 1048576) s.press.repairs ++ [n % 1048576] } ∧ KeepsCores s t) ∧
    (∀ r, s.mayWriteSlots = true → s.pressNext = .none → FormedRecords s →
      s.press.slots.find (n % 1048576) = some (.good r) → ∃ t, Does (.ledgerPatrol .corrected n) s t ∧
        Raised s t .DN_CNTLED_CE ∧ t.press.writing = some { rec_ := r, src := .repair } ∧ t.press.slots = s.press.slots ∧
        KeepsCores s t) ∧
    (∀ r, s.press.slots.find (n % 1048576) = some (.good r) → ∃ t, Does (.ledgerPatrol (.uncorrectable a) n) s t ∧
      t.press.slots.find (n % 1048576) = some (.bad r) ∧ t.f .DN_STAT_LEDGERUE = 1 ∧ Raised s t .DN_CNTLED_UE ∧
      KeepsCores s t) ∧
    (∃ t, Does (.fwPatrol .corrected) s t ∧ Raised s t .DN_CNTFW_CE ∧ KeepsMachine s t) ∧
    (∃ t, Does (.fwPatrol (.uncorrectable a)) s t ∧ t.f .DN_STAT_FWUE = 1 ∧ Raised s t .DN_CNTFW_UE ∧ KeepsMachine s t) ∧
    (Admits s m 0x40C00000 → s.power.bist = none →
      (∃ t, Does (.bistStart m 3) s t ∧ t.power.bist = some 3 ∧ t.f .TS_BIST_START = 1 ∧ t.f .TS_BISTRES_DONE = 0 ∧
        t.f .TS_BISTRES_REFUSED = 0 ∧ KeepsMachine s t) ∧
      (s.f .HM_CTRL_ENABLE ≠ 0 → ∃ t, Does (.bistStart m 2) s t ∧ t.power.bist = none ∧ t.f .TS_BISTRES_REFUSED = 1 ∧
        KeepsMachine s t)) ∧
    (s.power.bist = some n → n ≠ 2 → n ≠ 5 → ∃ t, Does (.bistComplete fails) s t ∧ t.power.bist = none ∧
      t.f .TS_BIST_START = 0 ∧ t.f .TS_BISTRES_DONE = 1 ∧ t.f .TS_BISTRES_PASS = (if fails = 0 then 1 else 0) ∧
      t.f .TS_BISTRES_FAILS = fails.toNat ∧ KeepsMachine s t) ∧
    (s.power.bist = some 2 → ∃ t, Does (.bistComplete fails) s t ∧ t.f .PW_RSTAT_CAUSE = 5 ∧ t.trust.bootDue = true) ∧
    (Admits s m (tsAddr l.val) → patternOk l.val (bitsOf v.toNat 0 3) = true → bitOf v.toNat 7 = false →
      (s.f .P_CTRL_ENABLE (linkPort l.val) = 0 → ∃ t, Does (.linkPatternStart m l v) s t ∧
        t.f .TS_CTRL_PATTERN l.val = bitsOf v.toNat 0 3 ∧ t.f .TS_CTRL_LOOP l.val = bitsOf v.toNat 3 2 ∧
        t.linkTest l.val = { gen := bitOf v.toNat 5, chk := bitOf v.toNat 6 } ∧ t.mem = s.mem ∧ t.cores = s.cores) ∧
      (s.f .P_CTRL_ENABLE (linkPort l.val) ≠ 0 → ∃ t, Does (.linkPatternStart m l v) s t ∧
        t.f .TS_STAT_BADCFG l.val = 1 ∧ t.f .TS_CTRL_PATTERN l.val = s.f .TS_CTRL_PATTERN l.val ∧ KeepsMachine s t)) ∧
    (Admits s m (tsAddr l.val) → (s.linkTest l.val).gen = true → (s.linkTest l.val).chk = true →
      s.f .TS_CTRL_LOOP l.val = 1 → s.fb .TS_STAT_SYNC l.val = true → ∃ t, Does (.patternInject m l) s t ∧
        Raised s t .TS_ERRS_ERRORS l.val ∧ Raised s t .TS_BITS_BITS l.val ∧ KeepsMachine s t) ∧
    ((s.linkTest l.val).chk = true →
      (∃ t, Does (.checkerSyncChange l true bits errs) s t ∧ t.f .TS_STAT_SYNC l.val = 1 ∧ KeepsMachine s t) ∧
      (s.fb .TS_STAT_SYNC l.val = true → ∃ t, Does (.checkerSyncChange l false bits errs) s t ∧
        t.f .TS_STAT_SYNC l.val = 0 ∧ Raised s t .TS_STAT_SYNCLOSS l.val ∧
        t.f .TS_ERRS_ERRORS l.val = min (s.f .TS_ERRS_ERRORS l.val + errs.toNat) (2 ^ Fld.width .TS_ERRS_ERRORS - 1) ∧
        KeepsMachine s t))

/-- R409, R435, R436: the JTAG instructions: identification and sampling leave the device running, the pin-driving ones
hold it as for SDR, leaving one of them is an SDR, and debug accesses and halts follow the unlock's SCOPE. -/
def Obligations.JtagAndDebugCommands : Prop :=
  ∀ (m : Master) (pins : Nat) (a : Nat) (k : CoreId) (s : State),
    (s.pinsHeld = false →
      (∃ t, Does .bypass s t ∧ t.power.jtagIr = 63 ∧ t.wire = s.wire ∧ t.ctl = s.ctl ∧ KeepsMachine s t) ∧
      (∃ t, Does .idcode s t ∧ t.power.jtagIr = 1 ∧ t.wire = s.wire ++ [.jtag 0x271286B7] ∧ t.ctl = s.ctl ∧
        KeepsMachine s t) ∧
      (∃ t, Does (.samplePreload pins) s t ∧ t.power.preload = pins ∧ t.ctl = s.ctl ∧ KeepsMachine s t) ∧
      (∃ t, Does .jtagTapReset s t ∧ t.power.jtagIr = 1 ∧ t.ctl = s.ctl ∧ KeepsMachine s t) ∧
      (∃ t, Does (.extest pins) s t ∧ t.pinsHeld = true ∧ t.wire.getLast? = some (.pins (some pins)) ∧
        t.cores = emptyMap ∧ t.trust.bootDue = true) ∧
      (∃ t, Does .clamp s t ∧ t.pinsHeld = true ∧ t.wire.getLast? = some (.pins (some s.power.preload)) ∧
        t.cores = emptyMap) ∧
      (∃ t, Does .highz s t ∧ t.pinsHeld = true ∧ t.wire.getLast? = some (.pins none) ∧ t.cores = emptyMap) ∧
      (s.verdict debugAgent false a 8 = .allow → s.scopeAllows false = true → targetRefuses a 8 false = false →
        inControl a = true → ∃ t, Does (.dbgacc false a 0) s t ∧ KeepsMachine s t ∧
          ∃ d, t.wire = s.wire ++ [.jtag d])) ∧
    (s.pinsHeld = true → ∃ t, Does .bypass s t ∧ t.power.jtagIr = 63 ∧ t.pinsHeld = false ∧ t.f .PW_RSTAT_CAUSE = 5 ∧
      t.trust.bootDue = true ∧ t.cores = emptyMap) ∧
    (s.pinsHeld = false → s.verdict debugAgent false a 8 ≠ .allow →
      ∃ t, Does (.dbgacc false a 0) s t ∧ t.wire = s.wire ∧ KeepsMachine s t) ∧
    (Admits s m 0x40C00080 → (counted s m 0x40C00080).mayHalt m = true → k.val < 128 →
      ((s.core k.val).halted = false → (s.core k.val).interruptible = true → ∃ t, Does (.tsHaltCore m k) s t ∧
        t.core k.val = { s.core k.val with halted := true, haltReq := false } ∧
        (∀ j, j ≠ k.val → t.core j = s.core j) ∧ t.mem = s.mem) ∧
      ((s.core k.val).halted = true → ∃ t, Does (.tsStep m k) s t ∧
        t.core k.val = { s.core k.val with stepping := true } ∧ t.mem = s.mem) ∧
      (∃ t, Does (.tsResume m k) s t ∧
        t.core k.val = { s.core k.val with halted := false, haltReq := false, stepping := false } ∧ t.mem = s.mem)) ∧
    (Admits s m 0x40C00080 → (counted s m 0x40C00080).mayHalt m = false →
      Does (.tsHaltCore m k) s (counted s m 0x40C00080))

/-- R111: ROOT over one leaf is the hash of a zero byte and the slot; over more it is the hash of a one byte and the
roots of the two parts, the first of which has the largest power of two of leaves below the whole number. A block's header
carries the ROOT of its leaves. -/
def Obligations.RootIsTheMerkleTreeHash : Prop :=
  ∀ (s : State) (l : List Nat),
    (∀ n, s.rootOf [n] = sha512 (0 :: s.slotBytes (slotIndex n))) ∧
    (2 ≤ l.length → ∃ e, 2 ^ e < l.length ∧ l.length ≤ 2 ^ (e + 1) ∧
      s.rootOf l = sha512 (1 :: (leBytes 64 (s.rootOf (l.take (2 ^ e))).toNat ++
        leBytes 64 (s.rootOf (l.drop (2 ^ e))).toNat))) ∧
    (∀ t r f n, l ≠ [] → (s.header t l r f n).root = s.rootOf l)

/-- R117: a record that becomes durable, and a segment whose completion moves PR_ARCHLSN, leave FULL at 1 from 943,719
slots on, and at 0 again from 891,289 slots down; while FULL reads 1 the Hamper takes the ledger as full. -/
def Obligations.RingThresholdHasHysteresis : Prop :=
  ∀ (s : State) (w : Writing) (g : Seg),
    let full (o : Nat) : Bool := if s.fb .PR_STAT_FULL then decide (891289 < o) else decide (943719 ≤ o)
    (s.press.writing = some w → w.src ≠ .repair → s.ports.hostHeld = [] → s.trust.awaits = [] →
      ∃ t, Does (.writeVerifyDone true) s t ∧
      t.occupancy = (w.rec_.lsn + 1) % 2 ^ 64 - s.f .PR_ARCHLSN_ARCHLSN ∧ t.fb .PR_STAT_FULL = full t.occupancy) ∧
    (s.press.segs = [g] → g.drained = false → g.reissue = false → g.first ≤ s.f .PR_ARCHLSN_ARCHLSN →
      s.f .PR_ARCHLSN_ARCHLSN < g.first + g.count → g.first + g.count < 2 ^ 64 →
      ∃ t, Does (.segmentComplete g.first true) s t ∧ t.f .PR_ARCHLSN_ARCHLSN = g.first + g.count ∧
        t.fb .PR_STAT_FULL = full t.occupancy) ∧
    (s.fb .PR_STAT_FULL = true → s.ledgerFull = true)

/-- Every step keeps memory in its canonical form: addresses rise, and no listed byte is the one that an unlisted address
reads as. -/
def Obligations.MemoryStaysCanonical : Prop :=
  ∀ s t : State, Memory.wf s = true → step s = .next t → Memory.wf t = true

/-- R11, R12: after reset every control field reads its reset value; memory is canonical and lists nothing, no tag is set,
no command waits, no core has a task, no session is open, the ledger is blank and the boot is due (log entry 5 names the
values that are the model's). -/
def Obligations.ResetState : Prop :=
  (∀ x i, State.reset.f x i = x.resetAt i) ∧ Memory.wf State.reset = true ∧ State.reset.mem = [] ∧
    (∀ g, State.reset.tag g = false) ∧ State.reset.pending = [] ∧ State.reset.trust.bootDue = true ∧
    State.reset.lifecycle = 1 ∧ State.reset.tick.running = false ∧
    (∀ n, (State.reset.task n).state = .absent) ∧ (∀ k, (State.reset.core k).running = none) ∧
    (∀ k n, (State.reset.core k).getP n = decide (n = 0)) ∧ (∀ k n, State.reset.g k n = 0) ∧
    (∀ n, (State.reset.session n).isOpen = false) ∧ (∀ n, (State.reset.entry n).valid = false) ∧
    (∀ q, (State.reset.queue q).ents = []) ∧ State.reset.press.slots = emptyMap ∧ State.reset.newestFirst = []
end

