-- ==== Sys2Proof/Laws/Maps.lean ====
section
/-! SUPPORT. Finite maps: a read after a write, of the same key and of another. -/

namespace Sys2Proof.Machine

theorem lookupIn_eraseIn_same {K V : Type} [DecidableEq K] (k : K) (l : List (K × V)) :
    lookupIn k (eraseIn k l) = none := by
  induction l with
  | nil => rfl
  | cons e l ih =>
    obtain ⟨a, v⟩ := e
    by_cases h : a = k <;> simp [eraseIn, lookupIn, h, ih]

theorem lookupIn_eraseIn_other {K V : Type} [DecidableEq K] {j k : K} (h : j ≠ k) (l : List (K × V)) :
    lookupIn j (eraseIn k l) = lookupIn j l := by
  induction l with
  | nil => rfl
  | cons e l ih =>
    obtain ⟨a, v⟩ := e
    by_cases hk : a = k
    · subst hk; simp [eraseIn, lookupIn, h.symm, ih]
    · by_cases hj : a = j
      · subst hj; simp [eraseIn, lookupIn, hk]
      · simp [eraseIn, lookupIn, hk, hj, ih]

@[simp] theorem find_set_same {K V : Type} [DecidableEq K] (m : AMap K V) (k : K) (v : V) :
    (m.set k v).find k = some v := by simp [AMap.set, AMap.find, lookupIn]

theorem find_set_other {K V : Type} [DecidableEq K] (m : AMap K V) {j k : K} (v : V) (h : j ≠ k) :
    (m.set k v).find j = m.find j := by
  simp [AMap.set, AMap.find, lookupIn, Ne.symm h, lookupIn_eraseIn_other h]

@[simp] theorem get_set_same {K V : Type} [DecidableEq K] (m : AMap K V) (d v : V) (k : K) :
    (m.set k v).get d k = v := by simp [AMap.get]

theorem get_set_other {K V : Type} [DecidableEq K] (m : AMap K V) (d v : V) {j k : K} (h : j ≠ k) :
    (m.set k v).get d j = m.get d j := by simp [AMap.get, find_set_other m v h]

theorem get_set {K V : Type} [DecidableEq K] (m : AMap K V) (d v : V) (j k : K) :
    (m.set k v).get d j = if j = k then v else m.get d j := by
  by_cases h : j = k
  · subst h; simp
  · simp [h, get_set_other m d v h]

@[simp] theorem find_erase_same {K V : Type} [DecidableEq K] (m : AMap K V) (k : K) : (m.erase k).find k = none :=
  lookupIn_eraseIn_same k m.entries

theorem find_erase_other {K V : Type} [DecidableEq K] (m : AMap K V) {j k : K} (h : j ≠ k) :
    (m.erase k).find j = m.find j := lookupIn_eraseIn_other h m.entries

@[simp] theorem get_emptyMap {K V : Type} [DecidableEq K] (d : V) (k : K) : (emptyMap : AMap K V).get d k = d := rfl

theorem lookupIn_filter {K V : Type} [DecidableEq K] (p : K → Bool) (k : K) (l : List (K × V)) :
    lookupIn k (l.filter fun e => p e.1) = if p k then lookupIn k l else none := by
  induction l with
  | nil => simp [lookupIn]
  | cons e l ih =>
    obtain ⟨a, v⟩ := e
    by_cases ha : a = k
    · subst ha; by_cases hp : p a <;> simp [hp, lookupIn, ih]
    · by_cases hp : p a <;> simp [hp, lookupIn, ha, ih]

/-- What a map keeps reads as before; what it drops reads as the default. -/
theorem get_keep {K V : Type} [DecidableEq K] (m : AMap K V) (p : K → Bool) (d : V) (k : K) :
    (m.keep p).get d k = if p k then m.get d k else d := by
  by_cases h : p k <;> simp [AMap.keep, AMap.get, AMap.find, lookupIn_filter, h]

end Sys2Proof.Machine
end

