-- ==== Sys2Proof/Laws/State.lean ====
section
/-! SUPPORT. What each named update leaves alone: one lemma for each field and update, true by definition. -/

namespace Sys2Proof.Machine

/-! ## setF -/

@[simp] theorem setF_mem (s : State) (x : Fld) (v i : Nat) : (s.setF x v i).mem = s.mem := rfl
@[simp] theorem setF_tags (s : State) (x : Fld) (v i : Nat) : (s.setF x v i).tags = s.tags := rfl
@[simp] theorem setF_queues (s : State) (x : Fld) (v i : Nat) : (s.setF x v i).queues = s.queues := rfl
@[simp] theorem setF_tick (s : State) (x : Fld) (v i : Nat) : (s.setF x v i).tick = s.tick := rfl
@[simp] theorem setF_meters (s : State) (x : Fld) (v i : Nat) : (s.setF x v i).meters = s.meters := rfl
@[simp] theorem setF_hamper (s : State) (x : Fld) (v i : Nat) : (s.setF x v i).hamper = s.hamper := rfl
@[simp] theorem setF_press (s : State) (x : Fld) (v i : Nat) : (s.setF x v i).press = s.press := rfl
@[simp] theorem setF_watch (s : State) (x : Fld) (v i : Nat) : (s.setF x v i).watch = s.watch := rfl
@[simp] theorem setF_seals (s : State) (x : Fld) (v i : Nat) : (s.setF x v i).seals = s.seals := rfl
@[simp] theorem setF_registry (s : State) (x : Fld) (v i : Nat) : (s.setF x v i).registry = s.registry := rfl
@[simp] theorem setF_guard (s : State) (x : Fld) (v i : Nat) : (s.setF x v i).guard = s.guard := rfl
@[simp] theorem setF_cores (s : State) (x : Fld) (v i : Nat) : (s.setF x v i).cores = s.cores := rfl
@[simp] theorem setF_ports (s : State) (x : Fld) (v i : Nat) : (s.setF x v i).ports = s.ports := rfl
@[simp] theorem setF_dict (s : State) (x : Fld) (v i : Nat) : (s.setF x v i).dict = s.dict := rfl
@[simp] theorem setF_trust (s : State) (x : Fld) (v i : Nat) : (s.setF x v i).trust = s.trust := rfl
@[simp] theorem setF_power (s : State) (x : Fld) (v i : Nat) : (s.setF x v i).power = s.power := rfl
@[simp] theorem setF_peers (s : State) (x : Fld) (v i : Nat) : (s.setF x v i).peers = s.peers := rfl
@[simp] theorem setF_emcyOn (s : State) (x : Fld) (v i : Nat) : (s.setF x v i).emcyOn = s.emcyOn := rfl
@[simp] theorem setF_emcyLog (s : State) (x : Fld) (v i : Nat) : (s.setF x v i).emcyLog = s.emcyLog := rfl
@[simp] theorem setF_mailOut (s : State) (x : Fld) (v i : Nat) : (s.setF x v i).mailOut = s.mailOut := rfl
@[simp] theorem setF_tagLog (s : State) (x : Fld) (v i : Nat) : (s.setF x v i).tagLog = s.tagLog := rfl
@[simp] theorem setF_ns (s : State) (x : Fld) (v i : Nat) : (s.setF x v i).ns = s.ns := rfl
@[simp] theorem setF_fresh (s : State) (x : Fld) (v i : Nat) : (s.setF x v i).fresh = s.fresh := rfl
@[simp] theorem setF_wire (s : State) (x : Fld) (v i : Nat) : (s.setF x v i).wire = s.wire := rfl
@[simp] theorem setF_pending (s : State) (x : Fld) (v i : Nat) : (s.setF x v i).pending = s.pending := rfl

/-! ## bump -/

@[simp] theorem bump_mem (s : State) (x : Fld) (n i : Nat) : (s.bump x n i).mem = s.mem := rfl
@[simp] theorem bump_tags (s : State) (x : Fld) (n i : Nat) : (s.bump x n i).tags = s.tags := rfl
@[simp] theorem bump_queues (s : State) (x : Fld) (n i : Nat) : (s.bump x n i).queues = s.queues := rfl
@[simp] theorem bump_tick (s : State) (x : Fld) (n i : Nat) : (s.bump x n i).tick = s.tick := rfl
@[simp] theorem bump_meters (s : State) (x : Fld) (n i : Nat) : (s.bump x n i).meters = s.meters := rfl
@[simp] theorem bump_hamper (s : State) (x : Fld) (n i : Nat) : (s.bump x n i).hamper = s.hamper := rfl
@[simp] theorem bump_press (s : State) (x : Fld) (n i : Nat) : (s.bump x n i).press = s.press := rfl
@[simp] theorem bump_watch (s : State) (x : Fld) (n i : Nat) : (s.bump x n i).watch = s.watch := rfl
@[simp] theorem bump_seals (s : State) (x : Fld) (n i : Nat) : (s.bump x n i).seals = s.seals := rfl
@[simp] theorem bump_registry (s : State) (x : Fld) (n i : Nat) : (s.bump x n i).registry = s.registry := rfl
@[simp] theorem bump_guard (s : State) (x : Fld) (n i : Nat) : (s.bump x n i).guard = s.guard := rfl
@[simp] theorem bump_cores (s : State) (x : Fld) (n i : Nat) : (s.bump x n i).cores = s.cores := rfl
@[simp] theorem bump_ports (s : State) (x : Fld) (n i : Nat) : (s.bump x n i).ports = s.ports := rfl
@[simp] theorem bump_dict (s : State) (x : Fld) (n i : Nat) : (s.bump x n i).dict = s.dict := rfl
@[simp] theorem bump_trust (s : State) (x : Fld) (n i : Nat) : (s.bump x n i).trust = s.trust := rfl
@[simp] theorem bump_power (s : State) (x : Fld) (n i : Nat) : (s.bump x n i).power = s.power := rfl
@[simp] theorem bump_peers (s : State) (x : Fld) (n i : Nat) : (s.bump x n i).peers = s.peers := rfl
@[simp] theorem bump_emcyOn (s : State) (x : Fld) (n i : Nat) : (s.bump x n i).emcyOn = s.emcyOn := rfl
@[simp] theorem bump_emcyLog (s : State) (x : Fld) (n i : Nat) : (s.bump x n i).emcyLog = s.emcyLog := rfl
@[simp] theorem bump_mailOut (s : State) (x : Fld) (n i : Nat) : (s.bump x n i).mailOut = s.mailOut := rfl
@[simp] theorem bump_tagLog (s : State) (x : Fld) (n i : Nat) : (s.bump x n i).tagLog = s.tagLog := rfl
@[simp] theorem bump_ns (s : State) (x : Fld) (n i : Nat) : (s.bump x n i).ns = s.ns := rfl
@[simp] theorem bump_fresh (s : State) (x : Fld) (n i : Nat) : (s.bump x n i).fresh = s.fresh := rfl
@[simp] theorem bump_wire (s : State) (x : Fld) (n i : Nat) : (s.bump x n i).wire = s.wire := rfl
@[simp] theorem bump_pending (s : State) (x : Fld) (n i : Nat) : (s.bump x n i).pending = s.pending := rfl

/-! ## emit -/

@[simp] theorem emit_ctl (s : State) (o : Out) : (s.emit o).ctl = s.ctl := rfl
@[simp] theorem emit_mem (s : State) (o : Out) : (s.emit o).mem = s.mem := rfl
@[simp] theorem emit_tags (s : State) (o : Out) : (s.emit o).tags = s.tags := rfl
@[simp] theorem emit_queues (s : State) (o : Out) : (s.emit o).queues = s.queues := rfl
@[simp] theorem emit_tick (s : State) (o : Out) : (s.emit o).tick = s.tick := rfl
@[simp] theorem emit_meters (s : State) (o : Out) : (s.emit o).meters = s.meters := rfl
@[simp] theorem emit_hamper (s : State) (o : Out) : (s.emit o).hamper = s.hamper := rfl
@[simp] theorem emit_press (s : State) (o : Out) : (s.emit o).press = s.press := rfl
@[simp] theorem emit_watch (s : State) (o : Out) : (s.emit o).watch = s.watch := rfl
@[simp] theorem emit_seals (s : State) (o : Out) : (s.emit o).seals = s.seals := rfl
@[simp] theorem emit_registry (s : State) (o : Out) : (s.emit o).registry = s.registry := rfl
@[simp] theorem emit_guard (s : State) (o : Out) : (s.emit o).guard = s.guard := rfl
@[simp] theorem emit_cores (s : State) (o : Out) : (s.emit o).cores = s.cores := rfl
@[simp] theorem emit_ports (s : State) (o : Out) : (s.emit o).ports = s.ports := rfl
@[simp] theorem emit_dict (s : State) (o : Out) : (s.emit o).dict = s.dict := rfl
@[simp] theorem emit_trust (s : State) (o : Out) : (s.emit o).trust = s.trust := rfl
@[simp] theorem emit_power (s : State) (o : Out) : (s.emit o).power = s.power := rfl
@[simp] theorem emit_peers (s : State) (o : Out) : (s.emit o).peers = s.peers := rfl
@[simp] theorem emit_emcyOn (s : State) (o : Out) : (s.emit o).emcyOn = s.emcyOn := rfl
@[simp] theorem emit_emcyLog (s : State) (o : Out) : (s.emit o).emcyLog = s.emcyLog := rfl
@[simp] theorem emit_mailOut (s : State) (o : Out) : (s.emit o).mailOut = s.mailOut := rfl
@[simp] theorem emit_tagLog (s : State) (o : Out) : (s.emit o).tagLog = s.tagLog := rfl
@[simp] theorem emit_ns (s : State) (o : Out) : (s.emit o).ns = s.ns := rfl
@[simp] theorem emit_fresh (s : State) (o : Out) : (s.emit o).fresh = s.fresh := rfl
@[simp] theorem emit_pending (s : State) (o : Out) : (s.emit o).pending = s.pending := rfl

/-! ## setCore -/

@[simp] theorem setCore_ctl (s : State) (k : Nat) (c : CoreS) : (s.setCore k c).ctl = s.ctl := rfl
@[simp] theorem setCore_mem (s : State) (k : Nat) (c : CoreS) : (s.setCore k c).mem = s.mem := rfl
@[simp] theorem setCore_tags (s : State) (k : Nat) (c : CoreS) : (s.setCore k c).tags = s.tags := rfl
@[simp] theorem setCore_queues (s : State) (k : Nat) (c : CoreS) : (s.setCore k c).queues = s.queues := rfl
@[simp] theorem setCore_tick (s : State) (k : Nat) (c : CoreS) : (s.setCore k c).tick = s.tick := rfl
@[simp] theorem setCore_meters (s : State) (k : Nat) (c : CoreS) : (s.setCore k c).meters = s.meters := rfl
@[simp] theorem setCore_hamper (s : State) (k : Nat) (c : CoreS) : (s.setCore k c).hamper = s.hamper := rfl
@[simp] theorem setCore_press (s : State) (k : Nat) (c : CoreS) : (s.setCore k c).press = s.press := rfl
@[simp] theorem setCore_watch (s : State) (k : Nat) (c : CoreS) : (s.setCore k c).watch = s.watch := rfl
@[simp] theorem setCore_seals (s : State) (k : Nat) (c : CoreS) : (s.setCore k c).seals = s.seals := rfl
@[simp] theorem setCore_registry (s : State) (k : Nat) (c : CoreS) : (s.setCore k c).registry = s.registry := rfl
@[simp] theorem setCore_guard (s : State) (k : Nat) (c : CoreS) : (s.setCore k c).guard = s.guard := rfl
@[simp] theorem setCore_ports (s : State) (k : Nat) (c : CoreS) : (s.setCore k c).ports = s.ports := rfl
@[simp] theorem setCore_dict (s : State) (k : Nat) (c : CoreS) : (s.setCore k c).dict = s.dict := rfl
@[simp] theorem setCore_trust (s : State) (k : Nat) (c : CoreS) : (s.setCore k c).trust = s.trust := rfl
@[simp] theorem setCore_power (s : State) (k : Nat) (c : CoreS) : (s.setCore k c).power = s.power := rfl
@[simp] theorem setCore_peers (s : State) (k : Nat) (c : CoreS) : (s.setCore k c).peers = s.peers := rfl
@[simp] theorem setCore_emcyOn (s : State) (k : Nat) (c : CoreS) : (s.setCore k c).emcyOn = s.emcyOn := rfl
@[simp] theorem setCore_emcyLog (s : State) (k : Nat) (c : CoreS) : (s.setCore k c).emcyLog = s.emcyLog := rfl
@[simp] theorem setCore_mailOut (s : State) (k : Nat) (c : CoreS) : (s.setCore k c).mailOut = s.mailOut := rfl
@[simp] theorem setCore_tagLog (s : State) (k : Nat) (c : CoreS) : (s.setCore k c).tagLog = s.tagLog := rfl
@[simp] theorem setCore_ns (s : State) (k : Nat) (c : CoreS) : (s.setCore k c).ns = s.ns := rfl
@[simp] theorem setCore_fresh (s : State) (k : Nat) (c : CoreS) : (s.setCore k c).fresh = s.fresh := rfl
@[simp] theorem setCore_wire (s : State) (k : Nat) (c : CoreS) : (s.setCore k c).wire = s.wire := rfl
@[simp] theorem setCore_pending (s : State) (k : Nat) (c : CoreS) : (s.setCore k c).pending = s.pending := rfl

/-! ## onCore -/

@[simp] theorem onCore_ctl (s : State) (k : Nat) (g : CoreS → CoreS) : (s.onCore k g).ctl = s.ctl := rfl
@[simp] theorem onCore_mem (s : State) (k : Nat) (g : CoreS → CoreS) : (s.onCore k g).mem = s.mem := rfl
@[simp] theorem onCore_tags (s : State) (k : Nat) (g : CoreS → CoreS) : (s.onCore k g).tags = s.tags := rfl
@[simp] theorem onCore_queues (s : State) (k : Nat) (g : CoreS → CoreS) : (s.onCore k g).queues = s.queues := rfl
@[simp] theorem onCore_tick (s : State) (k : Nat) (g : CoreS → CoreS) : (s.onCore k g).tick = s.tick := rfl
@[simp] theorem onCore_meters (s : State) (k : Nat) (g : CoreS → CoreS) : (s.onCore k g).meters = s.meters := rfl
@[simp] theorem onCore_hamper (s : State) (k : Nat) (g : CoreS → CoreS) : (s.onCore k g).hamper = s.hamper := rfl
@[simp] theorem onCore_press (s : State) (k : Nat) (g : CoreS → CoreS) : (s.onCore k g).press = s.press := rfl
@[simp] theorem onCore_watch (s : State) (k : Nat) (g : CoreS → CoreS) : (s.onCore k g).watch = s.watch := rfl
@[simp] theorem onCore_seals (s : State) (k : Nat) (g : CoreS → CoreS) : (s.onCore k g).seals = s.seals := rfl
@[simp] theorem onCore_registry (s : State) (k : Nat) (g : CoreS → CoreS) : (s.onCore k g).registry = s.registry := rfl
@[simp] theorem onCore_guard (s : State) (k : Nat) (g : CoreS → CoreS) : (s.onCore k g).guard = s.guard := rfl
@[simp] theorem onCore_ports (s : State) (k : Nat) (g : CoreS → CoreS) : (s.onCore k g).ports = s.ports := rfl
@[simp] theorem onCore_dict (s : State) (k : Nat) (g : CoreS → CoreS) : (s.onCore k g).dict = s.dict := rfl
@[simp] theorem onCore_trust (s : State) (k : Nat) (g : CoreS → CoreS) : (s.onCore k g).trust = s.trust := rfl
@[simp] theorem onCore_power (s : State) (k : Nat) (g : CoreS → CoreS) : (s.onCore k g).power = s.power := rfl
@[simp] theorem onCore_peers (s : State) (k : Nat) (g : CoreS → CoreS) : (s.onCore k g).peers = s.peers := rfl
@[simp] theorem onCore_emcyOn (s : State) (k : Nat) (g : CoreS → CoreS) : (s.onCore k g).emcyOn = s.emcyOn := rfl
@[simp] theorem onCore_emcyLog (s : State) (k : Nat) (g : CoreS → CoreS) : (s.onCore k g).emcyLog = s.emcyLog := rfl
@[simp] theorem onCore_mailOut (s : State) (k : Nat) (g : CoreS → CoreS) : (s.onCore k g).mailOut = s.mailOut := rfl
@[simp] theorem onCore_tagLog (s : State) (k : Nat) (g : CoreS → CoreS) : (s.onCore k g).tagLog = s.tagLog := rfl
@[simp] theorem onCore_ns (s : State) (k : Nat) (g : CoreS → CoreS) : (s.onCore k g).ns = s.ns := rfl
@[simp] theorem onCore_fresh (s : State) (k : Nat) (g : CoreS → CoreS) : (s.onCore k g).fresh = s.fresh := rfl
@[simp] theorem onCore_wire (s : State) (k : Nat) (g : CoreS → CoreS) : (s.onCore k g).wire = s.wire := rfl
@[simp] theorem onCore_pending (s : State) (k : Nat) (g : CoreS → CoreS) : (s.onCore k g).pending = s.pending := rfl

/-! ## setTask -/

@[simp] theorem setTask_ctl (s : State) (t : Nat) (x : TaskSet) : (s.setTask t x).ctl = s.ctl := rfl
@[simp] theorem setTask_mem (s : State) (t : Nat) (x : TaskSet) : (s.setTask t x).mem = s.mem := rfl
@[simp] theorem setTask_tags (s : State) (t : Nat) (x : TaskSet) : (s.setTask t x).tags = s.tags := rfl
@[simp] theorem setTask_queues (s : State) (t : Nat) (x : TaskSet) : (s.setTask t x).queues = s.queues := rfl
@[simp] theorem setTask_tick (s : State) (t : Nat) (x : TaskSet) : (s.setTask t x).tick = s.tick := rfl
@[simp] theorem setTask_meters (s : State) (t : Nat) (x : TaskSet) : (s.setTask t x).meters = s.meters := rfl
@[simp] theorem setTask_hamper (s : State) (t : Nat) (x : TaskSet) : (s.setTask t x).hamper = s.hamper := rfl
@[simp] theorem setTask_press (s : State) (t : Nat) (x : TaskSet) : (s.setTask t x).press = s.press := rfl
@[simp] theorem setTask_watch (s : State) (t : Nat) (x : TaskSet) : (s.setTask t x).watch = s.watch := rfl
@[simp] theorem setTask_seals (s : State) (t : Nat) (x : TaskSet) : (s.setTask t x).seals = s.seals := rfl
@[simp] theorem setTask_registry (s : State) (t : Nat) (x : TaskSet) : (s.setTask t x).registry = s.registry := rfl
@[simp] theorem setTask_guard (s : State) (t : Nat) (x : TaskSet) : (s.setTask t x).guard = s.guard := rfl
@[simp] theorem setTask_ports (s : State) (t : Nat) (x : TaskSet) : (s.setTask t x).ports = s.ports := rfl
@[simp] theorem setTask_dict (s : State) (t : Nat) (x : TaskSet) : (s.setTask t x).dict = s.dict := rfl
@[simp] theorem setTask_trust (s : State) (t : Nat) (x : TaskSet) : (s.setTask t x).trust = s.trust := rfl
@[simp] theorem setTask_power (s : State) (t : Nat) (x : TaskSet) : (s.setTask t x).power = s.power := rfl
@[simp] theorem setTask_peers (s : State) (t : Nat) (x : TaskSet) : (s.setTask t x).peers = s.peers := rfl
@[simp] theorem setTask_emcyOn (s : State) (t : Nat) (x : TaskSet) : (s.setTask t x).emcyOn = s.emcyOn := rfl
@[simp] theorem setTask_emcyLog (s : State) (t : Nat) (x : TaskSet) : (s.setTask t x).emcyLog = s.emcyLog := rfl
@[simp] theorem setTask_mailOut (s : State) (t : Nat) (x : TaskSet) : (s.setTask t x).mailOut = s.mailOut := rfl
@[simp] theorem setTask_tagLog (s : State) (t : Nat) (x : TaskSet) : (s.setTask t x).tagLog = s.tagLog := rfl
@[simp] theorem setTask_ns (s : State) (t : Nat) (x : TaskSet) : (s.setTask t x).ns = s.ns := rfl
@[simp] theorem setTask_fresh (s : State) (t : Nat) (x : TaskSet) : (s.setTask t x).fresh = s.fresh := rfl
@[simp] theorem setTask_wire (s : State) (t : Nat) (x : TaskSet) : (s.setTask t x).wire = s.wire := rfl
@[simp] theorem setTask_pending (s : State) (t : Nat) (x : TaskSet) : (s.setTask t x).pending = s.pending := rfl

/-! ## setQueue -/

@[simp] theorem setQueue_ctl (s : State) (q : Nat) (x : Queue) : (s.setQueue q x).ctl = s.ctl := rfl
@[simp] theorem setQueue_mem (s : State) (q : Nat) (x : Queue) : (s.setQueue q x).mem = s.mem := rfl
@[simp] theorem setQueue_tags (s : State) (q : Nat) (x : Queue) : (s.setQueue q x).tags = s.tags := rfl
@[simp] theorem setQueue_tick (s : State) (q : Nat) (x : Queue) : (s.setQueue q x).tick = s.tick := rfl
@[simp] theorem setQueue_meters (s : State) (q : Nat) (x : Queue) : (s.setQueue q x).meters = s.meters := rfl
@[simp] theorem setQueue_hamper (s : State) (q : Nat) (x : Queue) : (s.setQueue q x).hamper = s.hamper := rfl
@[simp] theorem setQueue_press (s : State) (q : Nat) (x : Queue) : (s.setQueue q x).press = s.press := rfl
@[simp] theorem setQueue_watch (s : State) (q : Nat) (x : Queue) : (s.setQueue q x).watch = s.watch := rfl
@[simp] theorem setQueue_seals (s : State) (q : Nat) (x : Queue) : (s.setQueue q x).seals = s.seals := rfl
@[simp] theorem setQueue_registry (s : State) (q : Nat) (x : Queue) : (s.setQueue q x).registry = s.registry := rfl
@[simp] theorem setQueue_guard (s : State) (q : Nat) (x : Queue) : (s.setQueue q x).guard = s.guard := rfl
@[simp] theorem setQueue_cores (s : State) (q : Nat) (x : Queue) : (s.setQueue q x).cores = s.cores := rfl
@[simp] theorem setQueue_ports (s : State) (q : Nat) (x : Queue) : (s.setQueue q x).ports = s.ports := rfl
@[simp] theorem setQueue_dict (s : State) (q : Nat) (x : Queue) : (s.setQueue q x).dict = s.dict := rfl
@[simp] theorem setQueue_trust (s : State) (q : Nat) (x : Queue) : (s.setQueue q x).trust = s.trust := rfl
@[simp] theorem setQueue_power (s : State) (q : Nat) (x : Queue) : (s.setQueue q x).power = s.power := rfl
@[simp] theorem setQueue_peers (s : State) (q : Nat) (x : Queue) : (s.setQueue q x).peers = s.peers := rfl
@[simp] theorem setQueue_emcyOn (s : State) (q : Nat) (x : Queue) : (s.setQueue q x).emcyOn = s.emcyOn := rfl
@[simp] theorem setQueue_emcyLog (s : State) (q : Nat) (x : Queue) : (s.setQueue q x).emcyLog = s.emcyLog := rfl
@[simp] theorem setQueue_mailOut (s : State) (q : Nat) (x : Queue) : (s.setQueue q x).mailOut = s.mailOut := rfl
@[simp] theorem setQueue_tagLog (s : State) (q : Nat) (x : Queue) : (s.setQueue q x).tagLog = s.tagLog := rfl
@[simp] theorem setQueue_ns (s : State) (q : Nat) (x : Queue) : (s.setQueue q x).ns = s.ns := rfl
@[simp] theorem setQueue_fresh (s : State) (q : Nat) (x : Queue) : (s.setQueue q x).fresh = s.fresh := rfl
@[simp] theorem setQueue_wire (s : State) (q : Nat) (x : Queue) : (s.setQueue q x).wire = s.wire := rfl
@[simp] theorem setQueue_pending (s : State) (q : Nat) (x : Queue) : (s.setQueue q x).pending = s.pending := rfl

/-! ## putByte -/

@[simp] theorem putByte_ctl (s : State) (a : Nat) (v : Byte) : (s.putByte a v).ctl = s.ctl := rfl
@[simp] theorem putByte_queues (s : State) (a : Nat) (v : Byte) : (s.putByte a v).queues = s.queues := rfl
@[simp] theorem putByte_tick (s : State) (a : Nat) (v : Byte) : (s.putByte a v).tick = s.tick := rfl
@[simp] theorem putByte_meters (s : State) (a : Nat) (v : Byte) : (s.putByte a v).meters = s.meters := rfl
@[simp] theorem putByte_hamper (s : State) (a : Nat) (v : Byte) : (s.putByte a v).hamper = s.hamper := rfl
@[simp] theorem putByte_press (s : State) (a : Nat) (v : Byte) : (s.putByte a v).press = s.press := rfl
@[simp] theorem putByte_watch (s : State) (a : Nat) (v : Byte) : (s.putByte a v).watch = s.watch := rfl
@[simp] theorem putByte_seals (s : State) (a : Nat) (v : Byte) : (s.putByte a v).seals = s.seals := rfl
@[simp] theorem putByte_registry (s : State) (a : Nat) (v : Byte) : (s.putByte a v).registry = s.registry := rfl
@[simp] theorem putByte_guard (s : State) (a : Nat) (v : Byte) : (s.putByte a v).guard = s.guard := rfl
@[simp] theorem putByte_cores (s : State) (a : Nat) (v : Byte) : (s.putByte a v).cores = s.cores := rfl
@[simp] theorem putByte_ports (s : State) (a : Nat) (v : Byte) : (s.putByte a v).ports = s.ports := rfl
@[simp] theorem putByte_dict (s : State) (a : Nat) (v : Byte) : (s.putByte a v).dict = s.dict := rfl
@[simp] theorem putByte_trust (s : State) (a : Nat) (v : Byte) : (s.putByte a v).trust = s.trust := rfl
@[simp] theorem putByte_power (s : State) (a : Nat) (v : Byte) : (s.putByte a v).power = s.power := rfl
@[simp] theorem putByte_peers (s : State) (a : Nat) (v : Byte) : (s.putByte a v).peers = s.peers := rfl
@[simp] theorem putByte_emcyOn (s : State) (a : Nat) (v : Byte) : (s.putByte a v).emcyOn = s.emcyOn := rfl
@[simp] theorem putByte_emcyLog (s : State) (a : Nat) (v : Byte) : (s.putByte a v).emcyLog = s.emcyLog := rfl
@[simp] theorem putByte_mailOut (s : State) (a : Nat) (v : Byte) : (s.putByte a v).mailOut = s.mailOut := rfl
@[simp] theorem putByte_tagLog (s : State) (a : Nat) (v : Byte) : (s.putByte a v).tagLog = s.tagLog := rfl
@[simp] theorem putByte_ns (s : State) (a : Nat) (v : Byte) : (s.putByte a v).ns = s.ns := rfl
@[simp] theorem putByte_fresh (s : State) (a : Nat) (v : Byte) : (s.putByte a v).fresh = s.fresh := rfl
@[simp] theorem putByte_wire (s : State) (a : Nat) (v : Byte) : (s.putByte a v).wire = s.wire := rfl
@[simp] theorem putByte_pending (s : State) (a : Nat) (v : Byte) : (s.putByte a v).pending = s.pending := rfl

/-! ## setTag -/

@[simp] theorem setTag_ctl (s : State) (g : Nat) (t : Bool) : (s.setTag g t).ctl = s.ctl := rfl
@[simp] theorem setTag_mem (s : State) (g : Nat) (t : Bool) : (s.setTag g t).mem = s.mem := rfl
@[simp] theorem setTag_queues (s : State) (g : Nat) (t : Bool) : (s.setTag g t).queues = s.queues := rfl
@[simp] theorem setTag_tick (s : State) (g : Nat) (t : Bool) : (s.setTag g t).tick = s.tick := rfl
@[simp] theorem setTag_meters (s : State) (g : Nat) (t : Bool) : (s.setTag g t).meters = s.meters := rfl
@[simp] theorem setTag_hamper (s : State) (g : Nat) (t : Bool) : (s.setTag g t).hamper = s.hamper := rfl
@[simp] theorem setTag_press (s : State) (g : Nat) (t : Bool) : (s.setTag g t).press = s.press := rfl
@[simp] theorem setTag_watch (s : State) (g : Nat) (t : Bool) : (s.setTag g t).watch = s.watch := rfl
@[simp] theorem setTag_seals (s : State) (g : Nat) (t : Bool) : (s.setTag g t).seals = s.seals := rfl
@[simp] theorem setTag_registry (s : State) (g : Nat) (t : Bool) : (s.setTag g t).registry = s.registry := rfl
@[simp] theorem setTag_guard (s : State) (g : Nat) (t : Bool) : (s.setTag g t).guard = s.guard := rfl
@[simp] theorem setTag_cores (s : State) (g : Nat) (t : Bool) : (s.setTag g t).cores = s.cores := rfl
@[simp] theorem setTag_ports (s : State) (g : Nat) (t : Bool) : (s.setTag g t).ports = s.ports := rfl
@[simp] theorem setTag_dict (s : State) (g : Nat) (t : Bool) : (s.setTag g t).dict = s.dict := rfl
@[simp] theorem setTag_trust (s : State) (g : Nat) (t : Bool) : (s.setTag g t).trust = s.trust := rfl
@[simp] theorem setTag_power (s : State) (g : Nat) (t : Bool) : (s.setTag g t).power = s.power := rfl
@[simp] theorem setTag_peers (s : State) (g : Nat) (t : Bool) : (s.setTag g t).peers = s.peers := rfl
@[simp] theorem setTag_emcyOn (s : State) (g : Nat) (t : Bool) : (s.setTag g t).emcyOn = s.emcyOn := rfl
@[simp] theorem setTag_emcyLog (s : State) (g : Nat) (t : Bool) : (s.setTag g t).emcyLog = s.emcyLog := rfl
@[simp] theorem setTag_mailOut (s : State) (g : Nat) (t : Bool) : (s.setTag g t).mailOut = s.mailOut := rfl
@[simp] theorem setTag_tagLog (s : State) (g : Nat) (t : Bool) : (s.setTag g t).tagLog = s.tagLog := rfl
@[simp] theorem setTag_ns (s : State) (g : Nat) (t : Bool) : (s.setTag g t).ns = s.ns := rfl
@[simp] theorem setTag_fresh (s : State) (g : Nat) (t : Bool) : (s.setTag g t).fresh = s.fresh := rfl
@[simp] theorem setTag_wire (s : State) (g : Nat) (t : Bool) : (s.setTag g t).wire = s.wire := rfl
@[simp] theorem setTag_pending (s : State) (g : Nat) (t : Bool) : (s.setTag g t).pending = s.pending := rfl

/-! ## charge -/

@[simp] theorem charge_ctl (s : State) (m : Meter) (n : Nat) : (s.charge m n).ctl = s.ctl := rfl
@[simp] theorem charge_mem (s : State) (m : Meter) (n : Nat) : (s.charge m n).mem = s.mem := rfl
@[simp] theorem charge_tags (s : State) (m : Meter) (n : Nat) : (s.charge m n).tags = s.tags := rfl
@[simp] theorem charge_queues (s : State) (m : Meter) (n : Nat) : (s.charge m n).queues = s.queues := rfl
@[simp] theorem charge_tick (s : State) (m : Meter) (n : Nat) : (s.charge m n).tick = s.tick := rfl
@[simp] theorem charge_hamper (s : State) (m : Meter) (n : Nat) : (s.charge m n).hamper = s.hamper := rfl
@[simp] theorem charge_press (s : State) (m : Meter) (n : Nat) : (s.charge m n).press = s.press := rfl
@[simp] theorem charge_watch (s : State) (m : Meter) (n : Nat) : (s.charge m n).watch = s.watch := rfl
@[simp] theorem charge_seals (s : State) (m : Meter) (n : Nat) : (s.charge m n).seals = s.seals := rfl
@[simp] theorem charge_registry (s : State) (m : Meter) (n : Nat) : (s.charge m n).registry = s.registry := rfl
@[simp] theorem charge_guard (s : State) (m : Meter) (n : Nat) : (s.charge m n).guard = s.guard := rfl
@[simp] theorem charge_cores (s : State) (m : Meter) (n : Nat) : (s.charge m n).cores = s.cores := rfl
@[simp] theorem charge_ports (s : State) (m : Meter) (n : Nat) : (s.charge m n).ports = s.ports := rfl
@[simp] theorem charge_dict (s : State) (m : Meter) (n : Nat) : (s.charge m n).dict = s.dict := rfl
@[simp] theorem charge_trust (s : State) (m : Meter) (n : Nat) : (s.charge m n).trust = s.trust := rfl
@[simp] theorem charge_power (s : State) (m : Meter) (n : Nat) : (s.charge m n).power = s.power := rfl
@[simp] theorem charge_peers (s : State) (m : Meter) (n : Nat) : (s.charge m n).peers = s.peers := rfl
@[simp] theorem charge_emcyOn (s : State) (m : Meter) (n : Nat) : (s.charge m n).emcyOn = s.emcyOn := rfl
@[simp] theorem charge_emcyLog (s : State) (m : Meter) (n : Nat) : (s.charge m n).emcyLog = s.emcyLog := rfl
@[simp] theorem charge_mailOut (s : State) (m : Meter) (n : Nat) : (s.charge m n).mailOut = s.mailOut := rfl
@[simp] theorem charge_tagLog (s : State) (m : Meter) (n : Nat) : (s.charge m n).tagLog = s.tagLog := rfl
@[simp] theorem charge_ns (s : State) (m : Meter) (n : Nat) : (s.charge m n).ns = s.ns := rfl
@[simp] theorem charge_fresh (s : State) (m : Meter) (n : Nat) : (s.charge m n).fresh = s.fresh := rfl
@[simp] theorem charge_wire (s : State) (m : Meter) (n : Nat) : (s.charge m n).wire = s.wire := rfl
@[simp] theorem charge_pending (s : State) (m : Meter) (n : Nat) : (s.charge m n).pending = s.pending := rfl

/-! ## noteHeld -/

@[simp] theorem noteHeld_ctl (s : State) (m : Meter) : (s.noteHeld m).ctl = s.ctl := rfl
@[simp] theorem noteHeld_mem (s : State) (m : Meter) : (s.noteHeld m).mem = s.mem := rfl
@[simp] theorem noteHeld_tags (s : State) (m : Meter) : (s.noteHeld m).tags = s.tags := rfl
@[simp] theorem noteHeld_queues (s : State) (m : Meter) : (s.noteHeld m).queues = s.queues := rfl
@[simp] theorem noteHeld_tick (s : State) (m : Meter) : (s.noteHeld m).tick = s.tick := rfl
@[simp] theorem noteHeld_hamper (s : State) (m : Meter) : (s.noteHeld m).hamper = s.hamper := rfl
@[simp] theorem noteHeld_press (s : State) (m : Meter) : (s.noteHeld m).press = s.press := rfl
@[simp] theorem noteHeld_watch (s : State) (m : Meter) : (s.noteHeld m).watch = s.watch := rfl
@[simp] theorem noteHeld_seals (s : State) (m : Meter) : (s.noteHeld m).seals = s.seals := rfl
@[simp] theorem noteHeld_registry (s : State) (m : Meter) : (s.noteHeld m).registry = s.registry := rfl
@[simp] theorem noteHeld_guard (s : State) (m : Meter) : (s.noteHeld m).guard = s.guard := rfl
@[simp] theorem noteHeld_cores (s : State) (m : Meter) : (s.noteHeld m).cores = s.cores := rfl
@[simp] theorem noteHeld_ports (s : State) (m : Meter) : (s.noteHeld m).ports = s.ports := rfl
@[simp] theorem noteHeld_dict (s : State) (m : Meter) : (s.noteHeld m).dict = s.dict := rfl
@[simp] theorem noteHeld_trust (s : State) (m : Meter) : (s.noteHeld m).trust = s.trust := rfl
@[simp] theorem noteHeld_power (s : State) (m : Meter) : (s.noteHeld m).power = s.power := rfl
@[simp] theorem noteHeld_peers (s : State) (m : Meter) : (s.noteHeld m).peers = s.peers := rfl
@[simp] theorem noteHeld_emcyOn (s : State) (m : Meter) : (s.noteHeld m).emcyOn = s.emcyOn := rfl
@[simp] theorem noteHeld_emcyLog (s : State) (m : Meter) : (s.noteHeld m).emcyLog = s.emcyLog := rfl
@[simp] theorem noteHeld_mailOut (s : State) (m : Meter) : (s.noteHeld m).mailOut = s.mailOut := rfl
@[simp] theorem noteHeld_tagLog (s : State) (m : Meter) : (s.noteHeld m).tagLog = s.tagLog := rfl
@[simp] theorem noteHeld_ns (s : State) (m : Meter) : (s.noteHeld m).ns = s.ns := rfl
@[simp] theorem noteHeld_fresh (s : State) (m : Meter) : (s.noteHeld m).fresh = s.fresh := rfl
@[simp] theorem noteHeld_wire (s : State) (m : Meter) : (s.noteHeld m).wire = s.wire := rfl
@[simp] theorem noteHeld_pending (s : State) (m : Meter) : (s.noteHeld m).pending = s.pending := rfl

/-! ## onPress -/

@[simp] theorem onPress_ctl (s : State) (g : PressS → PressS) : (s.onPress g).ctl = s.ctl := rfl
@[simp] theorem onPress_mem (s : State) (g : PressS → PressS) : (s.onPress g).mem = s.mem := rfl
@[simp] theorem onPress_tags (s : State) (g : PressS → PressS) : (s.onPress g).tags = s.tags := rfl
@[simp] theorem onPress_queues (s : State) (g : PressS → PressS) : (s.onPress g).queues = s.queues := rfl
@[simp] theorem onPress_tick (s : State) (g : PressS → PressS) : (s.onPress g).tick = s.tick := rfl
@[simp] theorem onPress_meters (s : State) (g : PressS → PressS) : (s.onPress g).meters = s.meters := rfl
@[simp] theorem onPress_hamper (s : State) (g : PressS → PressS) : (s.onPress g).hamper = s.hamper := rfl
@[simp] theorem onPress_watch (s : State) (g : PressS → PressS) : (s.onPress g).watch = s.watch := rfl
@[simp] theorem onPress_seals (s : State) (g : PressS → PressS) : (s.onPress g).seals = s.seals := rfl
@[simp] theorem onPress_registry (s : State) (g : PressS → PressS) : (s.onPress g).registry = s.registry := rfl
@[simp] theorem onPress_guard (s : State) (g : PressS → PressS) : (s.onPress g).guard = s.guard := rfl
@[simp] theorem onPress_cores (s : State) (g : PressS → PressS) : (s.onPress g).cores = s.cores := rfl
@[simp] theorem onPress_ports (s : State) (g : PressS → PressS) : (s.onPress g).ports = s.ports := rfl
@[simp] theorem onPress_dict (s : State) (g : PressS → PressS) : (s.onPress g).dict = s.dict := rfl
@[simp] theorem onPress_trust (s : State) (g : PressS → PressS) : (s.onPress g).trust = s.trust := rfl
@[simp] theorem onPress_power (s : State) (g : PressS → PressS) : (s.onPress g).power = s.power := rfl
@[simp] theorem onPress_peers (s : State) (g : PressS → PressS) : (s.onPress g).peers = s.peers := rfl
@[simp] theorem onPress_emcyOn (s : State) (g : PressS → PressS) : (s.onPress g).emcyOn = s.emcyOn := rfl
@[simp] theorem onPress_emcyLog (s : State) (g : PressS → PressS) : (s.onPress g).emcyLog = s.emcyLog := rfl
@[simp] theorem onPress_mailOut (s : State) (g : PressS → PressS) : (s.onPress g).mailOut = s.mailOut := rfl
@[simp] theorem onPress_tagLog (s : State) (g : PressS → PressS) : (s.onPress g).tagLog = s.tagLog := rfl
@[simp] theorem onPress_ns (s : State) (g : PressS → PressS) : (s.onPress g).ns = s.ns := rfl
@[simp] theorem onPress_fresh (s : State) (g : PressS → PressS) : (s.onPress g).fresh = s.fresh := rfl
@[simp] theorem onPress_wire (s : State) (g : PressS → PressS) : (s.onPress g).wire = s.wire := rfl
@[simp] theorem onPress_pending (s : State) (g : PressS → PressS) : (s.onPress g).pending = s.pending := rfl

/-! ## onTrust -/

@[simp] theorem onTrust_ctl (s : State) (g : TrustS → TrustS) : (s.onTrust g).ctl = s.ctl := rfl
@[simp] theorem onTrust_mem (s : State) (g : TrustS → TrustS) : (s.onTrust g).mem = s.mem := rfl
@[simp] theorem onTrust_tags (s : State) (g : TrustS → TrustS) : (s.onTrust g).tags = s.tags := rfl
@[simp] theorem onTrust_queues (s : State) (g : TrustS → TrustS) : (s.onTrust g).queues = s.queues := rfl
@[simp] theorem onTrust_tick (s : State) (g : TrustS → TrustS) : (s.onTrust g).tick = s.tick := rfl
@[simp] theorem onTrust_meters (s : State) (g : TrustS → TrustS) : (s.onTrust g).meters = s.meters := rfl
@[simp] theorem onTrust_hamper (s : State) (g : TrustS → TrustS) : (s.onTrust g).hamper = s.hamper := rfl
@[simp] theorem onTrust_press (s : State) (g : TrustS → TrustS) : (s.onTrust g).press = s.press := rfl
@[simp] theorem onTrust_watch (s : State) (g : TrustS → TrustS) : (s.onTrust g).watch = s.watch := rfl
@[simp] theorem onTrust_seals (s : State) (g : TrustS → TrustS) : (s.onTrust g).seals = s.seals := rfl
@[simp] theorem onTrust_registry (s : State) (g : TrustS → TrustS) : (s.onTrust g).registry = s.registry := rfl
@[simp] theorem onTrust_guard (s : State) (g : TrustS → TrustS) : (s.onTrust g).guard = s.guard := rfl
@[simp] theorem onTrust_cores (s : State) (g : TrustS → TrustS) : (s.onTrust g).cores = s.cores := rfl
@[simp] theorem onTrust_ports (s : State) (g : TrustS → TrustS) : (s.onTrust g).ports = s.ports := rfl
@[simp] theorem onTrust_dict (s : State) (g : TrustS → TrustS) : (s.onTrust g).dict = s.dict := rfl
@[simp] theorem onTrust_power (s : State) (g : TrustS → TrustS) : (s.onTrust g).power = s.power := rfl
@[simp] theorem onTrust_peers (s : State) (g : TrustS → TrustS) : (s.onTrust g).peers = s.peers := rfl
@[simp] theorem onTrust_emcyOn (s : State) (g : TrustS → TrustS) : (s.onTrust g).emcyOn = s.emcyOn := rfl
@[simp] theorem onTrust_emcyLog (s : State) (g : TrustS → TrustS) : (s.onTrust g).emcyLog = s.emcyLog := rfl
@[simp] theorem onTrust_mailOut (s : State) (g : TrustS → TrustS) : (s.onTrust g).mailOut = s.mailOut := rfl
@[simp] theorem onTrust_tagLog (s : State) (g : TrustS → TrustS) : (s.onTrust g).tagLog = s.tagLog := rfl
@[simp] theorem onTrust_ns (s : State) (g : TrustS → TrustS) : (s.onTrust g).ns = s.ns := rfl
@[simp] theorem onTrust_fresh (s : State) (g : TrustS → TrustS) : (s.onTrust g).fresh = s.fresh := rfl
@[simp] theorem onTrust_wire (s : State) (g : TrustS → TrustS) : (s.onTrust g).wire = s.wire := rfl
@[simp] theorem onTrust_pending (s : State) (g : TrustS → TrustS) : (s.onTrust g).pending = s.pending := rfl

/-! ## onDict -/

@[simp] theorem onDict_ctl (s : State) (g : DictS → DictS) : (s.onDict g).ctl = s.ctl := rfl
@[simp] theorem onDict_mem (s : State) (g : DictS → DictS) : (s.onDict g).mem = s.mem := rfl
@[simp] theorem onDict_tags (s : State) (g : DictS → DictS) : (s.onDict g).tags = s.tags := rfl
@[simp] theorem onDict_queues (s : State) (g : DictS → DictS) : (s.onDict g).queues = s.queues := rfl
@[simp] theorem onDict_tick (s : State) (g : DictS → DictS) : (s.onDict g).tick = s.tick := rfl
@[simp] theorem onDict_meters (s : State) (g : DictS → DictS) : (s.onDict g).meters = s.meters := rfl
@[simp] theorem onDict_hamper (s : State) (g : DictS → DictS) : (s.onDict g).hamper = s.hamper := rfl
@[simp] theorem onDict_press (s : State) (g : DictS → DictS) : (s.onDict g).press = s.press := rfl
@[simp] theorem onDict_watch (s : State) (g : DictS → DictS) : (s.onDict g).watch = s.watch := rfl
@[simp] theorem onDict_seals (s : State) (g : DictS → DictS) : (s.onDict g).seals = s.seals := rfl
@[simp] theorem onDict_registry (s : State) (g : DictS → DictS) : (s.onDict g).registry = s.registry := rfl
@[simp] theorem onDict_guard (s : State) (g : DictS → DictS) : (s.onDict g).guard = s.guard := rfl
@[simp] theorem onDict_cores (s : State) (g : DictS → DictS) : (s.onDict g).cores = s.cores := rfl
@[simp] theorem onDict_ports (s : State) (g : DictS → DictS) : (s.onDict g).ports = s.ports := rfl
@[simp] theorem onDict_trust (s : State) (g : DictS → DictS) : (s.onDict g).trust = s.trust := rfl
@[simp] theorem onDict_power (s : State) (g : DictS → DictS) : (s.onDict g).power = s.power := rfl
@[simp] theorem onDict_peers (s : State) (g : DictS → DictS) : (s.onDict g).peers = s.peers := rfl
@[simp] theorem onDict_emcyOn (s : State) (g : DictS → DictS) : (s.onDict g).emcyOn = s.emcyOn := rfl
@[simp] theorem onDict_emcyLog (s : State) (g : DictS → DictS) : (s.onDict g).emcyLog = s.emcyLog := rfl
@[simp] theorem onDict_mailOut (s : State) (g : DictS → DictS) : (s.onDict g).mailOut = s.mailOut := rfl
@[simp] theorem onDict_tagLog (s : State) (g : DictS → DictS) : (s.onDict g).tagLog = s.tagLog := rfl
@[simp] theorem onDict_ns (s : State) (g : DictS → DictS) : (s.onDict g).ns = s.ns := rfl
@[simp] theorem onDict_fresh (s : State) (g : DictS → DictS) : (s.onDict g).fresh = s.fresh := rfl
@[simp] theorem onDict_wire (s : State) (g : DictS → DictS) : (s.onDict g).wire = s.wire := rfl
@[simp] theorem onDict_pending (s : State) (g : DictS → DictS) : (s.onDict g).pending = s.pending := rfl

/-! ## onPorts -/

@[simp] theorem onPorts_ctl (s : State) (g : PortsS → PortsS) : (s.onPorts g).ctl = s.ctl := rfl
@[simp] theorem onPorts_mem (s : State) (g : PortsS → PortsS) : (s.onPorts g).mem = s.mem := rfl
@[simp] theorem onPorts_tags (s : State) (g : PortsS → PortsS) : (s.onPorts g).tags = s.tags := rfl
@[simp] theorem onPorts_queues (s : State) (g : PortsS → PortsS) : (s.onPorts g).queues = s.queues := rfl
@[simp] theorem onPorts_tick (s : State) (g : PortsS → PortsS) : (s.onPorts g).tick = s.tick := rfl
@[simp] theorem onPorts_meters (s : State) (g : PortsS → PortsS) : (s.onPorts g).meters = s.meters := rfl
@[simp] theorem onPorts_hamper (s : State) (g : PortsS → PortsS) : (s.onPorts g).hamper = s.hamper := rfl
@[simp] theorem onPorts_press (s : State) (g : PortsS → PortsS) : (s.onPorts g).press = s.press := rfl
@[simp] theorem onPorts_watch (s : State) (g : PortsS → PortsS) : (s.onPorts g).watch = s.watch := rfl
@[simp] theorem onPorts_seals (s : State) (g : PortsS → PortsS) : (s.onPorts g).seals = s.seals := rfl
@[simp] theorem onPorts_registry (s : State) (g : PortsS → PortsS) : (s.onPorts g).registry = s.registry := rfl
@[simp] theorem onPorts_guard (s : State) (g : PortsS → PortsS) : (s.onPorts g).guard = s.guard := rfl
@[simp] theorem onPorts_cores (s : State) (g : PortsS → PortsS) : (s.onPorts g).cores = s.cores := rfl
@[simp] theorem onPorts_dict (s : State) (g : PortsS → PortsS) : (s.onPorts g).dict = s.dict := rfl
@[simp] theorem onPorts_trust (s : State) (g : PortsS → PortsS) : (s.onPorts g).trust = s.trust := rfl
@[simp] theorem onPorts_power (s : State) (g : PortsS → PortsS) : (s.onPorts g).power = s.power := rfl
@[simp] theorem onPorts_peers (s : State) (g : PortsS → PortsS) : (s.onPorts g).peers = s.peers := rfl
@[simp] theorem onPorts_emcyOn (s : State) (g : PortsS → PortsS) : (s.onPorts g).emcyOn = s.emcyOn := rfl
@[simp] theorem onPorts_emcyLog (s : State) (g : PortsS → PortsS) : (s.onPorts g).emcyLog = s.emcyLog := rfl
@[simp] theorem onPorts_mailOut (s : State) (g : PortsS → PortsS) : (s.onPorts g).mailOut = s.mailOut := rfl
@[simp] theorem onPorts_tagLog (s : State) (g : PortsS → PortsS) : (s.onPorts g).tagLog = s.tagLog := rfl
@[simp] theorem onPorts_ns (s : State) (g : PortsS → PortsS) : (s.onPorts g).ns = s.ns := rfl
@[simp] theorem onPorts_fresh (s : State) (g : PortsS → PortsS) : (s.onPorts g).fresh = s.fresh := rfl
@[simp] theorem onPorts_wire (s : State) (g : PortsS → PortsS) : (s.onPorts g).wire = s.wire := rfl
@[simp] theorem onPorts_pending (s : State) (g : PortsS → PortsS) : (s.onPorts g).pending = s.pending := rfl

/-! ## onPower -/

@[simp] theorem onPower_ctl (s : State) (g : PowerS → PowerS) : (s.onPower g).ctl = s.ctl := rfl
@[simp] theorem onPower_mem (s : State) (g : PowerS → PowerS) : (s.onPower g).mem = s.mem := rfl
@[simp] theorem onPower_tags (s : State) (g : PowerS → PowerS) : (s.onPower g).tags = s.tags := rfl
@[simp] theorem onPower_queues (s : State) (g : PowerS → PowerS) : (s.onPower g).queues = s.queues := rfl
@[simp] theorem onPower_tick (s : State) (g : PowerS → PowerS) : (s.onPower g).tick = s.tick := rfl
@[simp] theorem onPower_meters (s : State) (g : PowerS → PowerS) : (s.onPower g).meters = s.meters := rfl
@[simp] theorem onPower_hamper (s : State) (g : PowerS → PowerS) : (s.onPower g).hamper = s.hamper := rfl
@[simp] theorem onPower_press (s : State) (g : PowerS → PowerS) : (s.onPower g).press = s.press := rfl
@[simp] theorem onPower_watch (s : State) (g : PowerS → PowerS) : (s.onPower g).watch = s.watch := rfl
@[simp] theorem onPower_seals (s : State) (g : PowerS → PowerS) : (s.onPower g).seals = s.seals := rfl
@[simp] theorem onPower_registry (s : State) (g : PowerS → PowerS) : (s.onPower g).registry = s.registry := rfl
@[simp] theorem onPower_guard (s : State) (g : PowerS → PowerS) : (s.onPower g).guard = s.guard := rfl
@[simp] theorem onPower_cores (s : State) (g : PowerS → PowerS) : (s.onPower g).cores = s.cores := rfl
@[simp] theorem onPower_ports (s : State) (g : PowerS → PowerS) : (s.onPower g).ports = s.ports := rfl
@[simp] theorem onPower_dict (s : State) (g : PowerS → PowerS) : (s.onPower g).dict = s.dict := rfl
@[simp] theorem onPower_trust (s : State) (g : PowerS → PowerS) : (s.onPower g).trust = s.trust := rfl
@[simp] theorem onPower_peers (s : State) (g : PowerS → PowerS) : (s.onPower g).peers = s.peers := rfl
@[simp] theorem onPower_emcyOn (s : State) (g : PowerS → PowerS) : (s.onPower g).emcyOn = s.emcyOn := rfl
@[simp] theorem onPower_emcyLog (s : State) (g : PowerS → PowerS) : (s.onPower g).emcyLog = s.emcyLog := rfl
@[simp] theorem onPower_mailOut (s : State) (g : PowerS → PowerS) : (s.onPower g).mailOut = s.mailOut := rfl
@[simp] theorem onPower_tagLog (s : State) (g : PowerS → PowerS) : (s.onPower g).tagLog = s.tagLog := rfl
@[simp] theorem onPower_ns (s : State) (g : PowerS → PowerS) : (s.onPower g).ns = s.ns := rfl
@[simp] theorem onPower_fresh (s : State) (g : PowerS → PowerS) : (s.onPower g).fresh = s.fresh := rfl
@[simp] theorem onPower_wire (s : State) (g : PowerS → PowerS) : (s.onPower g).wire = s.wire := rfl
@[simp] theorem onPower_pending (s : State) (g : PowerS → PowerS) : (s.onPower g).pending = s.pending := rfl

/-! ## onGuard -/

@[simp] theorem onGuard_ctl (s : State) (g : GuardS → GuardS) : (s.onGuard g).ctl = s.ctl := rfl
@[simp] theorem onGuard_mem (s : State) (g : GuardS → GuardS) : (s.onGuard g).mem = s.mem := rfl
@[simp] theorem onGuard_tags (s : State) (g : GuardS → GuardS) : (s.onGuard g).tags = s.tags := rfl
@[simp] theorem onGuard_queues (s : State) (g : GuardS → GuardS) : (s.onGuard g).queues = s.queues := rfl
@[simp] theorem onGuard_tick (s : State) (g : GuardS → GuardS) : (s.onGuard g).tick = s.tick := rfl
@[simp] theorem onGuard_meters (s : State) (g : GuardS → GuardS) : (s.onGuard g).meters = s.meters := rfl
@[simp] theorem onGuard_hamper (s : State) (g : GuardS → GuardS) : (s.onGuard g).hamper = s.hamper := rfl
@[simp] theorem onGuard_press (s : State) (g : GuardS → GuardS) : (s.onGuard g).press = s.press := rfl
@[simp] theorem onGuard_watch (s : State) (g : GuardS → GuardS) : (s.onGuard g).watch = s.watch := rfl
@[simp] theorem onGuard_seals (s : State) (g : GuardS → GuardS) : (s.onGuard g).seals = s.seals := rfl
@[simp] theorem onGuard_registry (s : State) (g : GuardS → GuardS) : (s.onGuard g).registry = s.registry := rfl
@[simp] theorem onGuard_cores (s : State) (g : GuardS → GuardS) : (s.onGuard g).cores = s.cores := rfl
@[simp] theorem onGuard_ports (s : State) (g : GuardS → GuardS) : (s.onGuard g).ports = s.ports := rfl
@[simp] theorem onGuard_dict (s : State) (g : GuardS → GuardS) : (s.onGuard g).dict = s.dict := rfl
@[simp] theorem onGuard_trust (s : State) (g : GuardS → GuardS) : (s.onGuard g).trust = s.trust := rfl
@[simp] theorem onGuard_power (s : State) (g : GuardS → GuardS) : (s.onGuard g).power = s.power := rfl
@[simp] theorem onGuard_peers (s : State) (g : GuardS → GuardS) : (s.onGuard g).peers = s.peers := rfl
@[simp] theorem onGuard_emcyOn (s : State) (g : GuardS → GuardS) : (s.onGuard g).emcyOn = s.emcyOn := rfl
@[simp] theorem onGuard_emcyLog (s : State) (g : GuardS → GuardS) : (s.onGuard g).emcyLog = s.emcyLog := rfl
@[simp] theorem onGuard_mailOut (s : State) (g : GuardS → GuardS) : (s.onGuard g).mailOut = s.mailOut := rfl
@[simp] theorem onGuard_tagLog (s : State) (g : GuardS → GuardS) : (s.onGuard g).tagLog = s.tagLog := rfl
@[simp] theorem onGuard_ns (s : State) (g : GuardS → GuardS) : (s.onGuard g).ns = s.ns := rfl
@[simp] theorem onGuard_fresh (s : State) (g : GuardS → GuardS) : (s.onGuard g).fresh = s.fresh := rfl
@[simp] theorem onGuard_wire (s : State) (g : GuardS → GuardS) : (s.onGuard g).wire = s.wire := rfl
@[simp] theorem onGuard_pending (s : State) (g : GuardS → GuardS) : (s.onGuard g).pending = s.pending := rfl

/-! ## onWatch -/

@[simp] theorem onWatch_ctl (s : State) (g : WatchS → WatchS) : (s.onWatch g).ctl = s.ctl := rfl
@[simp] theorem onWatch_mem (s : State) (g : WatchS → WatchS) : (s.onWatch g).mem = s.mem := rfl
@[simp] theorem onWatch_tags (s : State) (g : WatchS → WatchS) : (s.onWatch g).tags = s.tags := rfl
@[simp] theorem onWatch_queues (s : State) (g : WatchS → WatchS) : (s.onWatch g).queues = s.queues := rfl
@[simp] theorem onWatch_tick (s : State) (g : WatchS → WatchS) : (s.onWatch g).tick = s.tick := rfl
@[simp] theorem onWatch_meters (s : State) (g : WatchS → WatchS) : (s.onWatch g).meters = s.meters := rfl
@[simp] theorem onWatch_hamper (s : State) (g : WatchS → WatchS) : (s.onWatch g).hamper = s.hamper := rfl
@[simp] theorem onWatch_press (s : State) (g : WatchS → WatchS) : (s.onWatch g).press = s.press := rfl
@[simp] theorem onWatch_seals (s : State) (g : WatchS → WatchS) : (s.onWatch g).seals = s.seals := rfl
@[simp] theorem onWatch_registry (s : State) (g : WatchS → WatchS) : (s.onWatch g).registry = s.registry := rfl
@[simp] theorem onWatch_guard (s : State) (g : WatchS → WatchS) : (s.onWatch g).guard = s.guard := rfl
@[simp] theorem onWatch_cores (s : State) (g : WatchS → WatchS) : (s.onWatch g).cores = s.cores := rfl
@[simp] theorem onWatch_ports (s : State) (g : WatchS → WatchS) : (s.onWatch g).ports = s.ports := rfl
@[simp] theorem onWatch_dict (s : State) (g : WatchS → WatchS) : (s.onWatch g).dict = s.dict := rfl
@[simp] theorem onWatch_trust (s : State) (g : WatchS → WatchS) : (s.onWatch g).trust = s.trust := rfl
@[simp] theorem onWatch_power (s : State) (g : WatchS → WatchS) : (s.onWatch g).power = s.power := rfl
@[simp] theorem onWatch_peers (s : State) (g : WatchS → WatchS) : (s.onWatch g).peers = s.peers := rfl
@[simp] theorem onWatch_emcyOn (s : State) (g : WatchS → WatchS) : (s.onWatch g).emcyOn = s.emcyOn := rfl
@[simp] theorem onWatch_emcyLog (s : State) (g : WatchS → WatchS) : (s.onWatch g).emcyLog = s.emcyLog := rfl
@[simp] theorem onWatch_mailOut (s : State) (g : WatchS → WatchS) : (s.onWatch g).mailOut = s.mailOut := rfl
@[simp] theorem onWatch_tagLog (s : State) (g : WatchS → WatchS) : (s.onWatch g).tagLog = s.tagLog := rfl
@[simp] theorem onWatch_ns (s : State) (g : WatchS → WatchS) : (s.onWatch g).ns = s.ns := rfl
@[simp] theorem onWatch_fresh (s : State) (g : WatchS → WatchS) : (s.onWatch g).fresh = s.fresh := rfl
@[simp] theorem onWatch_wire (s : State) (g : WatchS → WatchS) : (s.onWatch g).wire = s.wire := rfl
@[simp] theorem onWatch_pending (s : State) (g : WatchS → WatchS) : (s.onWatch g).pending = s.pending := rfl

/-! ## onRegistry -/

@[simp] theorem onRegistry_ctl (s : State) (g : RegistryS → RegistryS) : (s.onRegistry g).ctl = s.ctl := rfl
@[simp] theorem onRegistry_mem (s : State) (g : RegistryS → RegistryS) : (s.onRegistry g).mem = s.mem := rfl
@[simp] theorem onRegistry_tags (s : State) (g : RegistryS → RegistryS) : (s.onRegistry g).tags = s.tags := rfl
@[simp] theorem onRegistry_queues (s : State) (g : RegistryS → RegistryS) : (s.onRegistry g).queues = s.queues := rfl
@[simp] theorem onRegistry_tick (s : State) (g : RegistryS → RegistryS) : (s.onRegistry g).tick = s.tick := rfl
@[simp] theorem onRegistry_meters (s : State) (g : RegistryS → RegistryS) : (s.onRegistry g).meters = s.meters := rfl
@[simp] theorem onRegistry_hamper (s : State) (g : RegistryS → RegistryS) : (s.onRegistry g).hamper = s.hamper := rfl
@[simp] theorem onRegistry_press (s : State) (g : RegistryS → RegistryS) : (s.onRegistry g).press = s.press := rfl
@[simp] theorem onRegistry_watch (s : State) (g : RegistryS → RegistryS) : (s.onRegistry g).watch = s.watch := rfl
@[simp] theorem onRegistry_seals (s : State) (g : RegistryS → RegistryS) : (s.onRegistry g).seals = s.seals := rfl
@[simp] theorem onRegistry_guard (s : State) (g : RegistryS → RegistryS) : (s.onRegistry g).guard = s.guard := rfl
@[simp] theorem onRegistry_cores (s : State) (g : RegistryS → RegistryS) : (s.onRegistry g).cores = s.cores := rfl
@[simp] theorem onRegistry_ports (s : State) (g : RegistryS → RegistryS) : (s.onRegistry g).ports = s.ports := rfl
@[simp] theorem onRegistry_dict (s : State) (g : RegistryS → RegistryS) : (s.onRegistry g).dict = s.dict := rfl
@[simp] theorem onRegistry_trust (s : State) (g : RegistryS → RegistryS) : (s.onRegistry g).trust = s.trust := rfl
@[simp] theorem onRegistry_power (s : State) (g : RegistryS → RegistryS) : (s.onRegistry g).power = s.power := rfl
@[simp] theorem onRegistry_peers (s : State) (g : RegistryS → RegistryS) : (s.onRegistry g).peers = s.peers := rfl
@[simp] theorem onRegistry_emcyOn (s : State) (g : RegistryS → RegistryS) : (s.onRegistry g).emcyOn = s.emcyOn := rfl
@[simp] theorem onRegistry_emcyLog (s : State) (g : RegistryS → RegistryS) : (s.onRegistry g).emcyLog = s.emcyLog := rfl
@[simp] theorem onRegistry_mailOut (s : State) (g : RegistryS → RegistryS) : (s.onRegistry g).mailOut = s.mailOut := rfl
@[simp] theorem onRegistry_tagLog (s : State) (g : RegistryS → RegistryS) : (s.onRegistry g).tagLog = s.tagLog := rfl
@[simp] theorem onRegistry_ns (s : State) (g : RegistryS → RegistryS) : (s.onRegistry g).ns = s.ns := rfl
@[simp] theorem onRegistry_fresh (s : State) (g : RegistryS → RegistryS) : (s.onRegistry g).fresh = s.fresh := rfl
@[simp] theorem onRegistry_wire (s : State) (g : RegistryS → RegistryS) : (s.onRegistry g).wire = s.wire := rfl
@[simp] theorem onRegistry_pending (s : State) (g : RegistryS → RegistryS) : (s.onRegistry g).pending = s.pending := rfl

/-! ## setSession -/

@[simp] theorem setSession_ctl (s : State) (n : Nat) (x : Session) : (s.setSession n x).ctl = s.ctl := rfl
@[simp] theorem setSession_mem (s : State) (n : Nat) (x : Session) : (s.setSession n x).mem = s.mem := rfl
@[simp] theorem setSession_tags (s : State) (n : Nat) (x : Session) : (s.setSession n x).tags = s.tags := rfl
@[simp] theorem setSession_queues (s : State) (n : Nat) (x : Session) : (s.setSession n x).queues = s.queues := rfl
@[simp] theorem setSession_tick (s : State) (n : Nat) (x : Session) : (s.setSession n x).tick = s.tick := rfl
@[simp] theorem setSession_meters (s : State) (n : Nat) (x : Session) : (s.setSession n x).meters = s.meters := rfl
@[simp] theorem setSession_press (s : State) (n : Nat) (x : Session) : (s.setSession n x).press = s.press := rfl
@[simp] theorem setSession_watch (s : State) (n : Nat) (x : Session) : (s.setSession n x).watch = s.watch := rfl
@[simp] theorem setSession_seals (s : State) (n : Nat) (x : Session) : (s.setSession n x).seals = s.seals := rfl
@[simp] theorem setSession_registry (s : State) (n : Nat) (x : Session) : (s.setSession n x).registry = s.registry := rfl
@[simp] theorem setSession_guard (s : State) (n : Nat) (x : Session) : (s.setSession n x).guard = s.guard := rfl
@[simp] theorem setSession_cores (s : State) (n : Nat) (x : Session) : (s.setSession n x).cores = s.cores := rfl
@[simp] theorem setSession_ports (s : State) (n : Nat) (x : Session) : (s.setSession n x).ports = s.ports := rfl
@[simp] theorem setSession_dict (s : State) (n : Nat) (x : Session) : (s.setSession n x).dict = s.dict := rfl
@[simp] theorem setSession_trust (s : State) (n : Nat) (x : Session) : (s.setSession n x).trust = s.trust := rfl
@[simp] theorem setSession_power (s : State) (n : Nat) (x : Session) : (s.setSession n x).power = s.power := rfl
@[simp] theorem setSession_peers (s : State) (n : Nat) (x : Session) : (s.setSession n x).peers = s.peers := rfl
@[simp] theorem setSession_emcyOn (s : State) (n : Nat) (x : Session) : (s.setSession n x).emcyOn = s.emcyOn := rfl
@[simp] theorem setSession_emcyLog (s : State) (n : Nat) (x : Session) : (s.setSession n x).emcyLog = s.emcyLog := rfl
@[simp] theorem setSession_mailOut (s : State) (n : Nat) (x : Session) : (s.setSession n x).mailOut = s.mailOut := rfl
@[simp] theorem setSession_tagLog (s : State) (n : Nat) (x : Session) : (s.setSession n x).tagLog = s.tagLog := rfl
@[simp] theorem setSession_ns (s : State) (n : Nat) (x : Session) : (s.setSession n x).ns = s.ns := rfl
@[simp] theorem setSession_fresh (s : State) (n : Nat) (x : Session) : (s.setSession n x).fresh = s.fresh := rfl
@[simp] theorem setSession_wire (s : State) (n : Nat) (x : Session) : (s.setSession n x).wire = s.wire := rfl
@[simp] theorem setSession_pending (s : State) (n : Nat) (x : Session) : (s.setSession n x).pending = s.pending := rfl

/-! ## setLink -/

@[simp] theorem setLink_ctl (s : State) (p : Nat) (l : Link) : (s.setLink p l).ctl = s.ctl := rfl
@[simp] theorem setLink_mem (s : State) (p : Nat) (l : Link) : (s.setLink p l).mem = s.mem := rfl
@[simp] theorem setLink_tags (s : State) (p : Nat) (l : Link) : (s.setLink p l).tags = s.tags := rfl
@[simp] theorem setLink_queues (s : State) (p : Nat) (l : Link) : (s.setLink p l).queues = s.queues := rfl
@[simp] theorem setLink_tick (s : State) (p : Nat) (l : Link) : (s.setLink p l).tick = s.tick := rfl
@[simp] theorem setLink_meters (s : State) (p : Nat) (l : Link) : (s.setLink p l).meters = s.meters := rfl
@[simp] theorem setLink_press (s : State) (p : Nat) (l : Link) : (s.setLink p l).press = s.press := rfl
@[simp] theorem setLink_watch (s : State) (p : Nat) (l : Link) : (s.setLink p l).watch = s.watch := rfl
@[simp] theorem setLink_seals (s : State) (p : Nat) (l : Link) : (s.setLink p l).seals = s.seals := rfl
@[simp] theorem setLink_registry (s : State) (p : Nat) (l : Link) : (s.setLink p l).registry = s.registry := rfl
@[simp] theorem setLink_guard (s : State) (p : Nat) (l : Link) : (s.setLink p l).guard = s.guard := rfl
@[simp] theorem setLink_cores (s : State) (p : Nat) (l : Link) : (s.setLink p l).cores = s.cores := rfl
@[simp] theorem setLink_ports (s : State) (p : Nat) (l : Link) : (s.setLink p l).ports = s.ports := rfl
@[simp] theorem setLink_dict (s : State) (p : Nat) (l : Link) : (s.setLink p l).dict = s.dict := rfl
@[simp] theorem setLink_trust (s : State) (p : Nat) (l : Link) : (s.setLink p l).trust = s.trust := rfl
@[simp] theorem setLink_power (s : State) (p : Nat) (l : Link) : (s.setLink p l).power = s.power := rfl
@[simp] theorem setLink_peers (s : State) (p : Nat) (l : Link) : (s.setLink p l).peers = s.peers := rfl
@[simp] theorem setLink_emcyOn (s : State) (p : Nat) (l : Link) : (s.setLink p l).emcyOn = s.emcyOn := rfl
@[simp] theorem setLink_emcyLog (s : State) (p : Nat) (l : Link) : (s.setLink p l).emcyLog = s.emcyLog := rfl
@[simp] theorem setLink_mailOut (s : State) (p : Nat) (l : Link) : (s.setLink p l).mailOut = s.mailOut := rfl
@[simp] theorem setLink_tagLog (s : State) (p : Nat) (l : Link) : (s.setLink p l).tagLog = s.tagLog := rfl
@[simp] theorem setLink_ns (s : State) (p : Nat) (l : Link) : (s.setLink p l).ns = s.ns := rfl
@[simp] theorem setLink_fresh (s : State) (p : Nat) (l : Link) : (s.setLink p l).fresh = s.fresh := rfl
@[simp] theorem setLink_wire (s : State) (p : Nat) (l : Link) : (s.setLink p l).wire = s.wire := rfl
@[simp] theorem setLink_pending (s : State) (p : Nat) (l : Link) : (s.setLink p l).pending = s.pending := rfl

/-! ## setEntry -/

@[simp] theorem setEntry_ctl (s : State) (i : Nat) (e : Entry) : (s.setEntry i e).ctl = s.ctl := rfl
@[simp] theorem setEntry_mem (s : State) (i : Nat) (e : Entry) : (s.setEntry i e).mem = s.mem := rfl
@[simp] theorem setEntry_tags (s : State) (i : Nat) (e : Entry) : (s.setEntry i e).tags = s.tags := rfl
@[simp] theorem setEntry_queues (s : State) (i : Nat) (e : Entry) : (s.setEntry i e).queues = s.queues := rfl
@[simp] theorem setEntry_tick (s : State) (i : Nat) (e : Entry) : (s.setEntry i e).tick = s.tick := rfl
@[simp] theorem setEntry_meters (s : State) (i : Nat) (e : Entry) : (s.setEntry i e).meters = s.meters := rfl
@[simp] theorem setEntry_hamper (s : State) (i : Nat) (e : Entry) : (s.setEntry i e).hamper = s.hamper := rfl
@[simp] theorem setEntry_press (s : State) (i : Nat) (e : Entry) : (s.setEntry i e).press = s.press := rfl
@[simp] theorem setEntry_watch (s : State) (i : Nat) (e : Entry) : (s.setEntry i e).watch = s.watch := rfl
@[simp] theorem setEntry_seals (s : State) (i : Nat) (e : Entry) : (s.setEntry i e).seals = s.seals := rfl
@[simp] theorem setEntry_guard (s : State) (i : Nat) (e : Entry) : (s.setEntry i e).guard = s.guard := rfl
@[simp] theorem setEntry_cores (s : State) (i : Nat) (e : Entry) : (s.setEntry i e).cores = s.cores := rfl
@[simp] theorem setEntry_ports (s : State) (i : Nat) (e : Entry) : (s.setEntry i e).ports = s.ports := rfl
@[simp] theorem setEntry_dict (s : State) (i : Nat) (e : Entry) : (s.setEntry i e).dict = s.dict := rfl
@[simp] theorem setEntry_trust (s : State) (i : Nat) (e : Entry) : (s.setEntry i e).trust = s.trust := rfl
@[simp] theorem setEntry_power (s : State) (i : Nat) (e : Entry) : (s.setEntry i e).power = s.power := rfl
@[simp] theorem setEntry_peers (s : State) (i : Nat) (e : Entry) : (s.setEntry i e).peers = s.peers := rfl
@[simp] theorem setEntry_emcyOn (s : State) (i : Nat) (e : Entry) : (s.setEntry i e).emcyOn = s.emcyOn := rfl
@[simp] theorem setEntry_emcyLog (s : State) (i : Nat) (e : Entry) : (s.setEntry i e).emcyLog = s.emcyLog := rfl
@[simp] theorem setEntry_mailOut (s : State) (i : Nat) (e : Entry) : (s.setEntry i e).mailOut = s.mailOut := rfl
@[simp] theorem setEntry_tagLog (s : State) (i : Nat) (e : Entry) : (s.setEntry i e).tagLog = s.tagLog := rfl
@[simp] theorem setEntry_ns (s : State) (i : Nat) (e : Entry) : (s.setEntry i e).ns = s.ns := rfl
@[simp] theorem setEntry_fresh (s : State) (i : Nat) (e : Entry) : (s.setEntry i e).fresh = s.fresh := rfl
@[simp] theorem setEntry_wire (s : State) (i : Nat) (e : Entry) : (s.setEntry i e).wire = s.wire := rfl
@[simp] theorem setEntry_pending (s : State) (i : Nat) (e : Entry) : (s.setEntry i e).pending = s.pending := rfl

/-! ## Register fields -/

/-- A field that is written reads as what was written, cut to its width. -/
@[simp] theorem f_setF_same (s : State) (x : Fld) (v i : Nat) : (s.setF x v i).f x i = v % 2 ^ x.width := by
  simp [State.f, State.setF]

/-- A write of a field leaves every other field alone. -/
theorem f_setF_other (s : State) {x y : Fld} (v : Nat) {i j : Nat} (h : (y, j) ≠ (x, i)) :
    (s.setF x v i).f y j = s.f y j := by
  simp only [State.f, State.setF]
  exact get_set_other _ _ _ h

theorem f_setF (s : State) (x y : Fld) (v i j : Nat) :
    (s.setF x v i).f y j = if (y, j) = (x, i) then v % 2 ^ x.width else s.f y j := by
  by_cases h : (y, j) = (x, i)
  · obtain ⟨rfl, rfl⟩ := Prod.mk.inj h; simp
  · rw [if_neg h, f_setF_other s v h]

/-- A counter that is raised. -/
@[simp] theorem f_bump_same (s : State) (x : Fld) (n i : Nat) :
    (s.bump x n i).f x i = satAdd x.width (s.f x i) n % 2 ^ x.width := f_setF_same s x _ i

theorem f_bump_other (s : State) {x y : Fld} (n : Nat) {i j : Nat} (h : (y, j) ≠ (x, i)) :
    (s.bump x n i).f y j = s.f y j := f_setF_other s _ h

/-- What changes no register leaves every field alone. -/
theorem f_congr {s t : State} (h : s.ctl = t.ctl) (x : Fld) (i : Nat) : s.f x i = t.f x i := by
  simp only [State.f, h]

@[simp] theorem f_emit (s : State) (o : Out) (y : Fld) (j : Nat) : (s.emit o).f y j = s.f y j := rfl
@[simp] theorem f_setCore (s : State) (k : Nat) (c : CoreS) (y : Fld) (j : Nat) : (s.setCore k c).f y j = s.f y j := rfl
@[simp] theorem f_onCore (s : State) (k : Nat) (g : CoreS → CoreS) (y : Fld) (j : Nat) : (s.onCore k g).f y j = s.f y j := rfl
@[simp] theorem f_setTask (s : State) (t : Nat) (x : TaskSet) (y : Fld) (j : Nat) : (s.setTask t x).f y j = s.f y j := rfl
@[simp] theorem f_setQueue (s : State) (q : Nat) (x : Queue) (y : Fld) (j : Nat) : (s.setQueue q x).f y j = s.f y j := rfl
@[simp] theorem f_putByte (s : State) (a : Nat) (v : Byte) (y : Fld) (j : Nat) : (s.putByte a v).f y j = s.f y j := rfl
@[simp] theorem f_setTag (s : State) (g : Nat) (t : Bool) (y : Fld) (j : Nat) : (s.setTag g t).f y j = s.f y j := rfl
@[simp] theorem f_charge (s : State) (m : Meter) (n : Nat) (y : Fld) (j : Nat) : (s.charge m n).f y j = s.f y j := rfl
@[simp] theorem f_noteHeld (s : State) (m : Meter) (y : Fld) (j : Nat) : (s.noteHeld m).f y j = s.f y j := rfl
@[simp] theorem f_onPress (s : State) (g : PressS → PressS) (y : Fld) (j : Nat) : (s.onPress g).f y j = s.f y j := rfl
@[simp] theorem f_onTrust (s : State) (g : TrustS → TrustS) (y : Fld) (j : Nat) : (s.onTrust g).f y j = s.f y j := rfl
@[simp] theorem f_onDict (s : State) (g : DictS → DictS) (y : Fld) (j : Nat) : (s.onDict g).f y j = s.f y j := rfl
@[simp] theorem f_onPorts (s : State) (g : PortsS → PortsS) (y : Fld) (j : Nat) : (s.onPorts g).f y j = s.f y j := rfl
@[simp] theorem f_onPower (s : State) (g : PowerS → PowerS) (y : Fld) (j : Nat) : (s.onPower g).f y j = s.f y j := rfl
@[simp] theorem f_onGuard (s : State) (g : GuardS → GuardS) (y : Fld) (j : Nat) : (s.onGuard g).f y j = s.f y j := rfl
@[simp] theorem f_onWatch (s : State) (g : WatchS → WatchS) (y : Fld) (j : Nat) : (s.onWatch g).f y j = s.f y j := rfl
@[simp] theorem f_onRegistry (s : State) (g : RegistryS → RegistryS) (y : Fld) (j : Nat) : (s.onRegistry g).f y j = s.f y j := rfl
@[simp] theorem f_setSession (s : State) (n : Nat) (x : Session) (y : Fld) (j : Nat) : (s.setSession n x).f y j = s.f y j := rfl
@[simp] theorem f_setLink (s : State) (p : Nat) (l : Link) (y : Fld) (j : Nat) : (s.setLink p l).f y j = s.f y j := rfl
@[simp] theorem f_setEntry (s : State) (i : Nat) (e : Entry) (y : Fld) (j : Nat) : (s.setEntry i e).f y j = s.f y j := rfl

/-! ## Cores -/

@[simp] theorem core_setCore_same (s : State) (k : Nat) (c : CoreS) : (s.setCore k c).core k = c := by
  simp [State.core, State.setCore]

theorem core_setCore_other (s : State) {j k : Nat} (c : CoreS) (h : j ≠ k) : (s.setCore k c).core j = s.core j := by
  simp only [State.core, State.setCore]
  exact get_set_other _ _ _ h

@[simp] theorem core_onCore_same (s : State) (k : Nat) (g : CoreS → CoreS) : (s.onCore k g).core k = g (s.core k) :=
  core_setCore_same s k _

theorem core_onCore_other (s : State) {j k : Nat} (g : CoreS → CoreS) (h : j ≠ k) :
    (s.onCore k g).core j = s.core j := core_setCore_other s _ h

@[simp] theorem slot_setSlot_same (c : CoreS) (i : Nat) (t : TaskSet) : (c.setSlot i t).slot i = t := by
  simp [CoreS.slot, CoreS.setSlot]

theorem slot_setSlot_other (c : CoreS) {i j : Nat} (t : TaskSet) (h : j ≠ i) : (c.setSlot i t).slot j = c.slot j := by
  simp only [CoreS.slot, CoreS.setSlot]
  exact get_set_other _ _ _ h

/-! ## Queues -/

@[simp] theorem queue_setQueue_same (s : State) (q : Nat) (x : Queue) : (s.setQueue q x).queue q = x := by
  simp [State.queue, State.setQueue]

theorem queue_setQueue_other (s : State) {p q : Nat} (x : Queue) (h : p ≠ q) : (s.setQueue q x).queue p = s.queue p := by
  simp only [State.queue, State.setQueue]
  exact get_set_other _ _ _ h

end Sys2Proof.Machine
end

