-- ==== Sys2Proof/Laws/Issue.lean ====
section
/-! SUPPORT. What the issue of a word and the presentation of a register write come to: one equation for each way they can
go. -/

namespace Sys2Proof.Machine

/-! ## Issue of a word -/

/-- What holds the core leaves the state alone (R173, R221, R268, R292). -/
theorem issue_held {s : State} {k : Nat} {point : Bool} {legal : State → Bool} {p : Guard} {body : State → Act}
    (h : s.issueHeld k = true) : s.issue k point legal p body = s := by simp [State.issue, h]

/-- A pending imprecise trap comes first (R288). -/
theorem issue_trap {s : State} {k : Nat} {point : Bool} {legal : State → Bool} {p : Guard} {body : State → Act}
    {a : ArithTrap} (h : s.issueHeld k = false) (ht : (s.core k).trapFirst point = some a) :
    s.issue k point legal p body = s.takeTrap k a := by simp [State.issue, h, ht]

/-- A fetch that fails raises its exception at the word (R173). -/
theorem issue_badFetch {s t : State} {k : Nat} {point : Bool} {legal : State → Bool} {p : Guard} {body : State → Act}
    {e : Exc} (h : s.issueHeld k = false) (ht : (s.core k).trapFirst point = none)
    (hf : s.fetchAt k (s.here k) = .bad t e) : s.issue k point legal p body = t.trap k e (t.here k) := by
  simp [State.issue, h, ht, hf]

/-- A fetch that waits for the Walker leaves only its request (R168). -/
theorem issue_wait {s t : State} {k : Nat} {point : Bool} {legal : State → Bool} {p : Guard} {body : State → Act}
    (h : s.issueHeld k = false) (ht : (s.core k).trapFirst point = none)
    (hf : s.fetchAt k (s.here k) = .wait t) : s.issue k point legal p body = s.keepFill t k := by
  simp [State.issue, h, ht, hf]

/-- A fetch that passes leads to decoding (R226). -/
theorem issue_fetched {s t : State} {k : Nat} {point : Bool} {legal : State → Bool} {p : Guard} {body : State → Act}
    (h : s.issueHeld k = false) (ht : (s.core k).trapFirst point = none)
    (hf : s.fetchAt k (s.here k) = .ok t ()) : s.issue k point legal p body = t.decoded k legal p body := by
  simp [State.issue, h, ht, hf]

/-- An unassigned word, or PG 0 with SN 1, is illegal (R208, R210). -/
theorem decoded_illegal {t : State} {k : Nat} {legal : State → Bool} {p : Guard} {body : State → Act}
    (h : (guardOk p && legal t) = false) : t.decoded k legal p body = t.trap k ⟨cIllegal, 0, 0⟩ (t.here k) := by
  simp [State.decoded, h]

/-- A legal word whose guard fails only completes (R207). -/
theorem decoded_off {t : State} {k : Nat} {legal : State → Bool} {p : Guard} {body : State → Act}
    (hl : legal t = true) (hp : guardOk p = true) (hg : (t.core k).guardOn p = false) :
    t.decoded k legal p body = t.settleAct k 1 1 (.done t) := by simp [State.decoded, hl, hp, hg]

/-- A legal word whose guard holds runs its body (R226). -/
theorem decoded_on {t : State} {k : Nat} {legal : State → Bool} {p : Guard} {body : State → Act}
    (hl : legal t = true) (hp : guardOk p = true) (hg : (t.core k).guardOn p = true) :
    t.decoded k legal p body = t.settleAct k 1 1 (body t) := by simp [State.decoded, hl, hp, hg]

/-- A legal word that issues runs its body in the state after its fetch (R226). -/
theorem issue_runs {s t : State} {k : Nat} {point : Bool} {legal : State → Bool} {p : Guard} {body : State → Act}
    (h : s.issueHeld k = false) (ht : (s.core k).trapFirst point = none)
    (hf : s.fetchAt k (s.here k) = .ok t ()) (hp : guardOk p = true) (hg : (t.core k).guardOn p = true)
    (hl : legal t = true) : s.issue k point legal p body = t.settleAct k 1 1 (body t) := by
  rw [issue_fetched h ht hf, decoded_on hl hp hg]

/-- A word of the REP majors that issues (R227-R236). -/
theorem issueScalar_runs {s t : State} {k : CoreId} {p : Guard} {w : Scalar} (h : s.issueHeld k.val = false)
    (ht : (s.core k.val).trapFirst (scalarTraps w) = none) (hf : s.fetchAt k.val (s.here k.val) = .ok t ())
    (hp : guardOk p = true) (hg : (t.core k.val).guardOn p = true) (hl : scalarLegal w = true) :
    s.issueScalar k p w = t.settleAct k.val 1 1 (t.scalar k.val false w) := issue_runs h ht hf hp hg hl

theorem settleAct_done (s t : State) (k n m : Nat) :
    s.settleAct k n m (.done t) = (t.onCore k fun c => c.advance n).retired k m := rfl

theorem settleAct_jump (s t : State) (k n m : Nat) : s.settleAct k n m (.jump t) = t.retired k m := rfl

theorem settleAct_fault (s t : State) (k n m : Nat) (e : Exc) (r : Nat) :
    s.settleAct k n m (.fault t e r) = t.trap k e r := rfl

/-- A trap that is tested only at the words of R288 is not due at another word either when none is pending. -/
theorem trapFirst_false {c : CoreS} (h : c.trapFirst true = none) : c.trapFirst false = none := by
  unfold CoreS.trapFirst at *
  split at h <;> simp_all

/-! ## Results of accesses -/

theorem act_ok {α : Type} (s : State) (v : α) (k : Nat) (f : State → α → Act) :
    (Got.ok s v).act k f = f s v := rfl

/-! ## Presented writes -/

/-- A register write that the Guard admits is counted, then has its effect (R324, R333). -/
theorem present_admitted {s : State} {m : Master} {a : Nat} {g : State → State} (hm : s.silent m = false)
    (h : s.verdict (s.masterAgent m) true a 8 = .allow) :
    s.present m a g = g (s.guardNote (s.masterAgent m) true false a 8) := by
  simp [State.present, h, hm]

/-- A master that presents no access leaves the state alone (R292, R318, R320). -/
theorem present_silent {s : State} {m : Master} {a : Nat} {g : State → State} (hm : s.silent m = true) :
    s.present m a g = s := by simp [State.present, hm]

end Sys2Proof.Machine
end

