-- ==== Sys2Proof/Laws/Memory.lean ====
section
/-! SUPPORT. Memory: a read after a write, and the canonical form that every memory operation keeps. -/

namespace Sys2Proof.Machine

/-! ## Cells -/

theorem cellsOk_tail {c : Host.Cell} {l : List Host.Cell} (h : cellsOk (c :: l) = true) : cellsOk l = true := by
  cases l with
  | nil => rfl
  | cons d l =>
    obtain ⟨a, v⟩ := c
    obtain ⟨b, w⟩ := d
    simp only [cellsOk, Bool.and_eq_true] at h
    exact h.2

/-- Canonical cells: the first holds a listed byte, every later address is higher, and the rest is canonical. -/
theorem cellsOk_cons (a : Nat) (v : Byte) (l : List Host.Cell) :
    cellsOk ((a, v) :: l) = true ↔ v ≠ unlistedByte ∧ (∀ c ∈ l, a < c.1) ∧ cellsOk l = true := by
  induction l generalizing a v with
  | nil => simp [cellsOk]
  | cons d l ih =>
    obtain ⟨b, w⟩ := d
    simp only [cellsOk, Bool.and_eq_true, decide_eq_true_eq, bne_iff_ne, List.forall_mem_cons]
    constructor
    · rintro ⟨⟨hab, hv⟩, hl⟩
      exact ⟨hv, ⟨hab, fun c hc => lt_trans hab ((ih b w).1 hl |>.2.1 c hc)⟩, hl⟩
    · rintro ⟨hv, ⟨hab, _⟩, hl⟩
      exact ⟨⟨hab, hv⟩, hl⟩

theorem readCell_above {a : Nat} {l : List Host.Cell} (h : ∀ c ∈ l, a < c.1) : readCell a l = unlistedByte := by
  induction l with
  | nil => rfl
  | cons c l ih =>
    obtain ⟨b, w⟩ := c
    have hb : a < b := h (b, w) (by simp)
    simp [readCell, Nat.ne_of_lt hb, ih fun c hc => h c (by simp [hc])]

theorem mem_writeCell {a : Nat} {v : Byte} {c : Host.Cell} {l : List Host.Cell} (h : c ∈ writeCell a v l) :
    c = (a, v) ∨ c ∈ l := by
  induction l with
  | nil =>
    simp only [writeCell] at h
    split_ifs at h
    · cases h
    · exact .inl (List.mem_singleton.1 h)
  | cons d l ih =>
    obtain ⟨e, w⟩ := d
    simp only [writeCell] at h
    split_ifs at h
    · exact .inr h
    · exact (List.mem_cons.1 h).imp id id
    · exact .inr (List.mem_cons_of_mem _ h)
    · exact (List.mem_cons.1 h).imp id (List.mem_cons_of_mem _)
    · rcases List.mem_cons.1 h with rfl | h
      · exact .inr (by simp)
      · exact (ih h).imp id (List.mem_cons_of_mem _)

theorem writeCell_above {a b : Nat} {v : Byte} {l : List Host.Cell} (h : ∀ c ∈ l, b < c.1) (hab : b < a) :
    ∀ c ∈ writeCell a v l, b < c.1 := fun c hc => by
  rcases mem_writeCell hc with rfl | hc
  · exact hab
  · exact h c hc

/-- A write keeps the canonical form. -/
theorem cellsOk_writeCell (a : Nat) (v : Byte) {l : List Host.Cell} (h : cellsOk l = true) :
    cellsOk (writeCell a v l) = true := by
  induction l with
  | nil => by_cases hv : v = unlistedByte <;> simp [writeCell, hv, cellsOk]
  | cons c l ih =>
    obtain ⟨b, w⟩ := c
    have ⟨hw, hl, hok⟩ := (cellsOk_cons b w l).1 h
    simp only [writeCell]
    split_ifs with h1 h2 h3 h4
    · exact h
    · exact (cellsOk_cons a v _).2 ⟨h2, by
        intro c hc
        rcases List.mem_cons.1 hc with rfl | hc
        · exact h1
        · exact lt_trans h1 (hl c hc), h⟩
    · exact hok
    · subst h3; exact (cellsOk_cons a v l).2 ⟨h4, hl, hok⟩
    · exact (cellsOk_cons b w _).2 ⟨hw, writeCell_above hl (by omega), ih hok⟩

/-- A read after a write of the same address gives the byte written. -/
theorem readCell_writeCell_same (a : Nat) (v : Byte) {l : List Host.Cell} (h : cellsOk l = true) :
    readCell a (writeCell a v l) = v := by
  induction l with
  | nil => by_cases hv : v = unlistedByte <;> simp [writeCell, readCell, hv]
  | cons c l ih =>
    obtain ⟨b, w⟩ := c
    have ⟨_, hl, hok⟩ := (cellsOk_cons b w l).1 h
    simp only [writeCell]
    split_ifs with h1 h2 h3 h4
    · rw [h2]; exact readCell_above fun c hc => by
        rcases List.mem_cons.1 hc with rfl | hc
        · exact h1
        · exact lt_trans h1 (hl c hc)
    · simp [readCell]
    · subst h3; rw [h4]; exact readCell_above hl
    · simp [readCell]
    · simp [readCell, h3, ih hok]

/-- A write leaves every other address alone. -/
theorem readCell_writeCell_other {a b : Nat} (v : Byte) (hab : b ≠ a) (l : List Host.Cell) :
    readCell b (writeCell a v l) = readCell b l := by
  induction l with
  | nil => by_cases hv : v = unlistedByte <;> simp [writeCell, readCell, hv, hab]
  | cons c l ih =>
    obtain ⟨d, w⟩ := c
    simp only [writeCell]
    split_ifs with h1 h2 h3 h4
    · rfl
    · simp [readCell, hab]
    · subst h3; simp [readCell, hab]
    · subst h3; simp [readCell, hab]
    · by_cases hbd : b = d <;> simp [readCell, hbd, ih]

theorem cellsOk_filter (p : Host.Cell → Bool) {l : List Host.Cell} (h : cellsOk l = true) :
    cellsOk (l.filter p) = true := by
  induction l with
  | nil => rfl
  | cons c l ih =>
    obtain ⟨a, v⟩ := c
    have ⟨hv, hl, hok⟩ := (cellsOk_cons a v l).1 h
    by_cases hp : p (a, v)
    · rw [List.filter_cons_of_pos hp]
      exact (cellsOk_cons a v _).2 ⟨hv, fun c hc => hl c (List.mem_of_mem_filter hc), ih hok⟩
    · rw [List.filter_cons_of_neg hp]; exact ih hok

/-- Canonical lists one after the other, the second at higher addresses. -/
theorem cellsOk_append {l m : List Host.Cell} (hl : cellsOk l = true) (hm : cellsOk m = true)
    (h : ∀ c ∈ l, ∀ d ∈ m, c.1 < d.1) : cellsOk (l ++ m) = true := by
  induction l with
  | nil => exact hm
  | cons c l ih =>
    obtain ⟨a, v⟩ := c
    have ⟨hv, ha, hok⟩ := (cellsOk_cons a v l).1 hl
    refine (cellsOk_cons a v _).2 ⟨hv, ?_, ih hok fun c hc => h c (by simp [hc])⟩
    intro d hd
    rcases List.mem_append.1 hd with hd | hd
    · exact ha d hd
    · exact h (a, v) (by simp) d hd

/-! ## Ranges -/

theorem mem_cellsIn {a n : Nat} {c : Host.Cell} {m : List Host.Cell} (h : c ∈ cellsIn a n m) :
    a ≤ c.1 ∧ c.1 < a + n := by
  have := (List.mem_filter.1 h).2
  simpa using this

/-- A range filled with canonical cells that lie in it keeps the canonical form. -/
theorem cellsOk_fillRange (a n : Nat) {l m : List Host.Cell} (hl : cellsOk l = true) (hm : cellsOk m = true)
    (h : ∀ c ∈ l, a ≤ c.1 ∧ c.1 < a + n) : cellsOk (fillRange a n l m) = true := by
  refine cellsOk_append (cellsOk_append (cellsOk_filter _ hm) hl ?_) (cellsOk_filter _ hm) ?_
  · intro c hc d hd
    have h1 := (List.mem_filter.1 hc).2
    have h2 := h d hd
    simp at h1; omega
  · intro c hc d hd
    have h2 := (List.mem_filter.1 hd).2
    simp at h2
    rcases List.mem_append.1 hc with hc | hc
    · have h1 := (List.mem_filter.1 hc).2
      simp at h1; omega
    · have := h c hc; omega

theorem cellsOk_moved (src dst n : Nat) {l : List Host.Cell} (h : cellsOk l = true)
    (hin : ∀ c ∈ l, src ≤ c.1 ∧ c.1 < src + n) :
    cellsOk (l.map fun c : Host.Cell => (c.1 - src + dst, c.2)) = true := by
  induction l with
  | nil => rfl
  | cons c l ih =>
    obtain ⟨a, v⟩ := c
    have ⟨hv, hl, hok⟩ := (cellsOk_cons a v l).1 h
    refine (cellsOk_cons _ _ _).2 ⟨hv, ?_, ih hok fun c hc => hin c (by simp [hc])⟩
    intro d hd
    obtain ⟨e, he, rfl⟩ := List.mem_map.1 hd
    have h1 := hl e he
    have h2 := hin (a, v) (by simp)
    simp at h2 ⊢; omega

/-! ## Every memory operation keeps the canonical form -/

theorem wf_putByte {s : State} (a : Nat) (v : Byte) (h : Memory.wf s = true) : Memory.wf (s.putByte a v) = true :=
  cellsOk_writeCell a v h

theorem wf_putBytes {s : State} (a : Nat) (b : Bytes) (h : Memory.wf s = true) :
    Memory.wf (s.putBytes a b) = true := by
  induction b generalizing s a with
  | nil => exact h
  | cons v l ih => exact ih (a + 1) (wf_putByte a v h)

theorem wf_setTag {s : State} (g : Nat) (t : Bool) (h : Memory.wf s = true) : Memory.wf (s.setTag g t) = true := h

theorem wf_putGranule {s : State} (a : Nat) (c : Cap) (h : Memory.wf s = true) :
    Memory.wf (s.putGranule a c) = true := wf_setTag _ _ (wf_putBytes a _ h)

theorem wf_clearTags {s : State} (a n : Nat) (h : Memory.wf s = true) : Memory.wf (s.clearTags a n) = true := h

theorem wf_clearRange {s : State} (a n : Nat) (h : Memory.wf s = true) : Memory.wf (s.clearRange a n) = true :=
  wf_clearTags (s := { s with mem := fillRange a n [] s.mem }) a n (cellsOk_fillRange a n (l := []) rfl h (by simp))

theorem wf_copyRange {s : State} (src dst n : Nat) (h : Memory.wf s = true) :
    Memory.wf (s.copyRange src dst n) = true := by
  unfold State.copyRange
  refine wf_clearTags dst n ?_
  refine cellsOk_fillRange dst n (cellsOk_moved src dst n (cellsOk_filter _ h) fun c hc => mem_cellsIn hc) h ?_
  intro c hc
  obtain ⟨d, hd, rfl⟩ := List.mem_map.1 hc
  have := mem_cellsIn hd
  simp; omega

theorem wf_marchDram {s : State} (h : Memory.wf s = true) : Memory.wf s.marchDram = true := by
  unfold State.marchDram
  exact cellsOk_filter _ h

theorem wf_storeByte {s : State} (a : Nat) (v : Byte) (h : Memory.wf s = true) :
    Memory.wf (s.storeByte a v) = true := by
  unfold State.storeByte
  split
  · exact h
  · exact wf_putByte a v h

theorem mem_noteParts (s : State) (id : Nat) (w f : Bool) (ps : List (Nat × Piece)) :
    (s.noteParts id w f ps).mem = s.mem := by
  unfold State.noteParts
  split
  · rfl
  · split <;> rfl

theorem wf_stewardStore {s : State} (a : Nat) (b : Bytes) (h : Memory.wf s = true) :
    Memory.wf (s.stewardStore a b) = true := by
  have hm : Memory.wf (s.stewardNote true a b.length) = true := by
    unfold Memory.wf State.stewardNote at *; rw [mem_noteParts]; exact h
  unfold State.stewardStore
  split
  · exact wf_putBytes a b hm
  · exact hm

theorem cellsOk_memAfter (k : ResetKind) {m : List Host.Cell} (h : cellsOk m = true) : cellsOk (memAfter k m) = true := by
  unfold memAfter
  split
  · rfl
  · exact cellsOk_filter _ h

/-! ## Bytes -/

theorem byte_putByte_same {s : State} (a : Nat) (v : Byte) (h : Memory.wf s = true) : (s.putByte a v).byte a = v :=
  readCell_writeCell_same a v h

theorem byte_putByte_other {s : State} {a b : Nat} (v : Byte) (hab : b ≠ a) : (s.putByte a v).byte b = s.byte b :=
  readCell_writeCell_other v hab s.mem

/-- A write of a string of bytes leaves every byte outside it alone. -/
theorem byte_putBytes_other {s : State} (a : Nat) (l : Bytes) {b : Nat} (h : b < a ∨ a + l.length ≤ b) :
    (s.putBytes a l).byte b = s.byte b := by
  induction l generalizing s a with
  | nil => rfl
  | cons v l ih =>
    have h1 : b ≠ a := by simp at h; omega
    have h2 : b < a + 1 ∨ a + 1 + l.length ≤ b := by simp at h; omega
    rw [State.putBytes, ih (a + 1) h2, byte_putByte_other v h1]

end Sys2Proof.Machine
end

