-- ==== Sys2Proof/Tests/Slice0.lean ====
section
/-! SUPPORT. Tests: well-formedness, witnesses that the hypotheses of the statements can be met, and single steps with the
results that the spec's rules give. Each test's expected result is worked out by hand from the rule it names. -/

set_option maxRecDepth 20000

namespace Sys2Proof.Tests

open Sys2Proof Sys2Proof.Machine Sys2Proof.Claims

/-! ## Ill-formed commands are refused: one term for each check of WellFormed -/

theorem test_wf_addr : (Instr.registerWrite (.core 128) (2 ^ 40) 0).wellFormed = false := by decide
theorem test_wf_word : (Instr.segmentComplete (2 ^ 64) true).wellFormed = false := by decide
theorem test_wf_meter_class : (Instr.cycleMeterExhaust true 64).wellFormed = false := by decide
theorem test_wf_meter_task : (Instr.taskDeschedule false 8192).wellFormed = false := by decide
theorem test_wf_task : (Instr.stop (.core 128) 8256).wellFormed = false := by decide
theorem test_wf_peer : (Instr.linkAckTimer 1024).wellFormed = false := by decide
theorem test_wf_session : (Instr.abandonTimeout 65536).wellFormed = false := by decide
theorem test_wf_buffer : (Instr.setlim 131072).wellFormed = false := by decide
theorem test_wf_slot : (Instr.watchBucketRepair 1048576).wellFormed = false := by decide
theorem test_wf_inst : (Instr.roleEnd (.plp 1024) 0).wellFormed = false := by decide
theorem test_wf_mgmt : (Instr.dictRead .mailbox ⟨1, 0, 0, 0, true, 0, 2 ^ 32, 0, []⟩).wellFormed = false := by decide
theorem test_wf_eth :
    (Instr.laneFrameReceive 0 ⟨true, 64, .broadcast, none,
      .udp 0 ⟨0, 0, 0⟩ true false false false 65536
        ⟨⟨2, 1, 0, 0, 0, 0, 0, 0, 0, 0, 0, 0, 0, 0, 0, 0, 0⟩, []⟩⟩).wellFormed = false := by decide
theorem test_wf_record :
    (Instr.deviceRecordSubmit (.config 0 0 0 0 0 0 0 (zeros 129))).wellFormed = false := by decide
theorem test_wf_drive : (Instr.driveBind (some ⟨true, true, 2 ^ 64, []⟩)).wellFormed = false := by decide
theorem test_wf_loop_frame : (Instr.loopFrameReceive 0 (zeros 256) false).wellFormed = false := by decide
theorem test_wf_hit : (Instr.dramUncorrectableError (.registry (2 ^ 22))).wellFormed = false := by decide
theorem test_wf_patrol : (Instr.dramPatrol (.uncorrectable (2 ^ 40))).wellFormed = false := by decide
theorem test_wf_distance : (Instr.tickinEdge true (2 ^ 31)).wellFormed = false := by decide
theorem test_wf_well_formed : (Instr.stop (.core 128) 8255).wellFormed = true := by decide

/-! ## A small core -/

/-- A program object in Tile Store 0 and a data object beside it. -/
def codeEnt : CEntry := ⟨5, { base := 0x20000000, limit := 0xFFF, ty := 2, valid := true, owner := 1, maxRights := 0x7FF }, []⟩
def dataEnt : CEntry := ⟨6, { base := 0x20001000, limit := 0xFFF, ty := 1, valid := true, owner := 1, maxRights := 0x7FF }, []⟩

/-- Capabilities to them with every right. -/
def codeCap : Cap := mkCap 5 1 0x7FF 0 0 0x100
def dataCap : Cap := mkCap 6 1 0x7FF 0 0 0x40

/-- A task set at level T with the program in pcc and the data in c1 to c3 and c14. -/
def task0 : TaskSet :=
  { state := .running, pcc := codeCap,
    c := (((emptyMap.set 1 dataCap).set 2 dataCap).set 3 dataCap).set 14 (mkCap 6 1 0x7FF 0 0 0x800) }

/-- Core 0 running slot 0 with task set `t`. -/
def coreOf (t : TaskSet) : CoreS := { slots := emptyMap.set 0 t, running := some 0, sdc := [codeEnt, dataEnt] }

/-- The device with core 0 as given; tile 0 may use its Tile Store. -/
def onTile (c : CoreS) : State :=
  (({ State.reset with cores := emptyMap.set 0 c }.setF .FG_LRALLOW_ALLOW (2 ^ 64 - 1) 4).setF .FG_LWALLOW_ALLOW
    (2 ^ 64 - 1) 4).setF .RW_CTRL_ENABLE 1

/-- A task at level T. -/
def atT : State := onTile (coreOf task0)
/-- The same with words of general registers g1 to g4. -/
def regs (a b c d : Word) (s : State) : State :=
  (((s.setG 0 1 a).setG 0 2 b).setG 0 3 c).setG 0 4 d
/-- At level S and M of the task. -/
def atS : State := onTile (coreOf { task0 with st := 1, sb := { pcc := codeCap } })
def atM : State := onTile { coreOf { task0 with st := 2 } with mb := { pcc := codeCap } }
/-- A Bulk task; a task with vectors and the unit as given. -/
def bulk : State := onTile (coreOf { task0 with st := 16 })
def vectors (u : VUnit) : State := onTile { coreOf { task0 with st := 8, vctx := some 0 } with vunit := u }

/-- A guard that holds, and one that does not. -/
def yes : Machine.CoreS → Guard := fun _ => ⟨0, false⟩
def gOn : Guard := ⟨0, false⟩
def gOff : Guard := ⟨1, false⟩

/-- The state after a fetch that passes. -/
def afterOk {α : Type} (s : State) : Got α → State
  | .ok t _ => t
  | _ => s
def isOk {α : Type} : Got α → Bool
  | .ok _ _ => true
  | _ => false
theorem ok_of {s : State} {g : Got Unit} (h : isOk g = true) : g = .ok (afterOk s g) () := by
  cases g with
  | ok t a => rfl
  | wait t => cases h
  | bad t e => cases h
def fetched (s : State) : State := afterOk s (s.fetchAt 0 (s.here 0))

/-- A word issues in `s`. -/
def issues (s : State) (p : Guard) : Bool :=
  !s.issueHeld 0 && (s.core 0).trapFirst true == none && isOk (s.fetchAt 0 (s.here 0)) && guardOk p &&
    ((fetched s).core 0).guardOn p

/-! ## The hypotheses of the statements can be met: one theorem for each statement, a state for each clause -/

theorem test_hyps_issue_at_T : Issues atT (fetched atT) 0 gOn true := ⟨by decide, by decide, ok_of (by decide), by decide, by decide⟩
theorem test_hyps_issue_at_S : Issues atS (fetched atS) 0 gOn true := ⟨by decide, by decide, ok_of (by decide), by decide, by decide⟩
theorem test_hyps_issue_at_M : Issues atM (fetched atM) 0 gOn true := ⟨by decide, by decide, ok_of (by decide), by decide, by decide⟩
theorem test_hyps_IntegerWordsWriteTheirResult : Issues atT (fetched atT) 0 gOn false :=
  ⟨by decide, by decide, ok_of (by decide), by decide, by decide⟩
theorem test_hyps_IdleStepIsOneClock : State.reset.pending = [] := by decide

/-- ARITH with OVE, DZE and PRECISE as given, and operands at the edge of the signed range. -/
def arithAt (ar : Word) : State := regs 0x7FFFFFFFFFFFFFFF 1 0 0 (onTile (coreOf { task0 with arith := ar }))
theorem test_hyps_ArithmeticWordsWriteOrTrap :
    issues (arithAt 3) gOn = true ∧ bitOf ((fetched (arithAt 3)).core 0).arith 0 = true ∧
    outOfRange (((arithAt 3).g 0 1).toInt + ((arithAt 3).g 0 2).toInt) ∧
    ¬outOfRange (((arithAt 3).g 0 1).toInt + ((arithAt 3).g 0 3).toInt) ∧ ((arithAt 3).g 0 3) = 0 ∧
    ¬precise (fetched (arithAt 3)) 0 ∧ precise (fetched (arithAt 7)) 0 ∧ precise (fetched atM) 0 := by
  unfold outOfRange precise; decide
theorem test_hyps_PredicateWordsWritePredicates :
    ¬((0 : PReg) = 0 ∧ (0 : PReg) ≠ 0) ∧ ((7 : PReg) = 7 ∧ (7 : PReg) ≠ 0) ∧ (atT.core 0).running.isSome = true := by decide
theorem test_hyps_RegisterWriteChangesOneRegister :
    ((atT.core 0).gLoc 0 31).isSome ∧ ((atT.core 0).gLoc 0 1).isSome ∧ ((atM.core 0).gLoc 0 16).isSome ∧
    ((atT.core 0).cLoc 15).isSome ∧ ((State.reset.core 0).cLoc 8).isSome ∧ ((State.reset.core 0).gLoc 0 15).isNone := by
  decide
theorem test_hyps_CompletionMovesPccAndRetired :
    (atT.core 0).running = some 0 ∧ ((atT.core 0).slot 0).stopDue = false ∧ (atT.core 0).haltReq = false := by decide
theorem test_hyps_GuardedOffWordsDoNothing :
    atT.issueHeld 0 = false ∧ (atT.core 0).trapFirst true = none ∧ (atT.core 0).trapFirst false = none ∧ guardOk gOff = true ∧
    ((fetched atT).core 0).guardOn gOff = false ∧ isOk (atT.fetchAt 0 (atT.here 0)) = true := by decide
theorem test_hyps_LoadsAndStoresAccessMemory :
    isOk (atT.loadData 0 1 (atT.c 0 1) (effOffset (atT.c 0 1) 0xFB8) 8) = true ∧
    isOk (atT.loadData 0 1 (atT.c 0 1) (effOffset (atT.c 0 1) 0xFB9) 8) = false ∧
    isOk (atT.storeData 0 1 (atT.c 0 1) (effOffset (atT.c 0 1) 0xFBF) [1]) = true ∧
    isOk (atT.loadCap 0 1 (atT.c 0 1) (effOffset (atT.c 0 1) 16)) = true ∧
    isOk (atT.storeCap 0 1 (atT.c 0 1) (effOffset (atT.c 0 1) 16) (atT.c 0 2)) = true := by decide

def stored : State := onTile { coreOf task0 with store := [.data 0x2000100 [(15, 7), (0, 0)]] }
theorem test_hyps_StoreBufferHoldsAndDrains :
    inControl 0x2000100F = false ∧ 0x2000100F % 16 + ([7] : Bytes).length ≤ 16 ∧
    0x20001000 % 16 + (zeros 16).length ≤ 16 ∧ (atT.core 0).store.length < 8 ∧ Memory.wf stored = true ∧
    (stored.core 0).store = .data 0x2000100 [(15, 7), (0, 0)] :: [] ∧
    (∀ x ∈ ([(15, 7), (0, 0)] : List (Nat × Byte)), x.1 < 16) ∧
    (([(15, 7), (0, 0)] : List (Nat × Byte)).map Prod.fst).Nodup ∧ inBank (16 * 0x2000100) = false := by decide

/-- c4 is sealed; c5 and c6 are authorities to seal and to unseal type 9, c7 an object of that exact type. -/
def sealEnt : CEntry :=
  ⟨7, { base := 9, limit := 0, ty := 4, valid := true, owner := 1, maxRights := 0x7FF }, []⟩
def xEnt : CEntry :=
  ⟨8, { base := 0x20001000, limit := 0xFFF, ty := 1, valid := true, owner := 1, maxRights := 0x7FF, xseal := 9, depth := 1 }, []⟩
def queueEnt (i q : Nat) : CEntry := ⟨i, { base := q, limit := 0xFFF, ty := 3, valid := true, owner := 1, maxRights := 0x7FF }, []⟩
def caps : List (Nat × Cap) :=
  [(4, mkCap 8 1 0x7FF 0 9 0), (5, mkCap 7 1 0x7FF 0 0 0), (7, mkCap 8 1 0x7FF 0 0 0), (8, ⟨(mkCap 8 1 0x7FF 0 0 0).bits, false⟩),
   (9, mkCap 10 1 0x7FF 0 0 0), (10, mkCap 11 1 0x7FF 0 0 0)]
def withCaps (s : State) : State :=
  ((caps.foldl (fun (s : State) x => s.setC 0 x.1 x.2) s).onCore 0 fun c =>
    { c with sdc := c.sdc ++ [sealEnt, xEnt, queueEnt 10 5, queueEnt 11 1009] }).onRegistry fun r => { r with inited := true }
def capT : State := withCaps atT
def capM : State := withCaps atM
theorem test_hyps_CapabilityWordsComputeTheirFields :
    ((capT.c 0 4).tag = true ∧ (capT.c 0 4).sealType ≠ 0) ∧ ¬((capT.c 0 1).tag = true ∧ (capT.c 0 1).sealType ≠ 0) ∧
    isOk (capT.check15 0 (capT.c 0 4) true { creg := 4, ofs := 0 }) = true := by decide
theorem test_hyps_SealMintDeriveRelease :
    isOk (capT.checkAuthority 0 5 (capT.c 0 5) .sealAuth) = true ∧
    isOk (capT.checkAuthority 0 5 (capT.c 0 5) .unsealAuth) = true ∧
    isOk (capT.check15 0 (capT.c 0 7) false { creg := 7, ofs := 0 }) = true ∧ xEnt.entry.xseal = sealTypeOf sealEnt.entry (capT.c 0 5) ∧
    isOk (capT.check15 0 (capT.c 0 4) true { creg := 4, ofs := 0 }) = true ∧ (capT.c 0 4).sealType = 9 ∧
    (capM.core 0).level = 2 ∧ (capM.c 0 8).tag = false ∧ (capM.c 0 8).rights &&& (0xFFFF - xEnt.entry.maxRights) = 0 ∧
    isOk (capT.derive 0 7 (capT.c 0 7) 16 8 0x7FF) = true ∧
    ((capT.onCore 0 fun c => { c with walkDone := some 8 }).core 0).walkDone = some (capT.c 0 7).index ∧
    (capT.core 0).walkDone ≠ some (capT.c 0 7).index ∧ xEnt.entry.depth ≠ 0 ∧ capT.domain 0 = xEnt.entry.owner := by decide

def entry0 : QEnt := ⟨granules 2 (hdrBytes { ver := 2, kind := 1, flags := 0, lseq := 0, lack := 0, sack := 0, session := 0, epoch := 0, reqid := 0, cls := 0, deadline := 0, retry := 0, meter := 0, code := 0, replyq := 7, paylen := 0, handle := 0 }), .steward, false⟩
/-- The data object holds a header with PAYLEN `n` and REPLYQ `r`; queue 5 holds `l`. -/
def queues (n r : Nat) (l : List QEnt) : State :=
  let h : Hdr := { entry0.hdr with paylen := BitVec.ofNat 16 n, replyq := BitVec.ofNat 16 r }
  ((capT.putBytes 0x20001040 (hdrBytes h)).setQueue 5 { ents := l })
def queue0 (s : State) (cq : Nat) (kind : AccKind) : Nat := match s.checkQueue 0 cq kind with | .ok _ q => q | _ => 0
theorem test_hyps_QueueWords :
    queue0 (queues 0 7 []) 9 .enq = 5 ∧ queue0 (queues 0 7 []) 10 .enq = 1009 ∧ queue0 (queues 0 7 []) 9 .deq = 5 ∧
    isOk (((queues 0 7 []).drainAll 0).readGrans 0 1 (((queues 0 7 []).drainAll 0).c 0 1) 2) = true ∧
    isOk (((queues 256 7 []).drainAll 0).readGrans 0 1 (((queues 256 7 []).drainAll 0).c 0 1) 18) = true ∧
    (queues 0 7 []).hasRoom 5 false = true ∧ (queues 0 7 []).hasRoom 1009 false = true ∧
    (queues 0 7 (List.replicate 1024 entry0)).hasRoom 5 false = false ∧ (queues 0 7 []).freePlaces 7 ≠ 0 ∧
    ((queues 0 7 []).setQueue 7 { ents := [], reserved := 1024 }).freePlaces 7 = 0 ∧
    ((queues 0 7 [entry0]).queue 5).ents = entry0 :: [] ∧ ((queues 0 7 []).queue 5).ents = [] ∧
    isOk ((queues 0 7 [entry0]).passWhole 0 1 ((queues 0 7 [entry0]).c 0 1) (.capStore false false) 64 32) = true := by
  decide

/-- At T with pcc calling, c15 a return capability, c4 and c5 a sealed pair for INVOKE. -/
def jumps : State :=
  let pairs : List (Nat × Cap) := [(15, (codeCap.withOffset 0x80).withSeal 0xFFFF), (4, mkCap 20 1 0x7FF 0 9 0x10),
    (5, mkCap 8 1 0x7FF 0 9 0), (6, codeCap.withOffset 0x40)]
  (pairs.foldl (fun (s : State) x => s.setC 0 x.1 x.2) atT).onCore 0 fun c =>
    { c with sdc := c.sdc ++ [xEnt, ⟨20, { codeEnt.entry with xseal := 9 }, []⟩] }
/-- RESW as given. -/
def resident (r : Nat) (s : State) : State := s.onCore 0 fun c => c.setStatus (stPut c.status 12 4 r)
theorem test_hyps_TransfersMovePcc :
    issues jumps gOn = true ∧ isOk (jumps.checkTarget 0 6 (jumps.c 0 6)) = true ∧
    isOk (jumps.checkLink 0 (jumps.c 0 15)) = true ∧
    isOk (jumps.checkInvoke 0 4 5 (jumps.c 0 4) (jumps.c 0 5)) = true ∧
    ((jumps.core 0).level = 0 ∧ stResw (jumps.core 0).status + 1 < winCount jumps 0) ∧
    stResw ((resident 15 jumps).core 0).status + 1 = winCount (resident 15 jumps) 0 ∧
    stResw ((resident 1 jumps).core 0).status ≠ 0 ∧ (atS.core 0).level ≠ 0 ∧
    ((jumps.core 0).getLc + 2 ^ 32 - 1) % 2 ^ 32 ≠ 0 ∧
    (((jumps.onCore 0 fun c => c.setLc 1).core 0).getLc + 2 ^ 32 - 1) % 2 ^ 32 = 0 ∧
    (jumps.core 0).running = some 0 ∧ ((jumps.core 0).slot 0).pDoor = false := by decide

def full : State := resident 15 jumps
def spilled : Passed := match full.passSpill 0 (full.c 0 14) .store (((full.c 0 14).offset : Int) - 128) with | .ok _ p => p | _ => ⟨0, 0, 0, []⟩
theorem test_hyps_CallSpillsTheOldestWindow :
    issues full gOn = true ∧ isOk (full.passSpill 0 (full.c 0 14) .store (((full.c 0 14).offset : Int) - 128)) = true ∧
    isOk (((full.onCore 0 CoreS.landAll).drainDevice 0 spilled).storeParts 0 (zeros 128)
      { creg := 14, ofs := ((full.c 0 14).offset : Int) - 128 } spilled.parts) = true := by decide

/-- lc 2, and 64 and 65,536 at the edges of a pair. -/
def lcAt (n : Nat) (s : State) : State := s.onCore 0 fun c => c.setLc n
def pair0 : State := lcAt 2 atT
def pairT : State := afterOk pair0 ((fetched pair0).fetchAt 0 ((fetched pair0).here 0 + 4))
def doneOf (s : State) : Act → State
  | .done t => t
  | _ => s
def isDone : Act → Bool
  | .done _ => true
  | _ => false
theorem done_of {s : State} {a : Act} (h : isDone a = true) : a = .done (doneOf s a) := by
  cases a with
  | done t => rfl
  | _ => cases h
theorem test_hyps_RepeatsRunTheirIterations :
    PairStarts pair0 pairT 0 gOn (.op .add 1 1 2) 64 ∧ 1 < (pairT.core 0).getLc ∧ (pairT.core 0).running = some 0 ∧
    ((pairT.core 0).slot 0).stopDue = false ∧ (pairT.core 0).haltReq = false := by
  refine ⟨⟨by decide, by decide, ⟨fetched pair0, ok_of (by decide), ok_of (by decide)⟩, by decide, by decide, by decide,
    by decide⟩, by decide, by decide, by decide, by decide⟩
theorem test_hyps_RepeatsAtTheLimit :
    ((lcAt 64 atT).core 0).getLc ≤ 64 ∧ ((lcAt 65536 atT).core 0).getLc ≤ 65536 ∧ ((lcAt 65 atT).core 0).getLc = 65 := by decide
theorem test_hyps_Iterates : ∃ u, Iterates 0 gOn (.op .add 1 1 2) 1 (lcAt 1 atT) u := by
  refine ⟨_, doneOf atT (((lcAt 1 atT).onCore 0 CoreS.landAll).scalar 0 true (.op .add 1 1 2)), ?_, rfl⟩
  rw [if_pos (by decide)]
  exact done_of (by decide)
def blocks (s : State) : State := regs 0 0 1 0 s
def readT : State := afterOk bulk ((blocks bulk).readElem 0 1 8)
theorem test_hyps_Elements :
    issues (blocks bulk) gOn = true ∧ bitOf ((blocks bulk).core 0).status 4 = true ∧ ((blocks bulk).g 0 3).toNat ≠ 0 ∧
    isOk ((blocks bulk).readElem 0 1 8) = true ∧ isOk (readT.readElem 0 2 8) = true ∧
    isOk (readT.writeElem 0 8 5) = true ∧ isOk ((blocks bulk).writeElem 0 8 0) = true ∧
    isOk (((blocks bulk).setC 0 1 (dataCap.withOffset 0x1000)).readElem 0 1 8) = false := by decide

theorem test_hyps_SystemWordsComplete :
    (atT.core 0).running = some 0 ∧ (atT.core 0).level = 0 ∧ (atS.core 0).level = 1 ∧ (atS.core 0).nibDue = false ∧
    (atS.core 0).nibActive = false ∧ (atM.core 0).level = 2 ∧ (atT.core 0).crAccess 0 33 ≠ .none ∧
    (atT.core 0).crAccess 0 6 = .rw ∧ (atS.core 0).crAccess 0 26 = .wo ∧ (atT.core 0).crAccess 0 63 = .none ∧
    (atM.core 0).crAccess 0 5 = .rw ∧ ((onTile { mb := { pcc := codeCap }, idleM := some 2 }).core 0).created = [] ∧
    issues atS gOn = true ∧ issues atM gOn = true := by decide
/-- An S handler that returns to T, and one whose saved level lies above ORIGIN. -/
def handler (sst : Word) : State :=
  onTile (coreOf { task0 with st := 1, sb := { pcc := codeCap, sst := sst, spcc := codeCap } })
theorem test_hyps_ReturnsRestoreTheSavedState :
    issues (handler 0) gOn = true ∧ ((handler 0).core 0).level = 1 ∧ ((handler 0).core 0).chainDue = none ∧
    checks123 codeCap false = none ∧ codeCap.gen = codeEnt.entry.gen ∧
    bitOf (effRights codeCap codeEnt.entry false) 2 = true ∧ codeCap.offset % 4 = 0 ∧ (codeCap.withOffset 2).offset % 4 ≠ 0 ∧
    (let b : Word := 0x40002; b.toNat % 4 = 2 ∧ b.toNat / 2 ^ 17 % 4 = 2 ∧ b.toNat / 2 ^ 5 % 8 = 0 ∧ stCwp (b.toNat % 2 ^ 17) < 16) ∧
    (((handler 1).core 0).slot 0).sb.sst.toNat / 2 ^ 17 % 4 < (((handler 1).core 0).slot 0).sb.sst.toNat % 4 ∧
    (((handler 0).entryFor 0 5 codeCap.gen) matches .hit _ _) = true := by decide
theorem test_hyps_ControlRegisterReadsBack : 14 ≤ 14 ∧ 14 ≤ 23 ∧ 23 ≤ 23 := by decide
/-- The Steward at level M of a task. -/
def stewardM : State := { State.reset with cores := emptyMap.set 128 (coreOf { task0 with st := 2 }) }
theorem test_hyps_ExceptionsEnterTheNextLevel :
    (atT.core 0).running = some 0 ∧ ((atT.core 0).slot 0).trap = none ∧ (atT.core 0).level = 0 ∧ targetsM 1 = false ∧
    targetsM 0x12 = true ∧ (atS.core 0).level = 1 ∧ 2 ≤ (atM.core 0).level ∧ (0x12 : Nat) < 2 ^ 32 ∧
    (stewardM.core 128).running = some 0 ∧ ((stewardM.core 128).slot 0).trap = none ∧ 2 ≤ (stewardM.core 128).level ∧
    (atM.core 0).cstop = false := by decide
theorem test_hyps_VectorArithmeticIsElementwise :
    IssuesV (vectors .on) (fetched (vectors .on)) 0 gOn ∧ 2 ≤ (3 : EW).val ∧ (2 : GReg).val % 2 = 0 :=
  ⟨⟨⟨by decide, by decide, ok_of (by decide), by decide, by decide⟩, by decide, by decide⟩, by decide, by decide⟩
def vectors4 : State := (vectors .on).onCore 0 fun c => { c with vl := c.vl.set 0 4 }
def passed4 (kind : AccKind) : Got (List Passed) := (busy vectors4 0).passElems 0 1 dataCap kind 64 8 0 4
theorem test_hyps_VectorMovesAndAccesses :
    (3 : Fin 32).val < 256 / (8 * 2 ^ (3 : EW).val) ∧ 256 / (8 * 2 ^ (3 : EW).val) ≤ (4 : Fin 32).val ∧
    isOk (passed4 .elemLoad) = true ∧ isOk (passed4 .elemStore) = true ∧
    issues (vectors .off) gOn = true ∧ ((fetched (vectors .off)).core 0).vunit = .off ∧
    bitOf ((fetched (vectors .off)).core 0).status 3 = true ∧ ((vectors .waking).core 0).vunit = .waking ∧
    Flight.vec ∉ ((vectors .on).core 0).flights ∧ ((vectors .on).core 0).woken = false ∧ ((vectors .on).core 0).cr 27 % 2 ^ 13 ≠ 0 ∧
    (((vectors .on).onCore 0 fun c => c.setCr 27 0).core 0).cr 27 % 2 ^ 13 = 0 := by decide
theorem test_hyps_CoreEventsComplete :
    ((atT.onCore 0 fun c => { c with flights := [.g (.task 0 1) 5 true 2] }).core 0).flights = .g (.task 0 1) 5 true 2 :: [] ∧
    ((atT.onCore 0 fun c => { c with flights := [.g (.task 0 1) 5 false 0] }).core 0).flights = .g (.task 0 1) 5 false 0 :: [] ∧
    ((atS.onCore 0 fun c => c.startNib 5).core 0).nibActive = true ∧
    (((atT.onCore 0 fun c => c.onTask fun t => { t with trap := some ⟨0x0F, 0x100, 5, 0⟩ }).core 0).slot 0).trap = some ⟨0x0F, 0x100, 5, 0⟩ ∧
    (atT.core 0).cstop = false ∧ (atT.core 0).halted = false ∧ atT.issueOff = false ∧ atT.tileDown 0 = false ∧
    (atT.core 0).interruptible = true ∧
    ((atT.onCore 0 fun c => { c with pSreq := true }).core 0).pSreq = true ∧
    (((atT.onCore 0 fun c => c.onTask fun t => { t with pStart := true }).core 0).slot 0).pStart = true ∧
    ((atT.onCore 0 fun c => c.onTask fun t => { t with pStart := true }).core 0).interruptible = true ∧
    (((atT.onCore 0 fun c => c.onTask fun t => { t with pTick := true }).core 0).slot 0).pTick = true := by decide

/-! The device: the Steward writes the registers. -/

def sw : Master := .core 128
/-- A master that is not the Steward, admitted at every register block. -/
def other : Master := .core 0
def openAll (s : State) : State := (List.range 16).foldl (fun (s : State) n => s.setF .FG_LWALLOW_ALLOW (2 ^ 64 - 1) (21 + n)) s
def admits (s : State) (m : Master) (a : Nat) : Bool := s.verdict (s.masterAgent m) true a 8 = .allow
def taken (s : State) (m : Master) (a : Nat) : Bool := admits s m a && Master.isSteward m
def R : State := State.reset

def ticking : State := { R with tick := { R.tick with running := true } }
theorem test_hyps_TickUnitCommands :
    taken R sw 0x40000018 = true ∧ (counted R sw 0x40000018).f .TU_PEND_ARM = 0 ∧
    (counted (R.setF .TU_PENDAT_ATTICK 1) sw 0x40000018).tickNo < (counted (R.setF .TU_PENDAT_ATTICK 1) sw 0x40000018).f .TU_PENDAT_ATTICK ∧
    (counted R sw 0x40000018).f .TU_PENDAT_ATTICK ≤ (counted R sw 0x40000018).tickNo ∧
    taken R sw 0x40000028 = true ∧ ({ R with tick := { R.tick with src := 1 } } : State).tick.src = 1 ∧ R.tick.src ≠ 1 ∧
    admits (openAll R) other 0x40000018 = true ∧ Master.isSteward other = false ∧
    25000 ≤ (if (R.setF .TU_STAT_LOCK 2).f .TU_STAT_LOCK = 2 then 25000 else R.nominal / 2) ∧
    ticking.tick.running = true ∧ ticking.tick.seenNext = false ∧ (R.setF .TU_STAT_LOCK 1).f .TU_STAT_LOCK = 1 := by decide
theorem test_hyps_TickBoundaryRunsItsSteps :
    R.tick.running = false ∧ ticking.tick.running = true ∧
    (ticking.onPress fun p => { p with parked := true }).press.parked = true ∧
    (ticking.onPress fun p => { p with parked := true }).tickMark ≤ (ticking.onPress fun p => { p with parked := true }).tickNo ∧
    ticking.press.parked = false ∧ ticking.tickNo < (ticking.onPress fun p => { p with tickMarks := [9] }).tickMark ∧
    ((ticking.setF .TU_PEND_ARM 1).setF .TU_PENDAT_ATTICK 1).f .TU_PENDAT_ATTICK = (ticking.tickNo + 1) % 2 ^ 64 ∧
    (ticking.setF .TU_CTRL_TOEN 1).f .TU_CTRL_TOEN = 1 := by decide
def spentTask : State := ((({ atT with meters := { atT.meters with period := some 500 } }).setF .TASK_ALLOW_ALLOW 1 0).setF .AM_CTRL_ENABLE 1).charge (.task 0) 1
def dueTask : State := { atT with meters := { atT.meters with due := [.task 0] } }
theorem test_hyps_MetersCountAndDeschedule :
    (({ atT with meters := { atT.meters with period := some 500 } }).setF .TASK_ALLOW_ALLOW 1000 0).reloadMeters.unlimited (.task 0) = false ∧
    R.f .TU_CTRL_PERIOD < 4 ∧ spentTask.admits (.task 0) = false ∧ (Meter.task 0) ∉ spentTask.meters.due ∧
    (Meter.task 0) ∈ dueTask.meters.due ∧ (dueTask.core 0).running = some 0 ∧ (dueTask.core 0).mayLeave = true ∧
    ((dueTask.core 0).slot 0).trap = none ∧ dueTask.cores.keys = [0] ∧ dueTask.classOf 0 = 0 := by decide
def inState (x : TState) : State := (openAll R).setTask 0 { state := x }
theorem test_hyps_TaskControlCommands :
    let a := 0x40E80000 + 32 * 0
    admits (openAll R) other a = true ∧ (counted (openAll R) sw a).mayControl sw 0 = true ∧
    (counted (openAll R) sw a).slotExists 0 = true ∧ ((counted (openAll R) sw a).task 0).state = .absent ∧
    (counted (openAll R) sw a).live .CLASS_CFG_KIND ((counted (openAll R) sw a).classOf 0) = 0 ∧
    ((counted (openAll R) sw a).core 0).freeCtx = some 0 ∧
    (counted (inState .ready) sw a).mayControl sw 0 = true ∧ ((counted (inState .ready) sw a).task 0).state = .ready ∧
    ((counted (inState .ready) sw a).core 0).running ≠ some 0 ∧
    ((counted (inState .stopped) sw a).task 0).state = .stopped ∧ admits (inState .waiting) sw (a + 16) = true ∧
    taken R sw 0x40ED0000 = true ∧ ((onTile {}).core 0).held = false ∧
    admits (openAll R) sw (0x40E80000 + 32 * 8196) = true ∧ (counted (openAll R) sw (0x40E80000 + 32 * 8196)).mayControl sw 8196 = true ∧
    (counted (openAll R) sw (0x40E80000 + 32 * 8196)).slotExists 8196 = true ∧
    ((counted (openAll R) sw (0x40E80000 + 32 * 8196)).task 8196).state = .absent ∧
    ((counted (openAll R) sw (0x40E80000 + 32 * 8196)).core 128).freeCtx = some 0 ∧
    ((((onTile {}).setTask 0 { state := .ready }).core 0).rotation 0 false) = 0 :: [] ∧
    ((onTile {}).setTask 0 { state := .ready }).eligible 0 = true := by decide
theorem test_hyps_RegisterWritesAreGuarded :
    R.silent (.dev 47) = false ∧ (R.onCore 3 fun c => { c with cstop := true }).silent (.core 3) = true ∧
    (0x40000000 % 8 = 0 ∧ inControl 0x40000000 = true ∧ inControl 0x40EFFFF8 = true) ∧
    R.verdict (R.masterAgent other) true 0x40000000 8 = .refuse 0x40000000 .identity ∧
    ({ R with guard := { R.guard with held := some [(0x40000000, 0x4000FFFF)] } } : State).verdict (R.masterAgent sw) true 0x40000000 8 = .hold ∧
    (admits R sw 0x4000FFF8 = true ∧ regAt 0x4000FFF8 = none) ∧
    (regAt 0x40100010 = some (.HM_CFG, 0) ∧ admits R sw 0x40100010 = true ∧ (counted R sw 0x40100010).mayWrite sw .HM_CFG 0 = true) ∧
    (admits (openAll R) other 0x40100010 = true ∧ (counted (openAll R) other 0x40100010).mayWrite other .HM_CFG 0 = false) := by
  decide
def holding (done : Bool) : State :=
  { ((R.setF .FG_UPD_HOLD 1).setF .FG_STAT_HOLDING 1).setF .FG_STAT_DRAINED (if done then 1 else 0) with
    guard := { R.guard with held := some [] } }
theorem test_hyps_GuardUpdateCommands :
    let a := 0x40600010
    taken R sw a = true ∧ (counted R sw a).f .FG_UPD_HOLD = 0 ∧ ((counted R sw a).setF .FG_UPD_NRANGE 0).badUpdate = false ∧
    ((counted (R.setF .FG_PCRANGE_COUNT 0 0) sw a).setF .FG_UPD_NRANGE 17).badUpdate = true ∧
    taken (holding true) sw a = true ∧ (counted (holding true) sw a).f .FG_STAT_DRAINED = 1 ∧
    (counted (holding true) sw a).guard.committed = false ∧ (counted (holding true) sw a).guard.modeOnly = false ∧
    (let d := (holding true).commitUpdate
     taken d sw a = true ∧ (counted d sw a).guard.committed = true ∧ (counted d sw a).guard.undo = (holding true).rulesNow ∧
      (counted d sw a).guard.applying = none ∧ (counted d sw a).guard.modeDue = none ∧ (counted d sw a).ports.hostHeld = []) ∧
    (holding false).f .FG_STAT_HOLDING = 1 ∧ (holding false).f .FG_STAT_DRAINED = 0 ∧ (holding false).f .FG_UPD_COMMIT = 0 ∧
    R.guard.before = [] ∧ ({ R with guard := { R.guard with committed := true } } : State).guard.committed = true := by decide
def walker : State := (R.setF .RW_CTRL_ENABLE 1).onRegistry fun r => { r with inited := true }
def withEntry (e : Entry) : State := walker.setEntry 9 e
def run0 (op : Nat) : WalkRun := ⟨{ by_ := .block 128, op := op, index := 9 }, 0, 0⟩
theorem test_hyps_WalkerCommands :
    let a := 0x40510000 + 64 * 128
    taken walker sw a = true ∧ ownsBlock sw 128 = true ∧ (counted walker sw a).registry.cmd = none ∧
    (counted walker sw a).registry.waiting = [] ∧ (counted walker sw a).registry.quiet = [] ∧
    (counted walker sw a).f .RW_CTRL_ENABLE = 1 ∧
    (counted ((walker.setF .RW_ARG2_TYPE 1 128).setF .RW_ARG0_BASE 0x100000000 128) sw a).argsOk 128 = true ∧
    (counted walker sw a).takeFree.isSome = true ∧ (counted walker sw a).freeCount ≠ 0 ∧
    ((counted (withEntry { valid := true, gen := 0xFFFE }) sw a).entry 9).valid = true ∧
    ((counted (withEntry { valid := true, gen := 0xFFFE }) sw a).entry 9).gen ≠ 0xFFFF ∧
    ((counted (withEntry { valid := true, ledgerOnly := true }) sw a).entry 9).ledgerOnly = true ∧
    (counted (withEntry { valid := true, ledgerOnly := true }) sw a).changeNamed = false ∧
    (counted ((withEntry { valid := true, ledgerOnly := true }).onPress fun p =>
      { p with slots := p.slots.set 0 (.good ⟨0, 0, .dev (.config 0x4100 0 0 0 0 0 0 [])⟩) }) sw a).changeNamed = true ∧
    (128, 2) ∉ (counted walker sw a).registry.argBad ∧ walker.underWay ⟨run0 2, [], []⟩ = false ∧
    (walker.onRegistry fun r => { r with cmd := some (run0 2) }).registry.cmd = some (run0 2) ∧
    (walker.onRegistry fun r => { r with quiet := [⟨run0 2, [], []⟩] }).registry.quiet = ⟨run0 2, [], []⟩ :: [] := by decide
def filling (i : Nat) (s : State) : State := s.onCore 0 fun c => { c with fill := some ⟨i, 7, false, false⟩ }
theorem test_hyps_RegistryUpkeep :
    ((filling 9 (withEntry { valid := true })).core 0).filling = some 9 ∧ (filling 9 walker).indexHeld 9 = false ∧
    ((((filling 9 (withEntry { valid := true })).fillOf 0 9) matches .ok _) = true ∧ (((filling 9 walker).fillOf 0 9) matches .error _) = true) ∧
    ((filling 9 walker).onRegistry fun r => { r with cmd := some (run0 2) }).indexHeld 9 = true ∧
    ((walker.onCore 0 fun c => { c with fill := some ⟨9, 7, false, true⟩ }).core 0).fill = some ⟨9, 7, false, true⟩ ∧
    ((filling 9 walker).core 0).fill = some ⟨9, 7, false, false⟩ ∧
    (({ walker with hamper := { walker.hamper with bufs := walker.hamper.bufs.set 131071 .recycleDue } } : State).hamper.bufs.find 131071 = some .recycleDue) ∧
    (walker.entry (walker.f .HM_BUFIDX_FIRST + 131071)).gen ≠ 0xFFFF ∧
    taken walker sw 0x40500028 = true ∧ walker.f .RW_STAT_SWEEPING = 0 ∧
    ((walker.setF .RW_STAT_SWEEPING 1).f .RW_STAT_SWEEPING = 1 ∧ (walker.setF .RW_STAT_SWEEPING 1).f .RW_SWEEP_START = 0) ∧
    (withEntry { valid := true, depth := 1, parent := 3, pgen := 7 }).isOrphan 9 = true ∧ walker.isOrphan 9 = false ∧
    taken R sw 0x40500000 = true := by decide

/-! Frames, sessions, the ledger, the Watch and Seal Engines. -/

/-- A header of a kind for session 5 at epoch 9, REQID `r`. -/
def hdrK (kind : BitVec 4) (r : BitVec 32) : Hdr := { blankHdr 0 with kind := kind, session := 5, epoch := 9, reqid := r }
def inF (kind : BitVec 4) (r : BitVec 32) : InFrame := ⟨3, ⟨hdrK kind r, []⟩, 0⟩
def sess5 : Session := { isOpen := true, peer := 3, epoch := 9, next := 100, log := [⟨99, 1, 7⟩] }
/-- A ready Hamper with session 5 as given, and a frame in the inbox. -/
def ham (x : Session) (i : InFrame) : State :=
  let s := (R.setF .HM_CTRL_ENABLE 1).setSession 5 x
  { s with hamper := { s.hamper with inbox := [i] } }
def req0 (b : Nat) : Req := { hdr := hdrK 1 100, peer := 3, buf := b, arrival := 0, deadline := 0 }
def ours (s : State) (i : InFrame) : Bool :=
  s.hamperReady && (s.session i.frame.hdr.session.toNat).isOpen && decide ((s.session i.frame.hdr.session.toNat).peer = i.peer) &&
    decide ((s.session i.frame.hdr.session.toNat).epoch = i.frame.hdr.epoch.toNat)
theorem test_hyps_RequestsAreClassified :
    (ham sess5 (inF 1 100)).hamper.inbox = inF 1 100 :: [] ∧ (inF 1 100).frame.hdr.kind = 1 ∧
    ours (ham sess5 (inF 1 100)) (inF 1 100) = true ∧ (R.hamperReady = false) ∧
    ours (ham { sess5 with epoch := 8 } (inF 1 100)) (inF 1 100) = false ∧
    dOf (ham sess5 (inF 1 100)) (inF 1 100) = 0 ∧ dOf (ham sess5 (inF 1 115)) (inF 1 115) = 15 ∧
    dOf (ham sess5 (inF 1 116)) (inF 1 116) = 16 ∧ dOf (ham sess5 (inF 1 52)) (inF 1 52) = -48 ∧
    dOf (ham sess5 (inF 1 51)) (inF 1 51) = -49 ∧ sess5.logFind 99 = some ⟨99, 1, 7⟩ ∧ sess5.logFind 98 = none ∧
    ((sess5.put 15 (.queued (req0 0))).at 15).inFlight = true ∧ (sess5.at 15).inFlight = false ∧
    ((ham sess5 (inF 1 100)).setF .PR_STAT_FULL 1).ledgerFull = true ∧ (ham sess5 (inF 1 100)).ledgerFull = false ∧
    (ham sess5 (inF 1 100)).freeBuffer = some 0 ∧
    (openAll (ham sess5 (inF 1 100))).verdict (laneDmaAgent 0) true 0x40000000 8 = .allow ∧
    ({ sess5 with closing := some (hdrK 5 0) } : Session).closing.isSome = true := by decide
theorem test_hyps_SessionsOpenAndClose :
    (inF 4 0).frame.hdr.kind = 4 ∧ (inF 5 0).frame.hdr.kind = 5 ∧ (ham {} (inF 4 0)).hamperReady = true ∧
    ((ham {} (inF 4 0)).session 5).isOpen = false ∧ ((ham { sess5 with peer := 4 } (inF 4 0)).session 5).peer ≠ 3 ∧
    (sess5.busy = false ∧ sess5.closing = none ∧ (ham sess5 (inF 5 0)).noRecords = false) ∧
    (sess5.put 0 (.queued (req0 0))).busy = true ∧ ({} : Session).log = [] ∧ sess5.log ≠ [] := by decide

/-- The Guard holds every write to memory, for an update. -/
def heldAll (s : State) : State := { s with guard := { s.guard with held := some [(0, 2 ^ 40 - 1)] } }
/-- The request buffers lie in Tile Store 0, which every agent may write. -/
def openPlp (s : State) : State :=
  (s.setF .HM_BUFBASE_BASE 1).setF .FG_LWALLOW_ALLOW (2 ^ 64 - 1) 4
theorem test_hyps_FramesLand :
    (heldAll (ham sess5 (inF 1 100))).landing (inF 1 100) = .waits ∧ (ham sess5 (inF 1 100)).landing (inF 1 100) = .refused 0 ∧
    (openPlp (ham sess5 (inF 1 100))).landing (inF 1 100) = .lands 0 := by decide

def srcA : Source := ⟨7, 6000, 1⟩
/-- A frame of peer 3 at Lane Port 0. -/
def rxA (f : Frame) : RxFrame := ⟨.udp 0 srcA true false false false (32 + f.payload.length) f, 100, true⟩
def fA : Frame := ⟨{ hdrK 1 100 with ver := 1 }, []⟩
def lane0 : State :=
  let s := ((R.setF .P_CTRL_ENABLE 1 0).setF .LP_CFG_IP4EN 1 0).setF .LP_CFG_UDPPORT 0 0
  { s with peers := emptyMap.set 3 { addr := 7, udp := 6000, valid := true },
           ports := { s.ports with rx := emptyMap.set 0 [rxA fA] } }
def copyA (tries : Nat) (sent : Bool) : TxCopy := ⟨⟨blankHdr 2, []⟩, 0, sent, tries⟩
def linkA (c : TxCopy) : State := lane0.setLink 3 { port := some 0, out := [c], ackDue := true }
theorem test_hyps_LinkLayerCommands :
    lane0.rxQueue 0 = rxA fA :: [] ∧ lane0.isPlp 0 (rxA fA).content = true ∧ lane0.peerOf srcA = some 3 ∧
    badHeader fA.hdr 32 fA.payload false = false ∧ badHeader fA.hdr 33 fA.payload false = true ∧
    (rxA fA).charged = true ∧ lane0.exhausted (dmaMeter 0) = false ∧ lane0.laneUp 0 = true ∧ ((linkA (copyA 0 true)).link 3).ackDue = true ∧
    ((linkA (copyA 2 true)).link 3).out.find? (fun c => c.frame.hdr.lseq = (0 : BitVec 16) && c.sent) = some (copyA 2 true) ∧
    copyA 3 true ∈ ((linkA (copyA 3 true)).link 3).out ∧ ((linkA (copyA 3 true)).link 3).waiting = [] ∧
    ((linkA (copyA 0 false)).link 3).port = some 0 := by decide

def hold5 (p : Pos) (l : List Nat) : State :=
  let s := ham (({ sess5 with timer := true }).put 0 p) (inF 1 0)
  { s with hamper := { s.hamper with heldSess := l } }
def reqLim : Req := { req0 131071 with hdr := { hdrK 1 100 with paylen := 8 } }
theorem test_hyps_HamperUpkeep :
    (hold5 (.queued reqLim) []).bufHolder 131071 = some (5, 0, reqLim) ∧
    ((hold5 (.queued reqLim) []).session 5).at 0 = .queued reqLim ∧ reqLim.hdr.paylen ≠ 0 ∧ reqLim.lim = false ∧
    (hold5 (.queued (req0 0)) [5]).hamper.heldSess = [5] ∧ (req0 0).hdr.paylen = 0 ∧
    (hold5 (.queued (req0 0)) [5]).exhausted (.dispatches 0) = false ∧
    (req0 0).deadline < ((hold5 (.queued (req0 0)) []).setF .TU_TICK_TICK 1).tickNo ∧
    (hold5 (.queued (req0 0)) []).tickNo ≤ (req0 0).deadline ∧ ((hold5 .absent []).session 5).timer = true ∧
    ((hold5 .absent []).session 5).at 0 = .absent ∧ taken R sw 0x40100000 = true ∧ R.hamper.rebuilding = false ∧
    (hold5 .absent []).noRecords = false ∧ (hold5 .absent []).press.devQ = [] ∧
    ((hold5 .absent []).setF .PR_STAT_SEALED 1).noRecords = true := by decide

/-- Recovery has completed, and the Press is enabled. -/
def pressOn : State := (R.setF .PR_CTRL_ENABLE 1).onPress fun p => { p with recovered := true }
def descr (c : BitVec 8) : QEnt :=
  ⟨granules 18 (hdrBytes { hdrK 1 100 with ver := 1, code := c, paylen := 256, replyq := 7 } ++ zeros 256), .task 4 1, false⟩
def handing (c : BitVec 8) : State :=
  (pressOn.setSession 5 (sess5.put 0 (.dispatched { req0 0 with task := some 4 }))).setQueue 1008 { ents := [descr c] }
def wr (tries : Nat) (sp : Bool) : Writing := ⟨⟨0, 0, .abandon ⟨5, 9, 100, 3, 0, 0, 0, 0, 0, 0, 0⟩⟩, .abandonRec 5, tries, sp⟩
def writingS (w : Writing) : State := pressOn.onPress fun p => { p with writing := some w }
def wrTask : Writing :=
  ⟨⟨0, 0, .accept ⟨5, 9, 100, 3, 0, 0, 0, 4, 0, 0, 0⟩ []⟩, .taskRec 7 (hdrK 1 100) 4, 0, false⟩
/-- A slot of the ring that the patrol writes again. -/
def wr0 : Writing := { wr 0 false with src := .repair }
def wrote : State := (writingS wrTask).setSession 5 sess5
def recC : DevRec := .config 0x2000 0 0 3 0 0 1 [1]
theorem test_hyps_PressWritesTheLedger :
    ((handing 1).pressNext matches .task) = true ∧ ((handing 1).queue 1008).ents = descr 1 :: [] ∧
    (((handing 1).checkHandover (descr 1)) matches .ok _) = true ∧ (((handing 12).checkHandover (descr 12)) matches .ok _) = true ∧
    (((handing 2).checkHandover (descr 2)) matches .error _) = true ∧
    (writingS (wr 0 false)).press.writing.isSome = true ∧ pressOn.channelFree = true ∧ pressOn.taskDue = false ∧
    pressOn.press.devQ.length < 16 ∧ (writingS (wr 1 true)).press.writing = some (wr 1 true) ∧
    (writingS (wr 1 false)).press.sparesUsed < 8192 ∧ ticking.press.tickMarks.foldl max 0 ≤ ticking.tickNo + ticking.ticksPerSecond ∧
    wrote.ports.hostHeld = [] ∧ wrote.trust.awaits = [] ∧ wrote.press.hdrs = [] ∧ wrTask.src ≠ .repair ∧ wr0.src = .repair ∧
    (writingS wr0).press.writing = some wr0 ∧ pressOn.press.recQ = [] ∧ pressOn.press.finalHdr = none ∧
    (∀ x ∈ ([(recC, {})] : List (DevRec × Serves)), x.2.formed = true) ∧
    ((writingS (wr 1 false)).onPress fun p => { p with sparesUsed := 8192 }).press.sparesUsed = 8192 ∧
    wrote.press.writing = some wrTask ∧ (wrote.session 5).isOpen = true ∧ (wrote.session 5).epoch = 9 ∧
    (wrote.session 5).next = 100 ∧ (wrote.session 5).closing = none ∧ ticking.press.parked = false := by decide

/-- The archive is open; the segments given. -/
def arch (l : List Seg) : State :=
  let s := (pressOn.setF .PR_CTRL_ARCHEN 1).setF .PR_NEXTLSN_NEXTLSN 300
  { s with ports := { s.ports with archiveLink := true }, press := { s.press with bound := true, segs := l } }
def seg0 (tries : Nat) : Seg := { first := 0, count := 256, tries := tries }
theorem test_hyps_ArchiveDrainsTheLedger :
    (arch []).archiveOpen = true ∧ (arch []).press.issued < (arch []).nextLsn ∧
    256 ≤ (arch []).nextLsn - (arch []).press.issued ∧ (arch []).press.segCharged = false ∧
    (arch []).admits (.eng 19) = true ∧ (arch []).admits (.eng 35) = true ∧ (arch [seg0 0]).press.segs = [seg0 0] ∧
    (arch []).press.retrying = false ∧ (arch []).press.segs = [] ∧
    (seg0 0).first ≤ (arch [seg0 0]).f .PR_ARCHLSN_ARCHLSN ∧ (arch [seg0 0]).f .PR_ARCHLSN_ARCHLSN < (seg0 0).first + (seg0 0).count ∧
    (seg0 2).tries < 3 ∧ 3 ≤ (seg0 3).tries ∧ ((arch [seg0 2]).setF .PR_CTRL_ARCHEN 0).archiveOpen = false ∧
    ((arch []).onPress fun p => { p with retrying := true }).press.retrying = true ∧
    (R.onDict fun d => { d with vals := d.vals.set (0x2801, 1) [1] }).archiveEnabled = true ∧
    ((R.setF .P_CTRL_ENABLE 1 9).fb .P_CTRL_ENABLE 9 = true ∧ (R.setF .P_CTRL_ENABLE 1 9).portDown 9 = false) ∧
    (arch []).ports.archiveLink = true ∧ (arch []).admits (portMeter 9) = true := by decide
theorem test_hyps_PowerFailAndRecovery :
    R.power.warned = false ∧ (R.onPower fun p => { p with warned := true }).power.warned = true ∧
    R.press.writing = none ∧ R.press.recQ = [] ∧ R.fb .PR_STAT_LFAULT = false ∧ R.fb .PR_STAT_SEALED = false ∧
    R.press.tampering = false ∧ (R.press.archMarks = [] ∧ R.press.tickMarks = []) ∧
    (R.onPress fun p => { p with archMarks := [1] }).press.archMarks ≠ [] ∧
    (writingS (wr 0 false)).press.writing ≠ none ∧ (wr 0 false).src ≠ .repair ∧ R.tick.running = false ∧
    ticking.tick.running = true ∧ taken R sw 0x40200000 = true ∧ R.press.recovered = false ∧ pressOn.press.recovered = true ∧ R.newestFirst = [] ∧
    (R.onPress fun p => { p with slots := p.slots.set 0 (.good (wr 0 false).rec_) }).newestFirst ≠ [] := by decide

def look (f : Option Bytes) : Lookup := ⟨{ entry0 with grans := granules 3 (hdrBytes { hdrK 1 0 with ver := 1, code := 1, paylen := 16, replyq := 7 } ++ leBytes 16 1) }, 1, true, f, false⟩
def watching (l : List Lookup) (ents : List QEnt) : State :=
  (R.onWatch fun w => { w with lookups := l }).setQueue 1010 { ents := ents }
theorem test_hyps_LookupsWait :
    (watching [] [entry0]).lookupHeld entry0 = false ∧ (heldAll (watching [] [entry0])).lookupHeld entry0 = true := by
  decide +kernel

/-- Every agent may read and write every slot; the shadow copy lies in the Watch Table's own area. -/
def readable (s : State) : State :=
  (List.range 50).foldl (fun (s : State) n => (s.setF .FG_LRALLOW_ALLOW (2 ^ 64 - 1) n).setF .FG_LWALLOW_ALLOW (2 ^ 64 - 1) n)
    (s.setF .WT_SHADOW_BASE 188)
/-- An access each page of which is admitted alike is admitted. -/
theorem admitted_parts (z : Bool) (i c : Nat) (l : List (Nat × Piece)) (h : ∀ p ∈ l, p.2 = .allow z i c) :
    mergeParts l = [] ∨ ∃ a, mergeParts l = [(a, .allow z i c)] := by
  induction l with
  | nil => exact .inl rfl
  | cons p l ih =>
    obtain ⟨a, y⟩ := p
    obtain rfl : y = .allow z i c := h (a, y) (List.mem_cons_self ..)
    refine .inr ⟨a, ?_⟩
    rcases ih fun q hq => h q (List.mem_cons_of_mem _ hq) with e | ⟨b, e⟩ <;> simp [mergeParts, e]
def badBucket (h sh : Bool) : State :=
  R.onWatch fun w => { w with badHome := if h then [1048575] else [], badShadow := if sh then [1048575] else [] }
/-- The Steward reads and writes the Watch Table's area (R317). -/
theorem home_piece (c a : Nat) (w : Bool) (h : 0x2F0000000 ≤ a) (k : a ≤ 0x2F3FFFFFF) :
    (readable R).guardPiece ⟨32, c⟩ w a = .allow false 38 0 := by
  have f : fixedSlot a = some 38 := by
    unfold fixedSlot
    iterate 10
      refine (if_neg fun e => ?_).trans ?_
      · try simp only [Bool.and_eq_true, decide_eq_true_eq] at e
        omega
    exact if_pos (by simp only [Bool.and_eq_true, decide_eq_true_eq]; omega)
  have p : (readable R).slotsAt a = [38] := by unfold State.slotsAt; rw [f]
  have q : assigned a = true := by unfold assigned; rw [f]; rfl
  unfold State.guardPiece
  rw [p, q]
  have r1 : bitOf ((readable R).readMask 38) 32 = true := by decide
  have r2 : bitOf ((readable R).writeMask 38) 32 = true := by decide
  cases w <;> simp [isColourSlot, r1, r2]
theorem mem_nums (x lo n : Nat) : x ∈ numsFrom lo n ↔ lo ≤ x ∧ x < lo + n := by
  induction n generalizing lo with
  | zero => simp [numsFrom]
  | succ n ih => simp only [numsFrom, List.mem_cons, ih]; omega
theorem test_hyps_WatchOpen : (readable R).watchOpen = true := by
  have b : ∀ x, (readable R).watchBase x = 0x2F0000000 := by decide
  have key : ∀ w, (readable R).stewardAdmits w 0x2F0000000 watchSize = true := by
    intro w
    unfold State.stewardAdmits State.stewardParts
    have h := admitted_parts false 38 0 ((pieceStarts 0x2F0000000 watchSize).map fun b =>
      (b, (readable R).guardPiece ⟨32, (readable R).pageColour b⟩ w b)) (by
        intro p hp
        obtain ⟨a, ha, rfl⟩ := List.mem_map.mp hp
        refine home_piece _ a w ?_ ?_ <;>
        · rw [show pieceStarts 0x2F0000000 watchSize = 0x2F0000000 :: (numsFrom 1 16383).map fun i =>
            (0x2F0000000 / 4096 + i) * 4096 from rfl, List.mem_cons, List.mem_map] at ha
          rcases ha with rfl | ⟨i, hi, rfl⟩
          · omega
          · have := (mem_nums i 1 16383).mp hi
            omega)
    rcases h with e | ⟨b, e⟩ <;> rw [e] <;> rfl
  unfold State.watchOpen
  rw [b, b, key, key]
  rfl
theorem test_hyps_WatchCommands :
    R.enginesOff = false ∧ (watching [] [entry0]).nextLookup = some (entry0, []) ∧
    (readable R).stewardAdmits false ((readable R).watchBase true + 64 * 9) 64 = true ∧
    (readable R).stewardAdmits true (0x2F0000000 + 64 * 9) 64 = true ∧
    (watching [look none] []).watch.lookups = look none :: [] ∧ (badBucket true false).watch.badHome.contains 1048575 = true ∧
    (badBucket true false).watch.badShadow.contains 1048575 = false ∧ (badBucket true true).watch.badShadow.contains 1048575 = true ∧
    taken R sw 0x40300020 = true ∧ R.watch.list = none ∧ R.f .WT_PEND_ARM = 0 ∧ R.f .WT_PENDAT_ATTICK ≤ R.tickNo ∧
    (R.setF .WT_PENDAT_ATTICK 1).tickNo < (R.setF .WT_PENDAT_ATTICK 1).f .WT_PENDAT_ATTICK ∧
    (R.onWatch fun w => { w with list := some (.switched true) }).watch.list = some (.switched true) := by decide

def jobA : PressJob := ⟨0, [], true⟩
def sealQ (l : List SealItem) (r : Option Running) : State :=
  (R.setF .SE_CTRL_ENABLE 1 7).setEngine 7 { queue := l, running := r }
/-- A SHA-512 descriptor of the Steward over 16 bytes of the data object, its digest to the same object. -/
def shaE : QEnt :=
  let h : Hdr := { hdrK 1 0 with ver := 1, session := 0, epoch := 0, code := 6, paylen := 80, replyq := 7 }
  ⟨(granules 3 (hdrBytes h ++ leBytes 8 16 ++ leBytes 4 16 ++ zeros 4)) ++ [mkCap 6 1 0x7FF 0 0 0, nullCap, mkCap 6 1 0x7FF 0 0 64, nullCap], .steward, false⟩
/-- An ED-VERIFY descriptor over 16 bytes, its public key behind them; a KEYDESTROY of key slot 3. -/
def edE : QEnt :=
  let h : Hdr := { hdrK 1 0 with ver := 1, session := 0, epoch := 0, code := 1, paylen := 80, replyq := 7 }
  ⟨(granules 3 (hdrBytes h ++ leBytes 8 16 ++ leBytes 4 16 ++ zeros 4)) ++ [mkCap 6 1 0x7FF 0 0 0, mkCap 6 1 0x7FF 0 0 64, nullCap, nullCap], .steward, false⟩
def keyE : QEnt :=
  let h : Hdr := { hdrK 1 0 with ver := 1, session := 0, epoch := 0, code := 18, paylen := 80, replyq := 7 }
  ⟨(granules 3 (hdrBytes h ++ leBytes 4 3 ++ zeros 4 ++ leBytes 4 16 ++ zeros 4)) ++ [nullCap, nullCap, nullCap, nullCap], .steward, false⟩
def sealMem (l : List SealItem) : State :=
  (((atT.setEntry 6 dataEnt.entry).setF .SE_CTRL_ENABLE 1 7).setEngine 7 { queue := l })
/-- KEYGEN of slot 16, type 1, owner 1, asked for by the mailbox. -/
def keyJ : KeyJob := { cmd := 1 + 16 * 256 + 2 ^ 24 + 2 ^ 32, serves := asks .mailbox 1 0x2C20 1, old := {} }
def runA (j : Option PressJob) : Running := { hdr := hdrK 1 0, by_ := .steward, job := j, slots := [], out := { status := 1 } }
theorem test_hyps_SealEnginesStartJobs :
    (sealQ [] none).engineReady 7 = true ∧ ((sealQ [] none).engine 7).running = none ∧ R.enginesOff = false ∧
    (sealQ [.press jobA] none).nextItem 7 = some (.press jobA, []) ∧ (SealItem.press jobA).code = 2 ∧
    (sealMem [.desc shaE]).nextItem 7 = some (.desc shaE, []) ∧ (SealItem.desc shaE).code = 6 ∧
    ((Instr.sha512 7, 6) ∈ sealStarts 7 ∧ (Instr.edSign 7, 2) ∈ sealStarts 7) ∧ (SealItem.desc shaE).code ≠ 7 ∧
    (sealQ [.key keyJ] none).nextItem 7 = some (.key keyJ, []) ∧ (SealItem.key keyJ).code = 16 ∧ (Instr.keygen 7, 16) ∈ sealStarts 7 ∧
    (sealQ [.desc entry0] none).nextItem 7 = some (.desc entry0, []) ∧ (SealItem.desc entry0).code ∉ sealCodes := by decide
theorem test_hyps_SealJobsCheckAndCompute :
    (sealDesc entry0).formOk = false ∧ (sealDesc shaE).formOk = true ∧ 16 ≤ (sealDesc shaE).len0 ∧
    (((sealMem []).checkOperands 7 (sealDesc shaE) [(0, false, 16), (2, true, 64)]) matches .ok _) = true ∧
    (((sealQ [] none).checkOperands 7 (sealDesc shaE) [(0, false, 16), (2, true, 64)]) matches .error _) = true ∧ needsEntropy 16 = true ∧ needsEntropy 6 = false ∧ needsEntropy 1 = false ∧
    stewardOnly 16 = true ∧ stewardOnly 2 = false ∧ (keyNeed 2).isSome = true ∧ R.mayUse (.task 4 1) 5 = false ∧
    (R.key 5).key = none ∧ Submitter.isSteward (.task 4 1) = false ∧ R.mayUse .steward 5 = true ∧
    (((sealMem []).checkOperands 7 (sealDesc shaE) [(0, false, 16), (1, false, 32)]) matches .error _) = true ∧
    (((sealMem []).checkOperands 7 (sealDesc edE) [(0, false, 16), (1, false, 32)]) matches .ok _) = true ∧
    (sealDesc edE).hdr.code = 1 ∧ (sealDesc edE).formOk = true ∧ (sealDesc keyE).hdr.code = 18 ∧ (sealDesc keyE).formOk = true ∧
    (sealDesc keyE).keyh % 1024 < 7 ∧ 16 ≤ (sealDesc keyE).len0 := by decide
theorem test_hyps_SealEnginesEndJobs :
    ((sealQ [] (some (runA none))).engine 7).running = some (runA none) ∧ (runA none).job = none ∧
    (sealQ [] (some (runA none))).mustWait 7 (runA none) = false ∧ R.signing 7 = false ∧ R.seals.keyJobs = [] ∧
    (runA none).keyJob = none ∧ ({ runA none with keyJob := some keyJ } : Running).keyJob = some keyJ ∧ (runA none).out.status ≠ 13 ∧
    taken R sw (0x40400008 + 0x1000 * 7) = true := by decide

/-! Ports, the dictionary and the pins. -/

def portOn (p : Nat) (s : State) : State := s.setF .P_CTRL_ENABLE 1 p
def udpA : EthContent := .udp 0 srcA true false false false 32 ⟨hdrK 1 100, []⟩
def ethA (c : EthContent) : EthFrame := ⟨true, 64, .broadcast, none, c⟩
theorem test_hyps_LanePortCommands :
    lane0.fb .P_CTRL_ENABLE 0 = true ∧ lane0.portDown 0 = false ∧ udpA ≠ .pause ∧ lane0.laneTakes 0 (ethA udpA) = true ∧
    lane0.isPlp 0 udpA = true ∧ rxFill (lane0.rxQueue 0) + 64 * divUp 64 64 ≤ 262144 ∧
    lane0.laneTakes 0 { ethA udpA with fcsOk := false } = false ∧ lane0.laneTakes 0 (ethA (.arp 0)) = true ∧
    (portOn 0 (R.setF .LP_CFG_IP4EN 1 0)).rxAdmits 0 = true ∧ lane0.fb .LP_CFG_IP4EN 0 = true ∧
    (0 : BitVec 32).toNat = lane0.f .LP_IP4_ADDR 0 ∧ R.fb .P_CTRL_ENABLE 0 = false := by decide

/-- The dictionary is loaded, the host's link is up, and the mailbox has a session of this role. -/
def session (r : Nat) : RoleSess := { role := r, id := 77, edPub := [], mlPub := [] }
def steward (r : Nat) : State :=
  let s := (portOn 8 R).setF .P_STAT_LINK 1 8
  (s.onDict fun d => { d with loaded := true }).onTrust fun t =>
    { t with bootDue := false, roles := t.roles.set .mailbox (session r) }
def ask (op : Byte) (index : BitVec 16) (sub : Byte) (d : Bytes) : Mgmt :=
  { op := op, flags := 1, index := index, sub := sub, rsvZero := true, tag := 1, ofs := 0, len := d.length, data := d }
/-- The hypotheses of `Accepts`, as a test. -/
def accepted (s : State) (i : Inst) (index sub n : Nat) : Bool :=
  s.serves i && (s.storedAnswer i 1).isNone &&
    match s.checkAccess i index sub with
    | .ok e => (e.cls != .l || signedDomain index) && (e.ty.lengthCode n).isNone
    | .error _ => false
def isFine {α : Type} : Except Nat α → Bool
  | .ok _ => true
  | .error _ => false
/-- A write of the host watchdog period (PW_WDCFG), an rw/Installer entry of class P. -/
def wdWrite : Mgmt := ask 2 0x3800 4 [100, 0]
def wdEntry : DEntry := pEnt (.num 2) (.fld .PW_WDCFG_PERIOD 0)
theorem test_hyps_DictionaryReadsAndWrites :
    (steward 2).serves .mailbox = true ∧ (steward 2).storedAnswer .mailbox 1 = none ∧ wdWrite.flags.toNat < 2 ∧
    isFine (checkRead .mailbox 0x1018 1) = true ∧ checkRead .mailbox 0x1018 9 = .error 0x06090011 ∧
    (steward 2).checkAccess .mailbox 0x1018 1 = .error 0x06010002 ∧ accepted (steward 2) .mailbox 0x3800 4 2 = true ∧
    isFine ((steward 2).plainWrite 0x1017 0 (pEnt (.num 2) .held) [1, 0]) = true ∧
    accepted (steward 2) .mailbox 0x1017 0 2 = true ∧ bitOf wdWrite.flags.toNat 0 = true ∧ wdWrite.ofs = 0 ∧
    (steward 2).transferOf (asksOf .mailbox (ask 2 0x1017 0 [1, 0])) .mailbox = none ∧
    isFine ((steward 2).plainWrite 0x3C01 1 (vEnt (.num 8) (.img .TS_CTRL 0)) (zeros 8)) = true ∧
    ((steward 2).onDict fun d => { d with transfers := d.transfers.set .mailbox [⟨0x2A10, 0, [], 1, 0⟩] }).dict.transfers.get []
      .mailbox = ⟨0x2A10, 0, [], 1, 0⟩ :: [] := by decide

/-- Key slot 16 of type 1, owner 1. -/
def keyWord (op : Nat) : Word := BitVec.ofNat 64 (op + 16 * 256 + 1 * 2 ^ 24 + 1 * 2 ^ 32)
def withChange (x : Nat) (armed : Bool) : State :=
  let c : Change := { index := 0x2000, sub := 1, value := [1], efftick := x, serves := asks .mailbox 1 0x4020 0, armed := armed }
  ((steward 3).onDict fun d => { d with changes := [c] }).onPress fun p => { p with devDone := [(.config 0x2000 1 3 x 77 0 1 [1], asks .mailbox 1 0x4020 0)] }
/-- A change request for 0x2000:01 (the tick period), value 1, EFFTICK 0, CRSEQ 1; its signatures are zeros. -/
def changeReq : Bytes :=
  ascii "PORTUMCR" ++ [1, 3] ++ leBytes 2 0x2000 ++ [1, 0] ++ leBytes 2 1 ++ leBytes 8 77 ++ leBytes 8 0 ++ leBytes 4 1 ++
    zeros 28 ++ [1] ++ zeros 3373
def commissionedS : State :=
  (sealsOn (steward 3)).onTrust fun t => { t with enrolled := true, commissioned := true }
where sealsOn (s : State) : State := s.setF .SE_CTRL_ENABLE 1 0
theorem test_hyps_DictionaryCommands :
    accepted (steward 2) .mailbox 0x1010 1 4 = true ∧ accepted (steward 2) .mailbox 0x1011 4 4 = true ∧
    isFine ((steward 2).checkValue 0x1010 1 { ty := .num 4, acc := .rw, role := 2, cls := .v, src := .view } (leBytes 4 0x65766173)) = true ∧
    isFine ((steward 2).checkValue 0x1011 4 { ty := .num 4, acc := .rw, role := 2, cls := .v, src := .view } (leBytes 4 0x64616F6C)) = true ∧
    (withChange 9 false).dict.changes.length = 1 ∧ (takeConfig 0x2000 1 (withChange 9 false).press.devDone).isSome = true ∧
    (withChange 9 false).tickNo < 9 ∧ 0 ≤ (withChange 0 false).tickNo ∧
    accepted (steward 2) .mailbox 0x3000 4 1 = true ∧
    isFine ((steward 2).checkValue 0x3000 4 { ty := .num 1, acc := .wo, role := 2, cls := .v, src := .view } [1]) = true ∧
    ((steward 2).setF .FG_UPD_NRANGE (steward 2).dict.ranges).badUpdate = false ∧
    accepted (steward 2) .mailbox 0x2C20 1 8 = true ∧ commissionedS.anyReady = true ∧ (steward 2).seals.entFail = false ∧
    isFine ((steward 2).checkValue 0x2C20 1 { ty := .num 8, acc := .wo, role := 2, cls := .v, src := .held } (leBytes 8 (keyWord 1).toNat)) = true := by
  decide
theorem test_hyps_ChangeRequest :
    accepted commissionedS .mailbox 0x4020 0 changeReq.length = true ∧ commissionedS.roleOf .mailbox = some (session 3) ∧
    changeLength changeReq = none ∧ changeForm changeReq = true ∧ sessionOk (session 3) (fieldAt changeReq 16 8) (fieldAt changeReq 32 4) = true ∧
    isFine (changeEntry (fieldAt changeReq 10 2) (fieldAt changeReq 12 1)) = true ∧
    isFine (commissionedS.checkValue 0x2000 1 { ty := .num 1, acc := .rw, role := 3, cls := .l, src := .fld .TU_CTRL_PERIOD 0 } [1]) = true ∧
    commissionedS.tooSoon (fieldAt changeReq 24 8) = false := by decide

def canOn : State := portOn 10 ((steward 1).setF .P_CTRL_ENABLE 0 11)
theorem test_hyps_CanPortCommands :
    canOn.heartbeatOff = false ∧ (canOn.onDict fun d => { d with vals := d.vals.set (0x1017, 0) [0, 0] }).heartbeatOff = true ∧
    canOn.dict.loaded = true ∧ canOn.fieldUp 10 = true ∧ canOn.fieldUp 11 = false ∧ canOn.fb .P_CTRL_ENABLE 8 = true ∧
    canOn.mailOut.length < 16 ∧ (0 : Nat) ∉ canOn.ports.canStopped ∧
    (canOn.onDict fun d => { d with vals := d.vals.set (0x1801, 1) (leBytes 4 0x280) }).tpdoOn 1 = true ∧
    canOn.inStandby = false ∧ canOn.canHeld 0 = [] ∧ canOn.admits (portMeter 10) = true ∧ canOn.isLimited 10 = false ∧
    canOn.ports.vex = true ∧ (canOn.setF .P_STAT_FAULT 1 10).fb .P_STAT_FAULT 10 = true := by decide
/-- Where the signatures verify, the change is taken: only the signatures are open (log entry 6). -/
theorem test_takeChange
    (h : commissionedS.verify2 [] [] (changeReq.take 65) (sliceAt changeReq 65 64) (sliceAt changeReq 129 3309)
      (ascii "JV7128-CR") = .ok ()) :
    isFine (commissionedS.takeChange .mailbox (session 3) changeReq (asks .mailbox 1 0x4020 0)) = true := by
  have e : changeEntry (fieldAt changeReq 10 2) (fieldAt changeReq 12 1) =
      .ok { ty := .num 1, acc := .rw, role := 3, cls := .l, src := .fld .TU_CTRL_PERIOD 0 } := rfl
  have c : commissionedS.checkValue (fieldAt changeReq 10 2) (fieldAt changeReq 12 1)
      { ty := .num 1, acc := .rw, role := 3, cls := .l, src := .fld .TU_CTRL_PERIOD 0 }
      (sliceAt changeReq 64 (fieldAt changeReq 14 2)) = .ok () := by rfl
  have l : changeLength changeReq = none := by decide
  have f : changeForm changeReq = true := by decide
  have g : sessionOk (session 3) (fieldAt changeReq 16 8) (fieldAt changeReq 32 4) = true := by decide
  have n : fieldAt changeReq 14 2 = 1 := by decide
  have o : commissionedS.tooSoon (fieldAt changeReq 24 8) = false := by decide
  have q : (commissionedS.dropChange 0x2000 1).fb .PR_STAT_SEALED = false ∧
      (commissionedS.dropChange 0x2000 1).fb .PR_STAT_LFAULT = false ∧
      (commissionedS.dropChange 0x2000 1).press.tampering = false ∧
      (commissionedS.dropChange 0x2000 1).press.devQ = [] := by decide
  have x : fieldAt changeReq 10 2 = 0x2000 := by decide
  have y : fieldAt changeReq 12 1 = 1 := by decide
  have r : stewardRecords = 16 := rfl
  rw [x, y] at e c
  rw [n] at c
  unfold State.takeChange
  simp only [l, f, g, x, y, n, e, c, o]
  simp [session, h, State.submitDev, q, r, isFine, devicePlaces]

def hostMsg (m : Option (Nat × Mgmt)) (b : Bool) : State :=
  let s := steward 2
  { s with ports := { s.ports with mailbox := { s.ports.mailbox with inMsg := m, busy := b } } }
def hostOut : State := { steward 2 with mailOut := [mgmtBytes 0x91 0 0 0 0 0 0 [5]] }
/-- The host may read the Ledger window. -/
def hostDma : State := (steward 2).setF .FG_LRALLOW_ALLOW (2 ^ 56) 20
/-- The Host Port's meter is exhausted. -/
def spentHost : State :=
  ((({ steward 2 with meters := { (steward 2).meters with period := some 500 } } : State).setF .ENG_ALLOW_ALLOW 1 18).setF .AM_CTRL_ENABLE 1).charge (portMeter 8) 1
def driveUp : State := { R with ports := { R.ports with archiveLink := true } }
theorem test_hyps_HostAndArchiveRequests :
    (steward 2).hostUp = true ∧ (steward 2).admits (portMeter 8) = true ∧ (steward 2).ports.mailbox.busy = false ∧
    (hostMsg none true).ports.mailbox.busy = true ∧ (hostMsg (some (32, ask 1 0x1018 1 [])) true).ports.mailbox.inMsg = some (32, ask 1 0x1018 1 []) ∧
    (ask 1 0x1018 1 []).op = 1 ∧ hostOut.mailOut = mgmtBytes 0x91 0 0 0 0 0 0 [5] :: [] ∧ hostOut.ports.mailbox.valid = false ∧
    (portOn 8 R).portDown 8 = false ∧ (portOn 8 R).fb .P_STAT_LINK 8 = false ∧
    hostDma.admits (dmaMeter 8) = true ∧ hostDma.verdict hostAgent false (0x30000000 + 0x1000) 8 = .allow ∧
    (steward 2).ports.hostHeld = [] ∧ spentHost.hostUp = true ∧ spentHost.admits (portMeter 8) = false ∧
    (heldAll hostDma).verdict hostAgent false (0x30000000 + 0x1000) 8 = .hold ∧ driveUp.archiveVerdict 0 1 = .allow ∧
    ((numsFrom 0x30000000 1).all (driveUp.driveMay true)) = false ∧
    driveUp.ports.archiveLink = true ∧ ((numsFrom 0 0).all (driveUp.driveMay true)) = true := by decide

def loopOn (x : LoopS) : State :=
  let s := ((portOn 12 R).setF .SL_CFG_POLLMAP 7 12).setF .SL_CFG_RXQ 20 12
  { s with ports := { s.ports with loops := s.ports.loops.set 0 x } }
def pollX (tries : Nat) : Exchange := { addr := 2, trigger := none, seq := 0, tries := tries }
def loopData : Bytes := let h := loopHead (128 + 2) 2 5 [9]; h ++ leBytes 2 (crc16 h)
theorem test_hyps_SensorLoopCommands :
    (loopOn { polls := [2, 9] }).fieldUp 12 = true ∧ (loopOn { polls := [2, 9] }).loop 0 = { polls := [2, 9] } ∧
    [2, 9].filter ((loopOn { polls := [2, 9] }).pollMap 0).contains = 2 :: [] ∧ loopFrameOk [1] = false ∧
    loopFrameOk loopData = true ∧ ((loopOn { exch := some (pollX 0) }).loop 0).exch = some (pollX 0) ∧
    fieldAt loopData 0 1 = 128 + (pollX 0).addr ∧ fieldAt loopData 1 1 = 2 ∧
    ((loopOn { exch := some (pollX 0) }).loop 0).last.find 2 ≠ some (fieldAt loopData 2 1) ∧
    (loopOn {}).f .SL_CFG_RXQ 12 < 1000 ∧ 0 < (loopOn {}).freePlaces 20 ∧ (loopOn {}).admits (portMeter 12) = true ∧
    ({ exch := some (pollX 1) } : LoopS).answered (pollX 1) = false ∧ (pollX 1).tries < 2 ∧ 2 ≤ (pollX 2).tries ∧
    admits (openAll R) other 0x40A02018 = true ∧ ({ triggers := [(1, []), (1, []), (1, []), (1, [])] } : LoopS).triggers.length = 4 := by
  decide
theorem test_hyps_PinCommands :
    R.isLimited 10 = false ∧ R.ports.vex = true ∧ bitOf (R.f .GP_DIR_OUTEN) 3 = false ∧ bitOf R.ports.gpioIn 3 ≠ true ∧
    bitOf (R.f .PW_WAKE_GPIO) 3 = false ∧ bitOf ((R.setF .GP_DIR_OUTEN 8).f .GP_DIR_OUTEN) 3 = true ∧
    admits (openAll R) other 0x40E00018 = true ∧ admits (openAll R) other 0x40E00020 = true := by decide

/-! Boot, trust, resets, power, test and debug. -/

def bankOn (active : Bool) (tick : Nat) : State :=
  let s := (steward 2).onTrust fun t => { t with delivery := some { serves := asks .mailbox 1 0x4070 0, efftick := tick, active := active } }
  s.onPress fun p => { p with devDone := [(.config 0x4070 0 2 2 77 0 0 [], asks .mailbox 1 0x4070 0)] }
theorem test_hyps_BootAndBankCommands :
    R.trust.bootDue = true ∧ R.pinsHeld = false ∧
    (({ R with trust := { R.trust with bootDue := false } } : State).finishTamper.enableSeals.trialBoot.chooseFirmware).isSome = true ∧
    (steward 2).trust.bootDue = false ∧ accepted (steward 2) .mailbox 0x4070 0 192 = true ∧
    (steward 2).roleOf .mailbox = some (session 2) ∧ (bankOn false 2).trust.delivery.isSome = true ∧
    (takeBankRecord (bankOn false 2).press.devDone).isSome = true ∧ 0 ≤ (bankOn true 0).tickNo ∧
    taken R sw 0x40D00008 = true ∧ (R.setF .TT_BOOT_TRIAL 1).f .TT_BOOT_TRIAL ≠ 0 ∧
    ((R.setF .TT_BOOT_TRIAL 1).setF .TT_BOOT_TRIED 1).f .TT_BOOT_TRIED ≠ 0 := by decide
/-- The response of a Portunal: VERSION and the reserved bytes are as R402 has them, and the rest is zeros. -/
def respB : Bytes := 4 :: zeros 8801
theorem test_hyps_ResponseLength : respB.length = 8 + 5421 + 3373 := by
  unfold respB zeros
  rw [List.length_cons, List.length_replicate]
def chal0 : Challenge := ⟨zeros 32, 5, 0, 0⟩
def asked : State := (steward 1).onTrust fun t => { t with chals := t.chals.set .mailbox chal0 }
theorem test_hyps_ResponseChecks :
    asked.lifecycle = 1 ∧ accepted asked .mailbox 0x4002 0 8802 = true ∧
    (steward 1).trust.chals.find .mailbox = none ∧ asked.trust.chals.find .mailbox = some chal0 ∧
    asked.ns ≤ chal0.since + 60000000000 ∧ chal0.since + 60000000000 < ({ asked with ns := 60000000001 } : State).ns ∧
    roleAdmitted asked.lifecycle 4 = true ∧ roleAdmitted asked.lifecycle 1 = false := by decide
theorem test_hyps_ResponseFields : fieldAt respB 0 1 = 4 ∧ fieldAt respB 1 7 = 0 := by
  decide +kernel
theorem test_hyps_ResponseIssuer : asked.roleIssuer 4 none = .ok (rootEd, rootMl, zeros 16) := by
  unfold State.roleIssuer
  rw [if_pos (by decide)]
theorem test_hyps_RolesAndAttestation :
    (steward 1).serves .mailbox = true ∧ isFine (checkRead .mailbox 0x4001 0) = true ∧ isFine (checkRead .mailbox 0x4060 2) = true ∧
    accepted (steward 1) .mailbox 0x4002 0 6 = true ∧
    ((steward 1).takeResponse .mailbox [1, 0, 0, 0, 0, 0] false matches .error 0x06070013) = true ∧
    accepted (steward 1) .mailbox 0x4003 0 0 = true ∧ accepted (steward 1) .mailbox 0x4060 1 32 = true ∧
    isFine ((steward 1).checkValue 0x4060 1 { ty := .oct 32, acc := .rw, cls := .v, src := .view } (zeros 32)) = true := by decide

/-- The record of an unlock, and a state in which it is being written. -/
def recT : DevRec := .config 0x4030 0 4 0 0 0 0 []
def durable (src : WSrc) : State :=
  (R.onTrust fun t => { t with awaits := [(asks .mailbox 1 0x4010 0, .transition 2 [])] }).onPress fun p =>
    { p with writing := some { wrTask with rec_ := ⟨0, 0, .dev recT⟩, src := src }, devNow := some (recT, asks .mailbox 1 0x4010 0) }
def enrolledS : State := (steward 1).onTrust fun t => { t with enrolled := true }
theorem test_hyps_LifecycleAndTamper :
    accepted (steward 3) .mailbox 0x4010 0 200 = true ∧ (steward 3).roleOf .mailbox = some (session 3) ∧
    (R.onTrust fun t => { t with rotating := some 3 }).generationSigned 3 = true ∧ R.seals.entFail = false ∧
    ((R.setF .PR_STAT_SEALED 1).onTrust fun t => { t with retiring := some (asks .mailbox 1 0x4010 0) }).fb .PR_STAT_SEALED = true ∧
    (durable .devRec).press.writing = some { wrTask with rec_ := ⟨0, 0, .dev recT⟩, src := .devRec } ∧ isAwaited recT = true ∧
    (durable .devRec).press.devNow = some (recT, asks .mailbox 1 0x4010 0) ∧ (durable .devRec).press.devDone = [] ∧
    (durable .devRec).trust.awaits = [(asks .mailbox 1 0x4010 0, .transition 2 [])] ∧ (durable .devRec).ports.hostHeld = [] ∧
    R.trust.retired = false ∧ accepted (steward 4) .mailbox 0x4030 0 3533 = true ∧
    (R.setF .TT_DBG_UNLOCKED 1).fb .TT_DBG_UNLOCKED = true ∧ R.trust.debugUntil ≤ R.tickNo ∧
    bitOf (armedSources enrolledS.lifecycle) 1 = true ∧ enrolledS.fb .TT_TSTAT_LATCH = false ∧
    enrolledS.fb .PR_STAT_SEALED = false ∧ enrolledS.fb .PR_STAT_LFAULT = false ∧ bitOf (armedSources R.lifecycle) 1 = false ∧
    taken R sw 0x40D00030 = true ∧ (R.setF .TT_RINSE_START 1).f .TT_RINSE_START ≠ 0 := by decide
theorem test_hyps_ResetsClearTheDevice :
    ((R.setF .TT_RINSE_DONE 1).onTrust fun t => { t with rinsing := true, retired := true }).fb .TT_RINSE_DONE = true ∧
    taken R sw 0x40B00020 = true ∧ taken R sw 0x40B00040 = true ∧ R.f .PW_STATE_STATE ≠ 4 ∧
    (R.setF .PW_STATE_STATE 4).f .PW_STATE_STATE = 4 ∧ taken R sw 0x40B00030 = true ∧ taken R sw 0x40B00028 = true := by decide
def stage (n : Nat) (s : State) : State := { s with power := { s.power with standbyStage := n } }
theorem test_hyps_PowerStates :
    taken R sw 0x40B00008 = true ∧ R.f .PW_REQ_STANDBY = 0 ∧ R.inStandby = false ∧ (stage 3 R).power.standbyStage = 3 ∧
    (stage 4 ((R.setF .PW_STATE_STATE 4).setF .PW_WAKE_TIMER 1)).fb .PW_WAKE_TIMER = true ∧
    R.f .PW_WAKETMR_TICK ≤ R.tickNo ∧ (stage 4 (R.setF .PW_STATE_STATE 4)).inStandby = true ∧
    (R.setF .PW_TILECFG_DOZEEN 1).fb .PW_TILECFG_DOZEEN = true ∧ R.tileIdle 5 = true ∧ bitOf (R.f .PW_STATE_ASLEEP) 5 = false ∧
    (R.setF .PW_TILECFG_SLEEPEN 1).fb .PW_TILECFG_SLEEPEN = true ∧ bitOf ((R.setF .PW_STATE_DOZING 32).f .PW_STATE_DOZING) 5 = true := by
  decide
def tested (g c : Bool) : State :=
  ((((openAll R).setTest 0 { gen := g, chk := c }).setF .TS_CTRL_LOOP 1 0).setF .TS_STAT_SYNC 1 0).setF .TS_CTRL_PATTERN 1 0
theorem test_hyps_DarnerAndTestCommands :
    (hold5 (.queued (req0 0)) []).bufHolder 0 = some (5, 0, req0 0) ∧ R.inStandby = false ∧
    (pressOn.onPress fun p => { p with slots := p.slots.set 7 (.good ⟨7, 0, .sig 0 0 []⟩) }).press.slots.find (7 % 1048576) =
      some (.good ⟨7, 0, .sig 0 0 []⟩) ∧
    R.mayWriteSlots = false ∧ pressOn.mayWriteSlots = true ∧ (pressOn.pressNext matches .none) = true ∧
    admits (openAll R) other 0x40C00000 = true ∧ R.power.bist = none ∧ (R.setF .HM_CTRL_ENABLE 1).f .HM_CTRL_ENABLE ≠ 0 ∧
    ({ R with power := { R.power with bist := some 3 } } : State).power.bist = some 3 ∧
    admits (openAll R) other (tsAddr 0) = true ∧ patternOk 0 (bitsOf 0x61 0 3) = true ∧ bitOf 0x61 7 = false ∧
    R.f .P_CTRL_ENABLE (linkPort 0) = 0 ∧ (portOn 0 R).f .P_CTRL_ENABLE (linkPort 0) ≠ 0 ∧
    admits (tested true true) other (tsAddr 0) = true ∧ ((tested true true).linkTest 0).gen = true ∧
    ((tested true true).linkTest 0).chk = true ∧ (tested true true).f .TS_CTRL_LOOP 0 = 1 ∧
    (tested true true).fb .TS_STAT_SYNC 0 = true := by decide
def unlocked (scope : Nat) : State :=
  let s := ((openAll R).setF .TT_DBG_UNLOCKED 1).setF .TT_DBG_SCOPE scope
  ((s.setF .FG_LRALLOW_ALLOW (2 ^ 64 - 1) 21).setF .FG_LWALLOW_ALLOW (2 ^ 64 - 1) 33)
def extested : State := { R with power := { R.power with jtagIr := 0 } }
theorem test_hyps_JtagAndDebugCommands :
    R.pinsHeld = false ∧ (unlocked 3).verdict debugAgent false 0x40000000 8 = .allow ∧ (unlocked 3).scopeAllows false = true ∧
    targetRefuses 0x40000000 8 false = false ∧ inControl 0x40000000 = true ∧ extested.pinsHeld = true ∧
    R.verdict debugAgent false 0x40000000 8 ≠ .allow ∧ admits (unlocked 3) (.dev 60) 0x40C00080 = true ∧
    (counted (unlocked 3) (.dev 60) 0x40C00080).mayHalt (.dev 60) = true ∧ ((unlocked 3).core 0).halted = false ∧
    ((unlocked 3).core 0).interruptible = true ∧ admits (unlocked 2) (.dev 60) 0x40C00080 = true ∧
    (counted (unlocked 2) (.dev 60) 0x40C00080).mayHalt (.dev 60) = false := by decide

/-! The laws of memory, the ledger's root and the ring. -/

/-- The step from a state answers a next state. -/
def isNext (s : State) : Bool := match step s with
  | .next _ => true
  | _ => false
theorem test_hyps_MemoryStaysCanonical : R.pending = [] ∧ Memory.wf R = true ∧ isNext R = true := by decide
theorem test_hyps_RootIsTheMerkleTreeHash : 2 ≤ [256, 257].length ∧ [256] ≠ ([] : List Nat) := by decide
theorem test_hyps_RingThresholdHasHysteresis :
    (writingS (wr 0 false)).press.writing = some (wr 0 false) ∧ (arch [seg0 0]).press.segs = [seg0 0] ∧
    (seg0 0).drained = false ∧ (seg0 0).reissue = false ∧ (seg0 0).first ≤ (arch [seg0 0]).f .PR_ARCHLSN_ARCHLSN ∧
    (arch [seg0 0]).f .PR_ARCHLSN_ARCHLSN < (seg0 0).first + (seg0 0).count ∧ (seg0 0).first + (seg0 0).count < 2 ^ 64 ∧
    (R.setF .PR_STAT_FULL 1).fb .PR_STAT_FULL = true := by decide

/-! ## Words written out from the encodings of R207, R211 and R213 to R218 -/

/-- What core 0 reads from a word. -/
def word (w : BitVec 32) : Option Instr := decodeWord 0 w 0 none
theorem test_word_op : word 0x004A1100 = some (.add 0 ⟨0, false⟩ 5 1 2) := by decide
theorem test_word_guard : word 0x704A1100 = some (.add 0 ⟨3, true⟩ 5 1 2) := by decide
theorem test_word_cmp : word 0x020A1908 = some (.cmp 0 ⟨0, false⟩ .lt 1 2 3 4) := by decide
theorem test_word_ld : word 0x040A3FF8 = some (.ld 0 ⟨0, false⟩ 5 1 3 (-8)) := by decide
theorem test_word_cap : word 0x0640CE0B = some (.cgetoff 0 ⟨0, false⟩ 7 3) := by decide
theorem test_word_br : word 0x083FFFFF = some (.br 0 ⟨0, false⟩ (-1)) := by decide
theorem test_word_rep : word 0x0A200000 = some (.repi 0 ⟨⟨0, false⟩, 0⟩ none) := by decide
theorem test_word_blk : word 0x0A940000 = some (.fillb 0 ⟨0, false⟩ 2 none) := by decide
theorem test_word_sys : word 0x0B0C0005 = some (.nib 0 ⟨0, false⟩ 5) := by decide
theorem test_word_ctl : word 0x0B404021 = some (.mfc 0 ⟨0, false⟩ 2 33) := by decide
theorem test_word_vvs : word 0x0C8A1C00 = some (.vadd 0 ⟨0, false⟩ 1 2 (.scal 3) 2) := by decide
/-- R210: MAJOR 0, an unassigned FUNC of OP, a reserved bit of CMP. -/
theorem test_word_undefined : word 0 = none ∧ word 0x00400010 = none ∧ word 0x02000001 = none := by decide

/-! ## Results worked out from the rules -/

def got (r : Res) (n : Nat) : Word := match r with
  | .next t => ((t.onCore 0 CoreS.landAll).g 0 n)
  | _ => 0
/-- R226: 2^63 - 1 plus 1 wraps with ARITH 0. -/
theorem test_add_wraps : got (execAdd 0 gOn 5 1 2 (regs 0x7FFFFFFFFFFFFFFF 1 0 0 atT)) 5 = 0x8000000000000000 := by decide
/-- A word of 32 bits is sign-extended. -/
theorem test_addw_extends : got (execAddw 0 gOn 5 1 2 (regs 0x7FFFFFFF 1 0 0 atT)) 5 = 0xFFFFFFFF80000000 := by decide
theorem test_sub_same : got (execSub 0 gOn 1 1 2 (regs 5 7 0 0 atT)) 1 = 0xFFFFFFFFFFFFFFFE := by decide
theorem test_sra_sign : got (execSra 0 gOn 5 1 2 (regs 0x8000000000000000 4 0 0 atT)) 5 = 0xF800000000000000 := by decide
theorem test_mulh : got (execMulh 0 gOn 5 1 2 (regs 0xFFFFFFFFFFFFFFFF 2 0 0 atT)) 5 = 0xFFFFFFFFFFFFFFFF := by decide
theorem test_mulhu : got (execMulhu 0 gOn 5 1 2 (regs 0xFFFFFFFFFFFFFFFF 2 0 0 atT)) 5 = 1 := by decide
/-- Division rounds towards zero: -7 / 2 = -3, remainder -1. -/
theorem test_div : got (execDiv 0 gOn 5 1 2 (regs 0xFFFFFFFFFFFFFFF9 2 0 0 atT)) 5 = 0xFFFFFFFFFFFFFFFD := by decide
theorem test_rem : got (execRem 0 gOn 5 1 2 (regs 0xFFFFFFFFFFFFFFF9 2 0 0 atT)) 5 = 0xFFFFFFFFFFFFFFFF := by decide
theorem test_sextb : got (execSextb 0 gOn 5 1 (regs 0x180 0 0 0 atT)) 5 = 0xFFFFFFFFFFFFFF80 := by decide
theorem test_clz_zero : got (execClz 0 gOn 5 1 (regs 0 0 0 0 atT)) 5 = 64 := by decide
theorem test_g0_reads_zero : got (execAdd 0 gOn 0 1 2 (regs 5 6 0 0 atT)) 0 = 0 := by decide
/-- The CRC of R376 over the nine digits 1 to 9 with start value 0xFFFF is 0x29B1. -/
theorem test_crc16 : crc16 (ascii "123456789") = 0x29B1 := by decide

end Sys2Proof.Tests
end

section
/-! PROOF. The Merkle Tree Hash (R111): how deep the recursion may go does not matter once it covers the leaves, and a
list of two or more leaves splits at the largest power of two below its length. -/

namespace Sys2Proof.Machine

/-- Leaves in the first part of a tree over `n` leaves (R111). -/
def merkleSplit (n : Nat) : Nat := 2 ^ Nat.log2 (n - 1)

theorem merkleSplit_lt {n : Nat} (h : 2 ≤ n) : merkleSplit n < n := by
  have := Nat.log2_self_le (n := n - 1) (by omega)
  unfold merkleSplit; omega

theorem le_two_pow_log2_succ (n : Nat) : n ≤ 2 ^ (Nat.log2 (n - 1) + 1) := by
  have := Nat.lt_log2_self (n := n - 1)
  omega

theorem merkleSplit_pos (n : Nat) : 0 < merkleSplit n := Nat.two_pow_pos _

@[simp] theorem merkle_singleton (n : Nat) (d : Bytes) : merkle n [d] = sha512 (0 :: d) := by
  cases n <;> rfl

theorem merkle_succ (n : Nat) {l : List Bytes} (h : 2 ≤ l.length) :
    merkle (n + 1) l = sha512 (1 :: (leBytes 64 (merkle n (l.take (merkleSplit l.length))).toNat ++
      leBytes 64 (merkle n (l.drop (merkleSplit l.length))).toNat)) := by
  match l, h with
  | _ :: _ :: _, _ => rfl

/-- A bound on the depth that covers the number of leaves gives the hash that any other such bound gives. -/
theorem merkle_depth {m n : Nat} {l : List Bytes} (hm : l.length ≤ m) (hn : l.length ≤ n) :
    merkle m l = merkle n l := by
  induction m generalizing n l with
  | zero =>
    obtain rfl : l = [] := List.length_eq_zero_iff.1 (by omega)
    cases n <;> rfl
  | succ m ih =>
    match l, n with
    | [], n => cases n <;> rfl
    | [d], n => simp
    | a :: b :: l, n + 1 =>
      have hlt := merkleSplit_lt (n := (a :: b :: l).length) (by simp)
      have hpos := merkleSplit_pos (a :: b :: l).length
      rw [merkle_succ m (by simp), merkle_succ n (by simp), ih (n := n), ih (n := n)]
      all_goals simp only [List.length_take, List.length_drop]; omega

/-- The hash of two or more leaves is that of the roots of the two parts (R111). -/
theorem merkle_node {l : List Bytes} (h : 2 ≤ l.length) :
    merkle l.length l = sha512 (1 ::
      (leBytes 64 (merkle (l.take (merkleSplit l.length)).length (l.take (merkleSplit l.length))).toNat ++
        leBytes 64 (merkle (l.drop (merkleSplit l.length)).length (l.drop (merkleSplit l.length))).toNat)) := by
  obtain ⟨n, hn⟩ : ∃ n, l.length = n + 1 := ⟨l.length - 1, by omega⟩
  have hlt := merkleSplit_lt h
  have hpos := merkleSplit_pos l.length
  rw [hn, merkle_succ n h, ← hn, merkle_depth (m := n) (n := (l.take _).length) _ le_rfl,
    merkle_depth (m := n) (n := (l.drop _).length) _ le_rfl]
  all_goals simp only [List.length_take, List.length_drop]; omega

theorem rootOf_eq_merkle (s : State) (l : List Nat) : s.rootOf l =
    merkle (l.map fun n => s.slotBytes (slotIndex n)).length (l.map fun n => s.slotBytes (slotIndex n)) := rfl

theorem rootOf_singleton (s : State) (n : Nat) : s.rootOf [n] = sha512 (0 :: s.slotBytes (slotIndex n)) :=
  merkle_singleton _ _

theorem rootOf_node (s : State) {l : List Nat} (h : 2 ≤ l.length) :
    s.rootOf l = sha512 (1 :: (leBytes 64 (s.rootOf (l.take (merkleSplit l.length))).toNat ++
      leBytes 64 (s.rootOf (l.drop (merkleSplit l.length))).toNat)) := by
  simp only [rootOf_eq_merkle, List.map_take, List.map_drop]
  rw [merkle_node (by simpa using h), List.length_map]

theorem header_root (s : State) (tick : Nat) {l : List Nat} (recovered isSealed : Bool) (keygen : Nat) (h : l ≠ []) :
    (s.header tick l recovered isSealed keygen).root = s.rootOf l := by
  simp [State.header, h]

end Sys2Proof.Machine

namespace Sys2Proof.Claims

open Sys2Proof.Machine

/-- Settles O57: the model's ROOT unfolds once at the largest power of two below the number of leaves. -/
theorem rootIsTheMerkleTreeHash : Obligations.RootIsTheMerkleTreeHash := by
  unfold Obligations.RootIsTheMerkleTreeHash
  intro s l
  refine ⟨rootOf_singleton s, fun h => ⟨Nat.log2 (l.length - 1), ?_, ?_, ?_⟩,
    fun t r f n h => header_root s t r f n h⟩
  · exact merkleSplit_lt h
  · exact le_two_pow_log2_succ l.length
  · exact rootOf_node s h

end Sys2Proof.Claims
end

section
/-! PROOF. The view of the ring that its occupancy and the threshold's condition are read from (R116, R117), with what
waits on the Steward and on the host. One equation for each operation says what becomes of the view; nearly all leave it
alone. -/

namespace Sys2Proof.Machine

/-- What the ring's occupancy and its threshold are read from, and what waits on a write's end. -/
structure RingView where
  next : Nat
  arch : Nat
  full : Bool
  awaits : List (Serves × AfterRec)
  held : List (HostReq × Bool)

/-- The view in a state. -/
def State.ring (s : State) : RingView :=
  ⟨s.f .PR_NEXTLSN_NEXTLSN, s.f .PR_ARCHLSN_ARCHLSN, s.fb .PR_STAT_FULL, s.trust.awaits, s.ports.hostHeld⟩

/-- A register of the view. -/
def isRingFld (x : Fld) : Bool := x = .PR_NEXTLSN_NEXTLSN || x = .PR_ARCHLSN_ARCHLSN || x = .PR_STAT_FULL

theorem occupancy_eq_ring (s : State) : s.occupancy = s.ring.next - s.ring.arch := rfl

/-! ## State updates -/

theorem ring_setF (s : State) {x : Fld} (v i : Nat) (h : isRingFld x = false) : (s.setF x v i).ring = s.ring := by
  simp only [isRingFld, Bool.or_eq_false_iff, decide_eq_false_iff_not] at h
  obtain ⟨⟨hn, ha⟩, hf⟩ := h
  simp [State.ring, State.fb, f_setF, Ne.symm hn, Ne.symm ha, Ne.symm hf]

theorem ring_bump (s : State) {x : Fld} (n i : Nat) (h : isRingFld x = false) : (s.bump x n i).ring = s.ring :=
  ring_setF s _ i h

@[simp] theorem ring_emit (s : State) (o : Out) : (s.emit o).ring = s.ring := rfl
theorem ring_onTrust (s : State) (g : TrustS → TrustS) :
    (s.onTrust g).ring = { s.ring with awaits := (g s.trust).awaits } := rfl
theorem ring_onPorts (s : State) (g : PortsS → PortsS) :
    (s.onPorts g).ring = { s.ring with held := (g s.ports).hostHeld } := rfl
@[simp] theorem ring_onPress (s : State) (g : PressS → PressS) : (s.onPress g).ring = s.ring := rfl
@[simp] theorem ring_setQueue (s : State) (q : Nat) (x : Queue) : (s.setQueue q x).ring = s.ring := rfl
@[simp] theorem ring_addEntry (s : State) (q : Nat) (e : QEnt) : (s.addEntry q e).ring = s.ring := rfl
@[simp] theorem ring_charge (s : State) (m : Meter) (n : Nat) : (s.charge m n).ring = s.ring := rfl
@[simp] theorem ring_noteHeld (s : State) (m : Meter) : (s.noteHeld m).ring = s.ring := rfl
@[simp] theorem ring_setLink (s : State) (p : Nat) (l : Link) : (s.setLink p l).ring = s.ring := rfl
@[simp] theorem ring_setSession (s : State) (n : Nat) (x : Session) : (s.setSession n x).ring = s.ring := rfl
@[simp] theorem ring_holdSession (s : State) (n : Nat) : (s.holdSession n).ring = s.ring := by
  unfold State.holdSession; split <;> rfl
@[simp] theorem ring_unholdSession (s : State) (n : Nat) : (s.unholdSession n).ring = s.ring := rfl
@[simp] theorem ring_freeReq (s : State) (r : Req) : (s.freeReq r).ring = s.ring := rfl
@[simp] theorem ring_postHandover (s : State) (h : Hdr) (c n : Nat) : (s.postHandover h c n).ring = s.ring := rfl
@[simp] theorem ring_dropSigJobs (s : State) : s.dropSigJobs.ring = s.ring := rfl

/-- Operations that each leave the view alone, one after the other. -/
theorem ring_foldl {A : Type} (f : State → A → State) (h : ∀ s x, (f s x).ring = s.ring) (l : List A)
    (s : State) : (l.foldl f s).ring = s.ring := by
  induction l generalizing s with
  | nil => rfl
  | cons x l ih => rw [List.foldl_cons, ih, h]

/-! ## What the device sends -/

@[simp] theorem ring_sendPlp (s : State) (port p : Nat) (f : Frame) : (s.sendPlp port p f).ring = s.ring :=
  ring_bump _ 1 port rfl

@[simp] theorem ring_transmit (s : State) (p port : Nat) (f : Frame) : (s.transmit p port f).ring = s.ring := by
  unfold State.transmit
  dsimp only
  split_ifs <;> simp

@[simp] theorem ring_holdOut (s : State) (p port : Nat) (f : Frame) : (s.holdOut p port f).ring = s.ring := rfl

@[simp] theorem ring_sendSeq (s : State) (p : Nat) (f : Frame) : (s.sendSeq p f).ring = s.ring := by
  unfold State.sendSeq
  dsimp only
  split
  · rfl
  · split_ifs <;> simp

@[simp] theorem ring_mailNote (s : State) (m : Bytes) : (s.mailNote m).ring = s.ring := by
  unfold State.mailNote
  split
  · exact ring_bump s 1 0 rfl
  · rfl

@[simp] theorem ring_sendEmcy (s : State) (code detail : Nat) : (s.sendEmcy code detail).ring = s.ring := by
  unfold State.sendEmcy
  dsimp only
  rw [ring_foldl _ (fun _ _ => ring_sendSeq _ _ _), ring_mailNote]
  split_ifs <;> rfl

@[simp] theorem ring_emcy (s : State) (code detail : Nat) : (s.emcy code detail).ring = s.ring :=
  ring_sendEmcy _ code detail

@[simp] theorem ring_emcyEnd (s : State) (code : Nat) : (s.emcyEnd code).ring = s.ring := by
  unfold State.emcyEnd
  split
  · dsimp only
    split
    · exact ring_sendEmcy _ 0 0
    · rfl
  · rfl

@[simp] theorem ring_answer (s : State) (v : Serves) (op flags ofs : Nat) (abort : Option Nat) (data : Bytes) :
    (s.answer v op flags ofs abort data).ring = s.ring := by
  unfold State.answer
  split
  · rfl
  · split <;> rfl
  · split <;> rfl
  · dsimp only
    split
    · exact ring_sendSeq _ _ _
    · rfl

@[simp] theorem ring_abortWrite (s : State) (v : Serves) (code : Nat) : (s.abortWrite v code).ring = s.ring :=
  ring_answer s v _ _ _ _ _

/-! ## The Hamper -/

theorem replyCounter_isRingFld {code : Nat} {c : Fld} (h : replyCounter code = some c) : isRingFld c = false := by
  unfold replyCounter at h
  split at h <;> cases h <;> rfl

@[simp] theorem ring_reply (s : State) (peer : Nat) (h : Hdr) (code lsn outcome : Nat) :
    (s.reply peer h code lsn outcome).ring = s.ring := by
  unfold State.reply
  rw [ring_sendSeq]
  split
  · exact ring_bump s 1 0 (replyCounter_isRingFld ‹_›)
  · rfl

@[simp] theorem ring_status (s : State) (peer : Nat) (h : Hdr) (code epoch reqid : Nat) :
    (s.status peer h code epoch reqid).ring = s.ring := ring_sendSeq _ _ _

@[simp] theorem ring_statusBusy (s : State) (peer : Nat) (h : Hdr) : (s.statusBusy peer h).ring = s.ring := by
  unfold State.statusBusy
  dsimp only
  split <;> exact ring_status _ _ _ _ _ _

@[simp] theorem ring_withdraw (s : State) (n : Nat) : (s.withdraw n).ring = s.ring := by
  unfold State.withdraw
  dsimp only
  split
  · exact ring_statusBusy _ _ _
  · rfl
  · rfl

@[simp] theorem ring_withdrawAll (s : State) : s.withdrawAll.ring = s.ring := ring_foldl _ ring_withdraw _ s

@[simp] theorem ring_tryDispatch (s : State) (n : Nat) : (s.tryDispatch n).ring = s.ring := by
  unfold State.tryDispatch
  dsimp only
  split
  · split_ifs <;> simp
  · rfl

@[simp] theorem ring_onDurable (s : State) (n outcome lsn : Nat) : (s.onDurable n outcome lsn).ring = s.ring := by
  unfold State.onDurable
  dsimp only
  split
  · simp
  · rw [ring_tryDispatch, ring_setSession, ring_unholdSession]
    split
    · rw [ring_freeReq]
      split_ifs <;> simp
    · rfl

@[simp] theorem ring_tellHamper (s : State) (b : Body) (lsn : Nat) : (s.tellHamper b lsn).ring = s.ring := by
  unfold State.tellHamper
  split
  · rfl
  · dsimp only
    split_ifs <;> simp

/-! ## The Press -/

@[simp] theorem ring_postDev (s : State) (v : Serves) (code lsn : Nat) : (s.postDev v code lsn).ring = s.ring := by
  unfold State.postDev
  split <;> rfl

@[simp] theorem ring_failDev (s : State) (l : List (DevRec × Serves)) : (s.failDev l).ring = s.ring :=
  ring_foldl _ (fun _ _ => ring_abortWrite _ _ _) l s

@[simp] theorem ring_refuseHandover (s : State) (h : Hdr) (code : Nat) : (s.refuseHandover h code).ring = s.ring :=
  ring_bump _ 1 0 rfl

@[simp] theorem ring_refuseAll (s : State) : s.refuseAll.ring = s.ring := by
  unfold State.refuseAll
  split
  · rw [ring_failDev, ring_onPress, ring_foldl _ (fun _ _ => ring_postDev _ _ _ _),
      ring_foldl _ (fun _ _ => ring_refuseHandover _ _ _), ring_setQueue]
  · rfl

@[simp] theorem ring_sealLedger (s : State) : s.sealLedger.ring = s.ring := by
  unfold State.sealLedger
  rw [ring_refuseAll, ring_emcy, ring_dropSigJobs, ring_onPress, ring_withdrawAll]
  exact ring_setF s 1 0 rfl

@[simp] theorem ring_noteSigned (s : State) (lsn : Nat) : (s.noteSigned lsn).ring = s.ring := by
  unfold State.noteSigned
  split
  · exact ring_setF s lsn 0 rfl
  · rfl

@[simp] theorem ring_noteSigPart (s : State) (block part : Nat) : (s.noteSigPart block part).ring = s.ring := by
  unfold State.noteSigPart
  dsimp only
  split_ifs <;> simp

@[simp] theorem ring_closeHeader_unsigned (s : State) (h : BlockHdr) : (s.closeHeader h false).ring = s.ring := rfl

@[simp] theorem ring_sealHeader (s : State) : s.sealHeader.ring = s.ring := ring_closeHeader_unsigned s _

@[simp] theorem ring_durableEffect (s : State) (r : Rec) (src : WSrc) : (s.durableEffect r src).ring = s.ring := by
  have hdev : (s.bump .PR_CNTREC_DEVREC).ring = s.ring := ring_bump s 1 0 rfl
  have htask : (s.bump .PR_CNTREC_TASKREC).ring = s.ring := ring_bump s 1 0 rfl
  have hblk : (s.setF .PR_LASTBLK_LASTBLK r.lsn).ring = s.ring := ring_setF s r.lsn 0 rfl
  unfold State.durableEffect
  split
  case h_1 => simp [htask]
  case h_2 => simp [hdev]
  case h_3 => rw [ring_onPress, ring_foldl _ (fun _ _ => ring_postDev _ _ _ _), hdev]
  case h_4 => dsimp only; split_ifs <;> simp [hblk]
  case h_5 => simp [hdev]
  case h_6 => simp [hdev]
  case h_7 => dsimp only; split_ifs <;> simp [hdev]
  case h_8 => exact hdev

@[simp] theorem ring_refuseBad (s : State) (l : List (DevRec × Serves)) : (s.refuseBad l).ring = s.ring := by
  induction l generalizing s with
  | nil => rfl
  | cons x l ih =>
    unfold State.refuseBad
    split
    · rfl
    · rw [ih, ring_bump _ 1 0 rfl, ring_postDev, ring_onPress]

@[simp] theorem ring_startRecovery (s : State) : s.startRecovery.ring = s.ring := by
  unfold State.startRecovery
  split <;> rfl

@[simp] theorem ring_startHeader (s : State) : s.startHeader.ring = s.ring := by
  unfold State.startHeader
  split <;> rfl

@[simp] theorem ring_startDev (s : State) : s.startDev.ring = s.ring := by
  unfold State.startDev
  split <;> rfl

@[simp] theorem ring_startRepair (s : State) : s.startRepair.ring = s.ring := by
  unfold State.startRepair
  split
  · split <;> rfl
  · rfl

@[simp] theorem ring_pressPump (s : State) : s.pressPump.ring = s.ring := by
  have hbad : (if s.channelFree then s.refuseBad s.press.devQ else s).ring = s.ring := by
    split <;> simp
  unfold State.pressPump
  dsimp only
  split <;> simp [hbad]

@[simp] theorem ring_archiveResume (s : State) : s.archiveResume.ring = s.ring := by
  unfold State.archiveResume
  rw [ring_emcyEnd, ring_onPress, ring_setF _ 0 9 rfl, ring_setF _ 0 0 rfl]

/-! ## The Steward and the host -/

/-- A durable record that nothing waits for leaves the Steward nothing to do. -/
theorem actOn_of_no_awaits {s : State} (h : s.trust.awaits = []) (x : DevRec × Serves) : s.actOn x = s := by
  simp [State.actOn, h, takeFirst]

theorem foldl_actOn_of_no_awaits {s : State} (h : s.trust.awaits = []) (l : List (DevRec × Serves)) :
    l.foldl State.actOn s = s := by
  induction l with
  | nil => rfl
  | cons x l ih => rw [List.foldl_cons, actOn_of_no_awaits h, ih]

theorem ring_stewardActs {s : State} (h : s.ring.awaits = []) : s.stewardActs.ring = s.ring := by
  have h' : s.trust.awaits = [] := h
  unfold State.stewardActs
  dsimp only
  rw [foldl_actOn_of_no_awaits (by simpa using h'), ring_onTrust, ring_onPress]
  simp [State.ring, h']

@[simp] theorem ring_enableService (s : State) : s.enableService.ring = s.ring := by
  have hp : (s.setF .PR_CTRL_ENABLE 1).ring = s.ring := ring_setF s 1 0 rfl
  have hh (t : State) : (t.setF .HM_CTRL_ENABLE 1).ring = t.ring := ring_setF t 1 0 rfl
  unfold State.enableService
  dsimp only
  split_ifs
  · exact (hh _).trans hp
  · exact hp
  · exact hh s
  · rfl

/-- With no request of the host held, serving the host changes nothing of the view. -/
theorem ring_serveHost {s : State} (h : s.ring.held = []) : s.serveHost.ring = s.ring := by
  have h' : s.ports.hostHeld = [] := h
  unfold State.serveHost
  split
  · rw [h', State.pumpHost, State.setHost, ring_onPorts, ← h]
  · rfl

end Sys2Proof.Machine
end

section
/-! PROOF. The occupancy threshold's hysteresis (R117). -/

namespace Sys2Proof.Machine

/-- PR_STAT.FULL once the occupancy is `o`: set from 943,719 slots on, and kept until 891,289 slots or fewer (R117). -/
def RingView.fullAt (v : RingView) (o : Nat) : Bool :=
  if v.full then decide (891289 < o) else decide (943719 ≤ o)

/-- The view once the occupancy has been noted. -/
def RingView.noted (v : RingView) : RingView := { v with full := v.fullAt (v.next - v.arch) }

theorem ring_setF_full (s : State) (v : Nat) :
    (s.setF .PR_STAT_FULL v).ring = { s.ring with full := v % 2 ^ Fld.PR_STAT_FULL.width != 0 } := by
  simp [State.ring, State.fb, f_setF]

theorem ring_setF_next (s : State) (n : Nat) :
    (s.setF .PR_NEXTLSN_NEXTLSN n).ring = { s.ring with next := n % 2 ^ 64 } := by
  have hwidth : Fld.PR_NEXTLSN_NEXTLSN.width = 64 := rfl
  simp [State.ring, State.fb, f_setF, hwidth]

theorem ring_setF_arch (s : State) (n : Nat) :
    (s.setF .PR_ARCHLSN_ARCHLSN n).ring = { s.ring with arch := n % 2 ^ 64 } := by
  have hwidth : Fld.PR_ARCHLSN_ARCHLSN.width = 64 := rfl
  simp [State.ring, State.fb, f_setF, hwidth]

/-- The occupancy's own registers are written first; then FULL moves by what it reads (R117). -/
theorem noteOcc_eq (s : State) : ∃ u : State, u.ring = s.ring ∧ s.noteOcc =
    if u.fb .PR_STAT_FULL then
      if s.occupancy ≤ 891289 then (u.setF .PR_STAT_FULL 0).emcyEnd 0xFF09 else u
    else if 943719 ≤ s.occupancy then (u.setF .PR_STAT_FULL 1).emcy 0xFF09 s.occupancy
    else u :=
  ⟨_, by rw [ring_setF _ _ 0 rfl, ring_setF _ _ 0 rfl, ring_setF _ _ 0 rfl], rfl⟩

/-- Noting the occupancy sets FULL by the threshold, and nothing else of the view (R117). -/
theorem ring_noteOcc (s : State) : s.noteOcc.ring = s.ring.noted := by
  obtain ⟨u, hu, hs⟩ := noteOcc_eq s
  rw [hs, RingView.noted, ← occupancy_eq_ring, ← hu, RingView.fullAt]
  by_cases hf : u.fb .PR_STAT_FULL = true
  · have hv : u.ring.full = true := hf
    rw [if_pos hf, if_pos hv]
    by_cases ho : s.occupancy ≤ 891289
    · rw [if_pos ho, decide_eq_false (by omega), ring_emcyEnd, ring_setF_full]
      rfl
    · rw [if_neg ho, decide_eq_true (by omega), ← hv]
  · have hv : u.ring.full = false := Bool.eq_false_iff.2 hf
    rw [if_neg hf, if_neg (Bool.eq_false_iff.1 hv)]
    by_cases ho : 943719 ≤ s.occupancy
    · rw [if_pos ho, decide_eq_true ho, ring_emcy, ring_setF_full]
      rfl
    · rw [if_neg ho, decide_eq_false ho, ← hv]

/-! ## A record that becomes durable -/

/-- A slot that becomes durable moves PR_NEXTLSN past it, and FULL by the threshold (R92, R117). -/
theorem ring_storeSlot (s : State) (r : Rec) :
    (s.storeSlot r).ring = { s.ring with next := (r.lsn + 1) % 2 ^ 64 : RingView }.noted := by
  unfold State.storeSlot
  rw [ring_noteOcc, ring_setF_next, ring_onPress]

theorem ring_durable (s : State) (r : Rec) {src : WSrc} (h : src ≠ .repair) :
    (s.durable r src).ring = { s.ring with next := (r.lsn + 1) % 2 ^ 64 : RingView }.noted := by
  rw [State.durable, if_neg h, ring_durableEffect, ring_storeSlot, ring_onPress]

theorem exec_writeVerifyDone {s : State} {w : Writing} (h : s.press.writing = some w) :
    exec (.writeVerifyDone true) s =
      .next ((s.durable w.rec_ w.src).pressPump.stewardActs.enableService.serveHost) := by
  have hx : exec (.writeVerifyDone true) s = execWriteVerifyDone true s := rfl
  rw [hx, execWriteVerifyDone, h]
  rfl

/-- With nothing of the Steward or the host waiting, a verified write does to the view what durability does to it. -/
theorem ring_writeVerifyDone {s : State} (r : Rec) {src : WSrc} (h : src ≠ .repair)
    (ha : s.trust.awaits = []) (hh : s.ports.hostHeld = []) :
    (s.durable r src).pressPump.stewardActs.enableService.serveHost.ring =
      { s.ring with next := (r.lsn + 1) % 2 ^ 64 : RingView }.noted := by
  have hpump := (ring_pressPump (s.durable r src)).trans (ring_durable s r h)
  have hacts := (ring_stewardActs (by rw [hpump]; exact ha)).trans hpump
  have hserve := (ring_enableService _).trans hacts
  exact (ring_serveHost (by rw [hserve]; exact hh)).trans hserve

/-! ## A segment that completes -/

/-- The only segment, drained across PR_ARCHLSN, moves it to its end (R123). -/
theorem advanceArch_single {a : Nat} {g : Seg} (hd : g.drained = true) (hlo : g.first ≤ a)
    (hhi : a < g.first + g.count) : advanceArch 1 a [g] = (g.first + g.count, []) := by
  simp [advanceArch, takeFirst, hd, hlo, hhi]

theorem outAt_first {g : Seg} (hd : g.drained = false) (hr : g.reissue = false) : Seg.outAt g.first g = true := by
  simp [Seg.outAt, Seg.outstanding, hd, hr]

theorem exec_segmentComplete {s : State} {g : Seg} {n : Nat} (h : s.press.segs.find? (Seg.outAt n) = some g) :
    exec (.segmentComplete n true) s = .next ((s.bump .AP_CNT_CMDS).drain n) := by
  have hx : exec (.segmentComplete n true) s = execSegmentComplete n true s := rfl
  rw [hx, execSegmentComplete, h]
  rfl

/-- A drained segment moves PR_ARCHLSN as far as the drained ones reach, and FULL by the threshold (R117, R123). -/
theorem ring_drain {s : State} {first a : Nat} {segs l : List Seg}
    (hs : onFirst (Seg.outAt first) (fun g => { g with drained := true }) s.press.segs = segs)
    (ha : advanceArch segs.length (s.f .PR_ARCHLSN_ARCHLSN) segs = (a, l)) :
    (s.drain first).ring = { s.ring with arch := a % 2 ^ 64 : RingView }.noted := by
  unfold State.drain
  dsimp only
  rw [ring_pressPump, hs, ha]
  split
  · rw [ring_archiveResume, ring_noteOcc, ring_bump _ 1 0 rfl, ring_setF_arch, ring_onPress]
  · rw [ring_onPress, ring_noteOcc, ring_bump _ 1 0 rfl, ring_setF_arch, ring_onPress]

theorem ring_drain_single {s : State} {g : Seg} (hs : s.press.segs = [g]) (hd : g.drained = false)
    (hr : g.reissue = false) (hlo : g.first ≤ s.f .PR_ARCHLSN_ARCHLSN)
    (hhi : s.f .PR_ARCHLSN_ARCHLSN < g.first + g.count) :
    (s.drain g.first).ring = { s.ring with arch := (g.first + g.count) % 2 ^ 64 : RingView }.noted :=
  ring_drain (segs := [{ g with drained := true }]) (by rw [hs, onFirst, if_pos (outAt_first hd hr)])
    (advanceArch_single rfl hlo hhi)

/-! ## Reading the view -/

theorem occupancy_of_ring {s : State} {v : RingView} (h : s.ring = v.noted) : s.occupancy = v.next - v.arch := by
  rw [occupancy_eq_ring, h]; rfl

/-- Where the occupancy has just been noted, FULL reads as the threshold says of it (R117). -/
theorem full_of_ring {s : State} {v : RingView} (h : s.ring = v.noted) :
    s.fb .PR_STAT_FULL = v.fullAt s.occupancy := by
  rw [occupancy_of_ring h]
  exact congrArg RingView.full h

theorem arch_of_ring {s : State} {v : RingView} (h : s.ring = v.noted) : s.f .PR_ARCHLSN_ARCHLSN = v.arch :=
  congrArg RingView.arch h

theorem ledgerFull_of_full {s : State} (h : s.fb .PR_STAT_FULL = true) : s.ledgerFull = true := by
  simp [State.ledgerFull, h]

end Sys2Proof.Machine

namespace Sys2Proof.Claims

open Sys2Proof.Machine

/-- Settles O58: the write's end and the segment's completion each move one end of the ring and note the occupancy, and
what they do beside that leaves the ring's view alone. -/
theorem ringThresholdHasHysteresis : Obligations.RingThresholdHasHysteresis := by
  unfold Obligations.RingThresholdHasHysteresis
  intro s w g full
  refine ⟨fun hw hsrc hh ha => ?_, fun hs hd hr hlo hhi hmax => ?_, ledgerFull_of_full⟩
  · have hring := ring_writeVerifyDone w.rec_ hsrc ha hh
    exact ⟨_, exec_writeVerifyDone hw, occupancy_of_ring hring, full_of_ring hring⟩
  · have hfind : s.press.segs.find? (Seg.outAt g.first) = some g := by
      rw [hs, List.find?_cons_of_pos (outAt_first hd hr)]
    have hcmds : (s.bump .AP_CNT_CMDS).f .PR_ARCHLSN_ARCHLSN = s.f .PR_ARCHLSN_ARCHLSN := f_bump_other s 1 (by decide)
    have hring := ring_drain_single (s := s.bump .AP_CNT_CMDS) hs hd hr (hcmds ▸ hlo) (hcmds ▸ hhi)
    rw [ring_bump s 1 0 rfl, Nat.mod_eq_of_lt hmax] at hring
    exact ⟨_, exec_segmentComplete hfind, arch_of_ring hring, full_of_ring hring⟩

end Sys2Proof.Claims
end

section
/-! PROOF. Rules for a word that issues (R226), stated through `Issues`: what its body comes to is what the command
does. -/

namespace Sys2Proof.Claims

open Sys2Proof.Machine

variable {s t u : State} {k : CoreId} {p : Guard} {point : Bool} {i : Instr} {legal : State → Bool} {body : State → Act}

/-- A word that is no point of R288 issues wherever one that is would. -/
theorem Issues.off_point (h : Issues s t k p true) (point : Bool) : Issues s t k p point := by
  obtain ⟨hheld, htrap, hrest⟩ := h
  refine ⟨hheld, ?_, hrest⟩
  cases point with
  | true => exact htrap
  | false => exact trapFirst_false htrap

theorem Issues.does (h : Issues s t k p point) (he : exec i s = .next (s.issue k.val point legal p body))
    (hl : legal t = true) : Does i s (t.settleAct k.val 1 1 (body t)) := by
  obtain ⟨hheld, htrap, hfetch, hguard, hon⟩ := h
  rw [Does, he, issue_runs hheld htrap hfetch hguard hon hl]

theorem Issues.completes (h : Issues s t k p point) (he : exec i s = .next (s.issue k.val point legal p body))
    (hl : legal t = true) (hb : body t = .done u) : Does i s (after k u) := by
  have hdoes := h.does he hl
  rwa [hb, settleAct_done] at hdoes

theorem Issues.jumps (h : Issues s t k p point) (he : exec i s = .next (s.issue k.val point legal p body))
    (hl : legal t = true) (hb : body t = .jump u) : Does i s (afterJump k u) := by
  have hdoes := h.does he hl
  rwa [hb, settleAct_jump] at hdoes

theorem Issues.faults {e : Exc} {r : Nat} (h : Issues s t k p point)
    (he : exec i s = .next (s.issue k.val point legal p body)) (hl : legal t = true) (hb : body t = .fault u e r) :
    Does i s (u.trap k.val e r) := by
  have hdoes := h.does he hl
  rwa [hb, settleAct_fault] at hdoes

/-- A word outside its form raises Illegal Instruction before its guard is looked at (R210). -/
theorem Issues.illegal (h : Issues s t k p point) (he : exec i s = .next (s.issue k.val point legal p body))
    (hl : legal t = false) : Does i s (t.trap k.val ⟨cIllegal, 0, 0⟩ (t.here k.val)) := by
  obtain ⟨hheld, htrap, hfetch, -, -⟩ := h
  rw [Does, he, issue_fetched hheld htrap hfetch, decoded_illegal (by rw [hl, Bool.and_false])]

end Sys2Proof.Claims
end

section
/-! PROOF. What the writes of registers leave of a core: its status words, its pcc and all of its task sets but the
registers' own values (R199, R232, R302, R314). -/

namespace Sys2Proof.Machine

theorem slot_setSlot (c : CoreS) (i j : Nat) (t : TaskSet) : (c.setSlot i t).slot j = if j = i then t else c.slot j :=
  get_set _ _ _ _ _

/-- A task set without the values of its general and capability registers and of ARITH. -/
def TaskSet.bare (t : TaskSet) : TaskSet :=
  { t with g := emptyMap, c := emptyMap, arith := 0, sb := { t.sb with g := emptyMap, c := emptyMap } }

/-- A change of one task set that keeps all but its registers' values keeps it of every task set. -/
theorem bare_setSlot {c : CoreS} {i : Nat} {t : TaskSet} (h : t.bare = (c.slot i).bare) (j : Nat) :
    ((c.setSlot i t).slot j).bare = (c.slot j).bare := by
  rw [slot_setSlot]
  split
  case isTrue hj => rw [hj, h]
  case isFalse => rfl

theorem bare_writeLoc (c : CoreS) (v : Word) (l : GLoc) (j : Nat) : ((c.writeLoc v l).slot j).bare = (c.slot j).bare := by
  cases l with
  | task i n => exact bare_setSlot (by rfl) j
  | win w i => rfl
  | sbank i n => exact bare_setSlot (by rfl) j
  | mbank n => rfl

theorem bare_writeCLoc (c : CoreS) (v : Cap) (l : CLoc) (j : Nat) : ((c.writeCLoc v l).slot j).bare = (c.slot j).bare := by
  cases l with
  | task i n => exact bare_setSlot (by rfl) j
  | sbank i n => exact bare_setSlot (by rfl) j
  | mbank n => rfl

theorem bare_land (c : CoreS) (f : Flight) (j : Nat) : ((c.land f).slot j).bare = (c.slot j).bare := by
  cases f with
  | g l v load age => exact bare_writeLoc c v l j
  | c l v age => exact bare_writeCLoc c v l j
  | vec => rfl

theorem bare_onTask {c : CoreS} {g : TaskSet → TaskSet} (h : ∀ t, (g t).bare = t.bare) (j : Nat) :
    ((c.onTask g).slot j).bare = (c.slot j).bare := by
  unfold CoreS.onTask
  split
  · exact bare_setSlot (h _) j
  · rfl

theorem slot_dropCopies (c : CoreS) (v j : Nat) : (c.dropCopies v).slot j = c.slot j := by
  unfold CoreS.dropCopies
  split <;> rfl

/-- A pending control-register write changes at most ARITH of a task set (R222). -/
theorem bare_putCr (c : CoreS) (w : Nat × Word) (j : Nat) : ((c.putCr w).slot j).bare = (c.slot j).bare := by
  unfold CoreS.putCr
  split
  · rfl
  · exact bare_onTask (by intro t; rfl) j
  · exact congrArg TaskSet.bare (slot_dropCopies c w.2.toNat j)
  · rfl
  · rfl

/-- What each step of a fold over a core keeps, the fold keeps. -/
theorem bare_foldl {A : Type} {f : CoreS → A → CoreS} {j : Nat} (h : ∀ c a, ((f c a).slot j).bare = (c.slot j).bare)
    (l : List A) (c : CoreS) : ((l.foldl f c).slot j).bare = (c.slot j).bare := by
  induction l generalizing c with
  | nil => rfl
  | cons a l ih => rw [List.foldl_cons, ih, h]

theorem bare_settleAll (c : CoreS) (j : Nat) : (c.settleAll.slot j).bare = (c.slot j).bare := by
  have hwrites : (c.landAll.applyWrites.slot j).bare = (c.landAll.slot j).bare :=
    bare_foldl (fun c w => bare_putCr c w j) _ _
  have hlands : (c.landAll.slot j).bare = (c.slot j).bare := bare_foldl (fun c f => bare_land c f j) _ _
  exact hwrites.trans hlands

/-- pcc is read from which task runs, its task set without its registers, and the M bank (R275). -/
theorem pcc_congr {c d : CoreS} (hrun : d.running = c.running) (hidle : d.idleM = c.idleM) (hmb : d.mb.pcc = c.mb.pcc)
    (hslot : ∀ j, (d.slot j).bare = (c.slot j).bare) : d.pcc = c.pcc := by
  have hst : ∀ j, (d.slot j).st = (c.slot j).st := fun j => congrArg (·.st) (hslot j)
  have hpcc : ∀ j, (d.slot j).pcc = (c.slot j).pcc := fun j => congrArg (·.pcc) (hslot j)
  have hsb : ∀ j, (d.slot j).sb.pcc = (c.slot j).sb.pcc := fun j => congrArg (·.sb.pcc) (hslot j)
  have hlevel : d.level = c.level := by simp only [CoreS.level, CoreS.status, hrun, hidle, hst]
  simp only [CoreS.pcc, hlevel, hrun, hmb, hpcc, hsb]

theorem pcc_writeLoc (c : CoreS) (v : Word) (l : GLoc) : (c.writeLoc v l).pcc = c.pcc := by
  cases l <;> exact pcc_congr rfl rfl rfl (bare_writeLoc c v _)

theorem pcc_setG (c : CoreS) (k n : Nat) (v : Word) : (c.setG k n v).pcc = c.pcc := by
  unfold CoreS.setG
  split
  · rfl
  · exact pcc_writeLoc _ v _

theorem pcc_setGLate (c : CoreS) (k n : Nat) (v : Word) (load : Bool) : (c.setGLate k n v load).pcc = c.pcc := by
  unfold CoreS.setGLate CoreS.settleG
  split
  · rfl
  · split
    · exact pcc_writeLoc { c with flights := dropG _ c.flights } _ _
    · rfl

end Sys2Proof.Machine
end

section
/-! PROOF. Additions, products and divisions: their results and the outcomes of their traps (R227-R229, R288). -/

namespace Sys2Proof.Machine

/-! ## Results -/

theorem ofInt_tdiv (a b : Word) : BitVec.ofInt 64 (a.toInt.tdiv b.toInt) = a.sdiv b :=
  BitVec.eq_of_toInt_eq (by rw [BitVec.toInt_ofInt, BitVec.toInt_sdiv])

theorem ofInt_tmod (a b : Word) : BitVec.ofInt 64 (a.toInt.tmod b.toInt) = a.srem b := by
  rw [← BitVec.toInt_srem, BitVec.ofInt_toInt]

theorem mdResult_div (a b : Word) : mdResult .div a b = if b = 0 then BitVec.allOnes 64 else a.sdiv b := by
  rw [mdResult, ofInt_tdiv]

theorem mdResult_divu (a b : Word) : mdResult .divu a b = if b = 0 then BitVec.allOnes 64 else a / b := by
  rw [mdResult, ← BitVec.toNat_udiv, BitVec.ofNat_toNat, BitVec.setWidth_eq]

theorem mdResult_rem (a b : Word) : mdResult .rem a b = if b = 0 then a else a.srem b := by
  rw [mdResult, ofInt_tmod]

theorem mdResult_remu (a b : Word) : mdResult .remu a b = if b = 0 then a else a % b := by
  rw [mdResult, ← BitVec.toNat_umod, BitVec.ofNat_toNat, BitVec.setWidth_eq]

/-! ## Outcomes of a word that may trap -/

/-- Where a result that may trap goes: beside the pipe if it is a long operation's (R302). -/
def State.putResult (s : State) (k gd : Nat) (v : Word) (long : Bool) : State :=
  if long then s.setGLong k gd v else s.setG k gd v

theorem pcc_putResult (s : State) (k gd : Nat) (v : Word) (long : Bool) :
    ((s.putResult k gd v long).core k).pcc = (s.core k).pcc := by
  cases long
  case false => simp [State.putResult, State.setG, pcc_setG]
  case true => simp [State.putResult, State.setGLong, pcc_setGLate]

end Sys2Proof.Machine

namespace Sys2Proof.Claims

open Sys2Proof.Machine

theorem overflows_iff (i : Int) : overflows i = true ↔ outOfRange i := by
  rw [overflows, Bool.or_eq_true, decide_eq_true_iff, decide_eq_true_iff, outOfRange]

section outcomes

variable (t : State) (k : CoreId) (gd : Nat) (v : Word) (long : Bool)

theorem arithWrite_none : t.arithWrite k.val gd v none false long = .done (t.putResult k.val gd v long) := rfl

theorem arithWrite_precise (code : Nat) (h : precise t k) :
    t.arithWrite k.val gd v (some code) false long = .fault (named t k) ⟨code, 0, 0⟩ (t.here k.val) := by
  have hcond : (false || arithPrecise (t.core k.val).arith || (t.core k.val).level != 0) = true := by
    rw [Bool.false_or, Bool.or_eq_true, bne_iff_ne]; exact h
  simp only [State.arithWrite, named, State.here, State.onCore]
  rw [if_pos hcond]

/-- A pending trap names the word that raised it: the result's write leaves pcc alone (R229). -/
theorem arithWrite_imprecise (code : Nat) (h : ¬precise t k) :
    t.arithWrite k.val gd v (some code) false long = .done (pendTrap (t.putResult k.val gd v long) t k code) := by
  have hcond : ¬(false || arithPrecise (t.core k.val).arith || (t.core k.val).level != 0) = true := by
    rw [Bool.false_or, Bool.or_eq_true, bne_iff_ne]; exact h
  simp only [State.arithWrite, pendTrap, State.here, State.onCore]
  rw [if_neg hcond, ← pcc_putResult t k.val gd v long]
  rfl

end outcomes

section words

variable {s t : State} {k : CoreId} {p : Guard} {i : Instr} {w : Scalar}

/-- A word of the REP majors whose body writes a result or traps under a condition (R229). -/
theorem Issues.writesOrTraps {gd : Nat} {v r : Word} {code : Nat} {trap : Option Nat} {cond : Prop} {long : Bool}
    (h : Issues s t k p true) (he : exec i s = .next (s.issueScalar k p w)) (hlegal : scalarLegal w = true)
    (hbody : t.scalar k.val false w = t.arithWrite k.val gd v trap false long) (hv : v = r)
    (hcond : cond → trap = some code) (hnot : ¬cond → trap = none) :
    WritesOrTraps i s t k (t.putResult k.val gd r long) cond code := by
  subst hv
  have hissue := h.off_point (scalarTraps w)
  refine ⟨fun hc => ?_, fun hc hp => ?_, fun hc hp => ?_⟩
  · exact hissue.completes he hlegal (by rw [hbody, hnot hc, arithWrite_none])
  · exact hissue.faults he hlegal (by rw [hbody, hcond hc, arithWrite_precise t k gd v long code hp])
  · exact hissue.completes he hlegal (by rw [hbody, hcond hc, arithWrite_imprecise t k gd v long code hp])

/-- A word whose trap is an overflow's (R229). -/
theorem Issues.writesOrOverflows {gd : Nat} {v : Word} {value : Int} {long : Bool} (h : Issues s t k p true)
    (he : exec i s = .next (s.issueScalar k p w)) (hlegal : scalarLegal w = true)
    (hbody : t.scalar k.val false w = t.arithWrite k.val gd v
      (if arithOve (t.core k.val).arith && overflows value then some cOverflow else none) false long) :
    WritesOrTraps i s t k (t.putResult k.val gd v long)
      (bitOf (t.core k.val).arith 0 = true ∧ outOfRange value) cOverflow := by
  have hiff : (arithOve (t.core k.val).arith && overflows value) = true ↔
      bitOf (t.core k.val).arith 0 = true ∧ outOfRange value := by
    rw [Bool.and_eq_true, overflows_iff, arithOve]
  exact h.writesOrTraps he hlegal hbody rfl (fun hc => if_pos (hiff.mpr hc)) fun hc => if_neg (mt hiff.mp hc)

/-- A word whose trap is that of a division by zero (R228, R229). -/
theorem Issues.writesOrDivZero {gd : Nat} {v r b : Word} (h : Issues s t k p true)
    (he : exec i s = .next (s.issueScalar k p w)) (hlegal : scalarLegal w = true)
    (hbody : t.scalar k.val false w = t.arithWrite k.val gd v
      (if arithDze (t.core k.val).arith && decide (b = 0) then some cDivZero else none) false true) (hv : v = r) :
    WritesOrTraps i s t k (t.setGLong k.val gd r) (bitOf (t.core k.val).arith 1 = true ∧ b = 0) cDivZero := by
  have hiff : (arithDze (t.core k.val).arith && decide (b = 0)) = true ↔
      bitOf (t.core k.val).arith 1 = true ∧ b = 0 := by
    rw [Bool.and_eq_true, decide_eq_true_iff, arithDze]
  exact h.writesOrTraps (long := true) he hlegal hbody hv (fun hc => if_pos (hiff.mpr hc)) fun hc => if_neg (mt hiff.mp hc)

/-- A product's high half never traps (R228). -/
theorem Issues.writesLong {gd : GReg} {v : Word} (h : Issues s t k p true)
    (he : exec i s = .next (s.issueScalar k p w)) (hlegal : scalarLegal w = true)
    (hbody : t.scalar k.val false w = t.arithWrite k.val gd.val v none false true) : WritesLong i s t k gd v :=
  (h.off_point (scalarTraps w)).completes he hlegal (hbody.trans (arithWrite_none t k gd.val v true))

end words

/-- Settles O4: each word's body writes its result or raises one of two traps; a product's high half raises none. -/
theorem arithmeticWordsWriteOrTrap : Obligations.ArithmeticWordsWriteOrTrap := by
  unfold Obligations.ArithmeticWordsWriteOrTrap
  intro k p gd ga gb i12 s t h a b ove dze long
  refine ⟨?add, ?sub, ?addi, ?mul, ?mulh, ?mulhu, ?div, ?divu, ?rem, ?remu⟩
  case add => exact h.writesOrOverflows (long := false) rfl rfl rfl
  case sub => exact h.writesOrOverflows (long := false) rfl rfl rfl
  case addi =>
    have hsum : a.toInt + i12.toInt = a.toInt + (i12.signExtend 64).toInt := by
      rw [BitVec.toInt_signExtend_of_le (by decide)]
    rw [hsum]
    exact h.writesOrOverflows (long := false) rfl rfl rfl
  case mul => exact h.writesOrOverflows (long := true) rfl rfl rfl
  case mulh => exact h.writesLong rfl rfl rfl
  case mulhu => exact h.writesLong rfl rfl rfl
  case div => exact h.writesOrDivZero rfl rfl rfl (mdResult_div a b)
  case divu => exact h.writesOrDivZero rfl rfl rfl (mdResult_divu a b)
  case rem => exact h.writesOrDivZero rfl rfl rfl (mdResult_rem a b)
  case remu => exact h.writesOrDivZero rfl rfl rfl (mdResult_remu a b)

end Sys2Proof.Claims
end

section
/-! PROOF. Branches, calls, returns, INVOKE, the loop words and WAIT (R201-R204, R242-R246). -/

namespace Sys2Proof.Machine

/-! ## WAIT -/

/-- What ends a WAIT has come: an entry for the queue it waits on, or an interrupt pending for the task (R246). -/
theorem mustWait_eq_true_iff (x : TaskSet) : x.mustWait = true ↔
    ¬((x.emptyQ.isSome = true ∧ x.emptyAdded = true) ∨ x.pStart = true ∨ x.pDoor = true ∨ x.pTick = true) := by
  have hpend : x.pendingS.isNone = true ↔ ¬(x.pStart = true ∨ x.pDoor = true ∨ x.pTick = true) := by
    unfold TaskSet.pendingS
    cases x.pStart <;> cases x.pDoor <;> cases x.pTick <;> simp
  rw [TaskSet.mustWait, Bool.and_eq_true, hpend, Bool.not_eq_true', ← Bool.not_eq_true, Bool.and_eq_true, ← not_or]

theorem state_leaveRunning (t : TaskSet) (x : TState) :
    (t.leaveRunning x).state = if t.stopDue then .stopped else x := by
  unfold TaskSet.leaveRunning; split <;> rfl

theorem pcc_leaveRunning (t : TaskSet) (x : TState) : (t.leaveRunning x).pcc = t.pcc := by
  unfold TaskSet.leaveRunning; split <;> rfl

theorem pcc_of_level_zero {c : CoreS} {i : Nat} (hrun : c.running = some i) (hlevel : c.level = 0) :
    c.pcc = (c.slot i).pcc := by simp only [CoreS.pcc, hrun, hlevel]

/-- At T pcc is the running task's own (R275). -/
theorem slot_advance {c : CoreS} {i : Nat} (hrun : c.running = some i) (hlevel : c.level = 0) (n : Nat) :
    (c.advance n).slot i =
      { c.slot i with pcc := (c.slot i).pcc.withOffset ((c.pcc.offset + 4 * n) % 2 ^ 32) } := by
  simp only [CoreS.advance, CoreS.setPcc, CoreS.onTask, hlevel, hrun, slot_setSlot_same, pcc_of_level_zero hrun hlevel]

@[simp] theorem running_tryHalt (c : CoreS) : c.tryHalt.running = c.running := by
  unfold CoreS.tryHalt; split <;> rfl

@[simp] theorem slot_tryHalt (c : CoreS) (j : Nat) : c.tryHalt.slot j = c.slot j := by
  unfold CoreS.tryHalt; split <;> rfl

theorem onTask_idle {c : CoreS} (h : c.running = none) (g : TaskSet → TaskSet) : c.onTask g = c := by
  simp only [CoreS.onTask, h]

/-- A core without a task counts an instruction and changes no task set (R222). -/
theorem retire_idle {c : CoreS} (h : c.running = none) (n : Nat) :
    (c.retire n).running = none ∧ ∀ j, (c.retire n).slot j = c.slot j := by
  unfold CoreS.retire
  simp only
  rw [onTask_idle (by exact h)]
  exact ⟨(running_tryHalt _).trans h, fun j => slot_tryHalt _ j⟩

theorem tryStop_idle {s : State} {k : Nat} (h : (s.core k).running = none) : s.tryStop k = s := by
  simp only [State.tryStop, h]

theorem core_retired_idle {s : State} {k : Nat} (h : (s.core k).running = none) (n : Nat) :
    (s.retired k n).core k = (s.core k).retire n := by
  have hcore : (s.onCore k fun c => c.retire n).core k = (s.core k).retire n := core_onCore_same s k _
  have hrun : ((s.onCore k fun c => c.retire n).core k).running = none := by
    rw [hcore]; exact (retire_idle h n).1
  rw [State.retired, tryStop_idle hrun, hcore]

theorem running_waitHere (s : State) (k i : Nat) : ((s.waitHere k i).core k).running = none := by
  rw [State.waitHere, core_onCore_same]; rfl

/-- A task that waits has given the core up behind the WAIT; a STOP that was due has stopped it (R246, R268, R272). -/
theorem slot_waitHere {s : State} {k i : Nat} (hrun : (s.core k).running = some i) (hlevel : (s.core k).level = 0) :
    let x := (s.core k).slot i
    let y := ((s.waitHere k i).core k).slot i
    y.state = (if x.stopDue then .stopped else .waiting) ∧
      y.pcc = x.pcc.withOffset ((s.here k + 4) % 2 ^ 32) := by
  intro x y
  let c := (s.core k).advance 1
  have hy : y = (c.settleAll.slot i).leaveRunning .waiting := by
    show ((s.waitHere k i).core k).slot i = _
    rw [State.waitHere, core_onCore_same]
    exact slot_setSlot_same _ i _
  have hbare : (c.settleAll.slot i).bare =
      ({ x with pcc := x.pcc.withOffset ((s.here k + 4) % 2 ^ 32) } : TaskSet).bare := by
    rw [bare_settleAll]
    exact congrArg TaskSet.bare (slot_advance hrun hlevel 1)
  have hstop : (c.settleAll.slot i).stopDue = x.stopDue := congrArg (·.stopDue) hbare
  have hpcc : (c.settleAll.slot i).pcc = x.pcc.withOffset ((s.here k + 4) % 2 ^ 32) := congrArg (·.pcc) hbare
  rw [hy, state_leaveRunning, pcc_leaveRunning, hstop, hpcc]
  exact ⟨rfl, rfl⟩

theorem setLc_mod (c : CoreS) (v : Nat) : c.setLc (v % 2 ^ 32) = c.setLc v := by
  simp only [CoreS.setLc, Nat.mod_mod]

end Sys2Proof.Machine

namespace Sys2Proof.Claims

open Sys2Proof.Machine

/-! ## Windows -/

theorem windowCall_of_fits {t : State} {k : CoreId} (h : CallFits t k) (next : State → Act) :
    t.windowCall k.val next = next (called t k) := by
  by_cases hlevel : (t.core k.val).level = 0
  · have hroom : stResw (t.core k.val).status + 1 < windowsOf ((t.core k.val).shape k.val) :=
      h.resolve_left (not_not_intro hlevel)
    simp only [State.windowCall, called, hlevel, bne_self_eq_false, Bool.false_eq_true, if_false, ne_eq,
      not_true_eq_false, if_pos hroom]
    simp only [State.onCore, winCount, windowsOf]
  · simp [State.windowCall, called, hlevel]

theorem windowReturn_of_fits {t : State} {k : CoreId} (h : ReturnFits t k) (next : State → Act) :
    t.windowReturn k.val next = next (returned t k) := by
  by_cases hlevel : (t.core k.val).level = 0
  · have hroom : ¬stResw (t.core k.val).status = 0 := h.resolve_left (not_not_intro hlevel)
    simp only [State.windowReturn, returned, hlevel, bne_self_eq_false, Bool.false_eq_true, if_false, ne_eq,
      not_true_eq_false, if_neg hroom]
    simp only [State.onCore, winCount, windowsOf]
  · simp [State.windowReturn, returned, hlevel]

theorem branchTo_eq_branched (t : State) (k : CoreId) (words : Int) : t.branchTo k.val words = branched t k words := by
  simp only [State.branchTo, branched, ofSigned, Nat.cast_pow, Nat.cast_ofNat]

/-! ## Words -/

section words

variable {s t u : State} {k : CoreId} {p : Guard}

theorem br_does (h : Issues s t k p true) (i22 : BitVec 22) :
    Does (.br k p i22) s (afterJump k (branched t k i22.toInt)) :=
  h.jumps rfl rfl (by rw [branchTo_eq_branched])

theorem call_does (h : Issues s t k p true) (hfits : CallFits t k) (i22 : BitVec 22) :
    Does (.call k p i22) s (afterJump k (branched ((called t k).setC k.val 15 (linkOf t k)) k i22.toInt)) :=
  h.jumps rfl rfl (by simp only; rw [windowCall_of_fits hfits, branchTo_eq_branched]; rfl)

theorem cjmp_does (h : Issues s t k p true) {cs : CReg}
    (hcheck : t.checkTarget k.val cs.val (t.c k.val cs.val) = .ok u ()) :
    Does (.cjmp k p cs false) s (afterJump k (jumped u k (t.c k.val cs.val))) :=
  h.jumps rfl rfl (by simp only; rw [hcheck, act_ok]; rfl)

theorem cjmp_link_does (h : Issues s t k p true) {cs : CReg}
    (hcheck : t.checkTarget k.val cs.val (t.c k.val cs.val) = .ok u ()) (hfits : CallFits u k) :
    Does (.cjmp k p cs true) s
      (afterJump k (jumped ((called u k).setC k.val 15 (linkOf t k)) k (t.c k.val cs.val))) :=
  h.jumps rfl rfl (by simp only; rw [hcheck, act_ok, if_pos trivial, windowCall_of_fits hfits]; rfl)

theorem ret_does (h : Issues s t k p true) (hcheck : t.checkLink k.val (t.c k.val 15) = .ok u ())
    (hfits : ReturnFits u k) :
    Does (.ret k p) s (afterJump k (jumped (returned u k) k ((t.c k.val 15).withSeal 0))) :=
  h.jumps rfl rfl (by simp only; rw [hcheck, act_ok, windowReturn_of_fits hfits]; rfl)

theorem invoke_does (h : Issues s t k p true) {cc cd : CReg}
    (hcheck : t.checkInvoke k.val cc.val cd.val (t.c k.val cc.val) (t.c k.val cd.val) = .ok u ())
    (hfits : CallFits u k) :
    Does (.invoke k p cc cd) s (afterJump k (jumped
      (((called u k).setC k.val 15 (linkOf t k)).setC k.val 0 ((t.c k.val cd.val).withSeal 0)) k
      ((t.c k.val cc.val).withSeal 0))) :=
  h.jumps rfl rfl (by simp only; rw [hcheck, act_ok, windowCall_of_fits hfits]; rfl)

theorem loop_branches (h : Issues s t k p true) (i20 : BitVec 20)
    (hn : ((t.core k.val).getLc + 2 ^ 32 - 1) % 2 ^ 32 ≠ 0) :
    Does (.loop k p i20) s (afterJump k (branched
      (t.onCore k.val fun c => c.setLc (((t.core k.val).getLc + 2 ^ 32 - 1) % 2 ^ 32)) k i20.toInt)) :=
  h.jumps rfl rfl (by simp only; rw [if_neg hn, branchTo_eq_branched])

theorem loop_ends (h : Issues s t k p true) (i20 : BitVec 20)
    (hn : ((t.core k.val).getLc + 2 ^ 32 - 1) % 2 ^ 32 = 0) :
    Does (.loop k p i20) s (after k
      (t.onCore k.val fun c => c.setLc (((t.core k.val).getLc + 2 ^ 32 - 1) % 2 ^ 32))) :=
  h.completes rfl rfl (by simp only; rw [if_pos hn])

theorem setlc_does (h : Issues s t k p true) (ga : GReg) :
    Does (.setlc k p ga) s (after k (t.onCore k.val fun c => c.setLc ((t.g k.val ga.val).toNat % 2 ^ 32))) :=
  (h.off_point false).completes rfl rfl (by simp only [setLc_mod])

theorem wait_completes_above_T (h : Issues s t k p true) (hlevel : (t.core k.val).level ≠ 0) :
    Does (.wait k p) s (after k t) := by
  refine h.completes rfl rfl ?_
  simp only [hlevel, decide_false, Bool.false_and, Bool.false_eq_true, if_false]
  split <;> rfl

theorem wait_completes (h : Issues s t k p true) {i : Nat} (hrun : (t.core k.val).running = some i)
    (hcome : ((t.core k.val).slot i).mustWait = false) : Does (.wait k p) s (after k t) :=
  h.completes rfl rfl (by simp only [hrun, hcome, Bool.and_false, Bool.false_eq_true, if_false])

theorem wait_waits (h : Issues s t k p true) {i : Nat} (hrun : (t.core k.val).running = some i)
    (hlevel : (t.core k.val).level = 0) (hwait : ((t.core k.val).slot i).mustWait = true) :
    Does (.wait k p) s (afterJump k (t.waitHere k.val i)) :=
  h.jumps rfl rfl (by simp only [hrun, hlevel, hwait, decide_true, Bool.and_self, if_true])

/-- What WAIT leaves of the core whose task it makes wait (R246, R268). -/
theorem afterJump_waitHere {i : Nat} (hrun : (t.core k.val).running = some i) (hlevel : (t.core k.val).level = 0) :
    let x := (t.core k.val).slot i
    let u := afterJump k (t.waitHere k.val i)
    (u.core k.val).running = none ∧
      ((u.core k.val).slot i).state = (if x.stopDue then .stopped else .waiting) ∧
      ((u.core k.val).slot i).pcc = x.pcc.withOffset ((t.here k.val + 4) % 2 ^ 32) ∧ u.mem = t.mem := by
  intro x u
  have hidle := running_waitHere t k.val i
  obtain ⟨hrunning, hslots⟩ := retire_idle hidle 1
  have hcore : u.core k.val = ((t.waitHere k.val i).core k.val).retire 1 := core_retired_idle hidle 1
  obtain ⟨hstate, hpcc⟩ := slot_waitHere hrun hlevel
  have hmem : u.mem = t.mem := by
    have hrun' : (((t.waitHere k.val i).onCore k.val fun c => c.retire 1).core k.val).running = none := by
      rw [core_onCore_same]; exact hrunning
    show ((t.waitHere k.val i).retired k.val 1).mem = t.mem
    rw [State.retired, tryStop_idle hrun']
    rfl
  rw [hcore, hslots]
  exact ⟨hrunning, hstate, hpcc, hmem⟩

end words

/-- Settles O14: each transfer's checks lead on to its window operation and its new pcc; a WAIT at T completes where what
it waits for has come, and gives the core up elsewhere. -/
theorem transfersMovePcc : Obligations.TransfersMovePcc := by
  unfold Obligations.TransfersMovePcc
  intro k p cs cc cd ga gd i22 i20 s t h link n dec
  refine ⟨br_does h i22, fun hfits => call_does h hfits i22,
    fun u hcheck => ⟨cjmp_does h hcheck, cjmp_link_does h hcheck⟩, fun u => ret_does h, fun u => invoke_does h,
    loop_branches h i20, loop_ends h i20, setlc_does h ga, (h.off_point false).completes rfl rfl rfl,
    (h.off_point false).completes rfl rfl rfl, wait_completes_above_T h, fun i hrun hlevel => ?_⟩
  intro x come
  have hiff : x.mustWait = true ↔ ¬come := mustWait_eq_true_iff x
  refine ⟨fun hcome => wait_completes h hrun ?_, fun hcome => ?_⟩
  · exact Bool.eq_false_iff.mpr fun hwait => hiff.mp hwait hcome
  · exact ⟨_, wait_waits h hrun hlevel (hiff.mpr hcome), afterJump_waitHere hrun hlevel⟩

end Sys2Proof.Claims
end

section
/-! PROOF. Fields of a number and elements of a vector register: what a write of one leaves of the others (R220, R257). -/

namespace Sys2Proof.Machine

/-! ## A field of a number -/

/-- A number whose field is replaced is a sum of what lies below, in and above the field. -/
theorem stPut_eq (x lo n v : Nat) :
    stPut x lo n v = x % 2 ^ lo + 2 ^ lo * (v % 2 ^ n + 2 ^ n * (x / 2 ^ (lo + n))) := by
  rw [stPut, Nat.shiftRight_eq_div_pow, pow_add]; ring

theorem stPut_div (x lo n v : Nat) : stPut x lo n v / 2 ^ lo = v % 2 ^ n + 2 ^ n * (x / 2 ^ (lo + n)) := by
  rw [stPut_eq, Nat.add_mul_div_left _ _ (Nat.two_pow_pos lo),
    Nat.div_eq_of_lt (Nat.mod_lt x (Nat.two_pow_pos lo)), Nat.zero_add]

theorem stPut_mod (x lo n v : Nat) : stPut x lo n v % 2 ^ lo = x % 2 ^ lo := by
  rw [stPut_eq, Nat.add_mul_mod_self_left, Nat.mod_mod]

theorem stPut_div_above (x lo n v : Nat) : stPut x lo n v / 2 ^ (lo + n) = x / 2 ^ (lo + n) := by
  rw [pow_add, ← Nat.div_div_eq_div_mul, stPut_div, Nat.add_mul_div_left _ _ (Nat.two_pow_pos n),
    Nat.div_eq_of_lt (Nat.mod_lt v (Nat.two_pow_pos n)), Nat.zero_add, pow_add]

theorem bitsOf_stPut_same (x lo n v : Nat) : bitsOf (stPut x lo n v) lo n = v % 2 ^ n := by
  rw [bitsOf, Nat.shiftRight_eq_div_pow, stPut_div, Nat.add_mul_mod_self_left, Nat.mod_mod]

theorem bitsOf_stPut_below {lo a m : Nat} (h : a + m ≤ lo) (x n v : Nat) :
    bitsOf (stPut x lo n v) a m = bitsOf x a m := by
  have hlow (y : Nat) : y / 2 ^ a % 2 ^ m = y % 2 ^ lo % 2 ^ (a + m) / 2 ^ a := by
    rw [Nat.mod_mod_of_dvd y (Nat.pow_dvd_pow 2 h), pow_add, Nat.mod_mul_right_div_self]
  rw [bitsOf, bitsOf, Nat.shiftRight_eq_div_pow, Nat.shiftRight_eq_div_pow, hlow, hlow x, stPut_mod]

theorem bitsOf_stPut_above {lo n a : Nat} (h : lo + n ≤ a) (x m v : Nat) :
    bitsOf (stPut x lo n v) a m = bitsOf x a m := by
  have hhigh (y : Nat) : y / 2 ^ a = y / 2 ^ (lo + n) / 2 ^ (a - (lo + n)) := by
    rw [Nat.div_div_eq_div_mul, ← pow_add, Nat.add_sub_cancel' h]
  rw [bitsOf, bitsOf, Nat.shiftRight_eq_div_pow, Nat.shiftRight_eq_div_pow, hhigh, hhigh x, stPut_div_above]

theorem stPut_lt {x lo n m : Nat} (hx : x < 2 ^ m) (h : lo + n ≤ m) (v : Nat) : stPut x lo n v < 2 ^ m := by
  have hsplit : 2 ^ m = 2 ^ (lo + n) * 2 ^ (m - (lo + n)) := by rw [← pow_add, Nat.add_sub_cancel' h]
  have hdiv : stPut x lo n v / 2 ^ (lo + n) < 2 ^ (m - (lo + n)) := by
    rw [stPut_div_above]; exact Nat.div_lt_of_lt_mul (hsplit ▸ hx)
  rw [hsplit]
  exact (Nat.div_lt_iff_lt_mul (Nat.two_pow_pos _)).mp hdiv |>.trans_eq (Nat.mul_comm _ _)

/-! ## Elements -/

theorem ewBits_pos (ew : EW) : 0 < ewBits ew := Nat.mul_pos (by decide) (Nat.two_pow_pos _)

/-- An element below the number of elements of a register lies in the register. -/
theorem elem_fits {w j : Nat} (h : j < 256 / w) : w * j + w ≤ 256 := by
  rw [← Nat.mul_succ, Nat.mul_comm]
  exact Nat.mul_le_of_le_div w (j + 1) 256 h

theorem elemOf_lt (v : BitVec 256) (w j : Nat) : elemOf v w j < 2 ^ w := Nat.mod_lt _ (Nat.two_pow_pos w)

theorem putElem_toNat (v : BitVec 256) {w i : Nat} (h : w * i + w ≤ 256) (x : Nat) :
    (putElem v w i x).toNat = stPut v.toNat (w * i) w x := by
  show (BitVec.ofNat 256 (stPut v.toNat (w * i) w x)).toNat = _
  rw [BitVec.toNat_ofNat, Nat.mod_eq_of_lt (stPut_lt v.isLt h x)]

theorem elemOf_putElem_same (v : BitVec 256) {w i : Nat} (h : w * i + w ≤ 256) (x : Nat) :
    elemOf (putElem v w i x) w i = x % 2 ^ w := by
  rw [elemOf, putElem_toNat v h, bitsOf_stPut_same]

theorem elemOf_putElem_other (v : BitVec 256) {w i j : Nat} (h : w * i + w ≤ 256) (hj : j ≠ i) (x : Nat) :
    elemOf (putElem v w i x) w j = elemOf v w j := by
  rw [elemOf, elemOf, putElem_toNat v h]
  rcases Nat.lt_or_gt_of_ne hj with hlt | hgt
  · exact bitsOf_stPut_below (by rw [← Nat.mul_succ]; exact Nat.mul_le_mul_left w hlt) _ _ _
  · exact bitsOf_stPut_above (by rw [← Nat.mul_succ]; exact Nat.mul_le_mul_left w hgt) _ _ _

theorem numsFrom_eq_range' (lo n : Nat) : numsFrom lo n = List.range' lo n := by
  induction n generalizing lo with
  | zero => rfl
  | succ n ih => rw [numsFrom, ih, List.range'_succ]

theorem numsFrom_zero_eq_range (n : Nat) : numsFrom 0 n = List.range n := by
  rw [numsFrom_eq_range', List.range_eq_range']

theorem mapElems_succ (v : BitVec 256) (w n : Nat) (f : Nat → Nat) :
    mapElems v w (n + 1) f = putElem (mapElems v w n f) w n (f n) := by
  rw [mapElems, mapElems, numsFrom_zero_eq_range, numsFrom_zero_eq_range, List.range_succ, List.foldl_append]
  rfl

/-- Elements below n take their new values, the others are kept (R257). -/
theorem elemOf_mapElems (v : BitVec 256) {w n : Nat} (hn : n ≤ 256 / w) (f : Nat → Nat) (j : Nat) :
    elemOf (mapElems v w n f) w j = if j < n then f j % 2 ^ w else elemOf v w j := by
  induction n with
  | zero => rfl
  | succ n ih =>
    have hfits : w * n + w ≤ 256 := elem_fits hn
    rw [mapElems_succ]
    rcases Nat.lt_trichotomy j n with hlt | rfl | hgt
    · rw [elemOf_putElem_other _ hfits (Nat.ne_of_lt hlt), ih (Nat.le_of_succ_le hn), if_pos hlt,
        if_pos (Nat.lt_succ_of_lt hlt)]
    · rw [elemOf_putElem_same _ hfits, if_pos (Nat.lt_succ_self j)]
    · rw [elemOf_putElem_other _ hfits (Nat.ne_of_gt hgt), ih (Nat.le_of_succ_le hn), if_neg (Nat.not_lt_of_gt hgt),
        if_neg (by omega)]

end Sys2Proof.Machine
end

section
/-! PROOF. A vector word that issues with the unit On: it computes in a state that reads as the fetched one does (R220,
R257, R304). -/

namespace Sys2Proof.Machine

/-! ## What the start of a vector word leaves -/

theorem cr_setCr_other (c : CoreS) {m n : Nat} (v : Nat) (h : n ≠ m) : (c.setCr m v).cr n = c.cr n := by
  rw [CoreS.cr, CoreS.cr, CoreS.setCr, find_set_other _ _ h]

/-- The vector instruction under way is no result that a general register waits for. -/
theorem seenG_underWay (l : GLoc) (r : List Flight) :
    seenG l (r.filter (fun f => f != .vec) ++ [.vec]) = seenG l r := by
  induction r with
  | nil => rfl
  | cons f r ih =>
    cases f with
    | vec => exact ih.trans Option.or_none.symm
    | g m v d a => exact congrArg (fun o : Option Word => o.or _) ih
    | c m v a => exact congrArg (fun o : Option Word => o.or none) ih

/-- Nor one that a capability register waits for. -/
theorem seenC_underWay (l : CLoc) (r : List Flight) :
    seenC l (r.filter (fun f => f != .vec) ++ [.vec]) = seenC l r := by
  induction r with
  | nil => rfl
  | cons f r ih =>
    cases f with
    | vec => exact ih.trans Option.or_none.symm
    | g m v d a => exact congrArg (fun o : Option Cap => o.or none) ih
    | c m v a => exact congrArg (fun o : Option Cap => o.or _) ih

theorem gLoc_vectorLast (c : CoreS) (k n : Nat) : c.vectorLast.gLoc k n = c.gLoc k n := by
  have hshape : c.vectorLast.shape k = c.shape k := by
    rw [CoreS.shape, CoreS.shape, show c.vectorLast.cr 5 = c.cr 5 from cr_setCr_other c _ (by decide)]
  simp only [CoreS.gLoc, hshape]
  rfl

theorem getG_vectorLast (c : CoreS) (k n : Nat) : c.vectorLast.getG k n = c.getG k n := by
  rw [CoreS.getG, CoreS.getG, gLoc_vectorLast]
  split
  · rfl
  · next l _ => cases l <;> rfl

theorem getG_vectorStarts (c : CoreS) (k n : Nat) : c.vectorStarts.getG k n = c.getG k n := by
  have hseen (l : GLoc) : seenG l c.vectorStarts.flights = seenG l c.flights := seenG_underWay l _
  rw [CoreS.getG, CoreS.getG, show c.vectorStarts.gLoc k n = c.gLoc k n from gLoc_vectorLast c k n]
  split
  · rfl
  · next l _ => rw [hseen]; cases l <;> rfl

theorem getC_vectorStarts (c : CoreS) (n : Nat) : c.vectorStarts.getC n = c.getC n := by
  have hseen (l : CLoc) : seenC l c.vectorStarts.flights = seenC l c.flights := seenC_underWay l _
  rw [CoreS.getC, CoreS.getC, show c.vectorStarts.cLoc n = c.cLoc n from rfl]
  split
  · rfl
  · next l _ => rw [hseen]; cases l <;> rfl

end Sys2Proof.Machine

namespace Sys2Proof.Claims

open Sys2Proof.Machine

@[simp] theorem g_busy (t : State) (k : CoreId) (n : Nat) : (busy t k).g k.val n = t.g k.val n := by
  rw [State.g, busy, core_onCore_same, getG_vectorStarts, State.g]

@[simp] theorem c_busy (t : State) (k : CoreId) (n : Nat) : (busy t k).c k.val n = t.c k.val n := by
  rw [State.c, busy, core_onCore_same, getC_vectorStarts, State.c]

@[simp] theorem v_busy (t : State) (k : CoreId) (n : Nat) : (busy t k).v k.val n = t.v k.val n := by
  rw [State.v, busy, core_onCore_same]; rfl

@[simp] theorem elems_busy (t : State) (k : CoreId) (ew : EW) : (busy t k).elems k.val ew = count t k ew := by
  rw [State.elems, State.vl, busy, core_onCore_same]; rfl

@[simp] theorem vsrcElem_busy (t : State) (k : CoreId) (b : VSrc) (ew : EW) (j : Nat) :
    (busy t k).vsrcElem k.val b (ewBits ew) j = operand t k ew b j := by
  cases b with
  | vec vb => rw [State.vsrcElem, v_busy]; rfl
  | scal gb => rw [State.vsrcElem, g_busy]; rfl

theorem count_le (t : State) (k : CoreId) (ew : EW) : count t k ew ≤ 256 / (8 * 2 ^ ew.val) := Nat.min_le_right _ _

theorem operand_lt (t : State) (k : CoreId) (ew : EW) (b : VSrc) (j : Nat) :
    operand t k ew b j < 2 ^ (8 * 2 ^ ew.val) := by
  cases b with
  | vec vb => exact elemOf_lt _ _ _
  | scal gb => exact Nat.mod_lt _ (Nat.two_pow_pos _)

/-! ## Vector words -/

section words

variable {s t u : State} {k : CoreId} {p : Guard} {i : Instr} {legal : Bool} {body : State → Act} {start : CoreS → CoreS}

theorem IssuesV.unit_completes (h : IssuesV s t k p) (he : exec i s = .next (s.issueUnit k.val legal p start body))
    (hl : legal = true) (hb : body (t.onCore k.val start) = .done u) : Does i s (after k u) := by
  obtain ⟨hissue, hven, hon⟩ := h
  exact hissue.completes he (by rw [hl, Bool.true_and]; exact hven) (by rw [if_neg hon, hb])

theorem IssuesV.completes (h : IssuesV s t k p) (he : exec i s = .next (s.issueVector k.val legal p body))
    (hl : legal = true) (hb : body (busy t k) = .done u) : Does i s (after k u) :=
  h.unit_completes he hl hb

theorem IssuesV.illegal (h : IssuesV s t k p) (he : exec i s = .next (s.issueVector k.val legal p body))
    (hl : legal = false) : Does i s (t.trap k.val ⟨cIllegal, 0, 0⟩ (t.here k.val)) :=
  Issues.illegal h.1 he (by rw [hl, Bool.false_and])

/-- A vector word writes what its element function gives below n (R257). -/
theorem IssuesV.writes {ew : EW} {vd : VReg} {f g : Nat → Nat} (h : IssuesV s t k p)
    (he : exec i s = .next (s.issueVector k.val legal p body)) (hl : legal = true)
    (hb : body (busy t k) = .done ((busy t k).setV k.val vd.val
      (mapElems (t.v k.val vd.val) (ewBits ew) (count t k ew) g)))
    (hg : ∀ j, j < count t k ew → g j % 2 ^ (8 * 2 ^ ew.val) = f j) : WritesV i s t k ew vd f := by
  have helem := elemOf_mapElems (t.v k.val vd.val) (count_le t k ew) g
  refine ⟨_, h.completes he hl hb, fun j hj => ?_, fun j hj _ => ?_⟩
  · exact (helem j).trans ((if_pos hj).trans (hg j hj))
  · exact (helem j).trans (if_neg (Nat.not_lt_of_le hj))

end words

end Sys2Proof.Claims
end

section
/-! PROOF. Vector arithmetic and geometry (R259, R263-R267): the model's element functions are the rules'. -/

namespace Sys2Proof.Claims

open Sys2Proof.Machine

/-! ## Signed elements -/

theorem toSigned_eq_sval {w x : Nat} (h : x < 2 ^ w) : toSigned w x = sval w x := by
  rw [toSigned, sval, Nat.mod_eq_of_lt h]
  push_cast
  rfl

theorem two_pow_pred {w : Nat} (hw : 0 < w) : 2 ^ w = 2 * 2 ^ (w - 1) := by
  rw [← pow_succ', Nat.sub_add_cancel hw]

theorem sval_bounds {w x : Nat} (hw : 0 < w) (h : x < 2 ^ w) :
    -(2 ^ (w - 1) : Nat) ≤ sval w x ∧ sval w x < (2 ^ (w - 1) : Nat) := by
  have hpow : ((2 : Int) ^ w) = 2 * (2 ^ (w - 1) : Nat) := by exact_mod_cast two_pow_pred hw
  rw [two_pow_pred hw] at h
  rw [sval, hpow]
  split <;> omega

theorem ofSigned_eq (w : Nat) (i : Int) : ofSigned w i = (i % 2 ^ w).toNat := by
  rw [ofSigned]; push_cast; rfl

theorem ofSigned_lt (w : Nat) (i : Int) : ofSigned w i < 2 ^ w := by
  have hpos : (0 : Int) < (2 ^ w : Nat) := by exact_mod_cast Nat.two_pow_pos w
  rw [ofSigned, Int.toNat_lt' (Nat.two_pow_pos w)]
  exact Int.emod_lt_of_pos i hpos

theorem clipInt_eq {lo hi : Int} (h : lo ≤ hi) (i : Int) : clipInt lo hi i = max lo (min i hi) := by
  rw [clipInt]
  split
  case isTrue hlow => rw [min_eq_left (hlow.le.trans h), max_eq_left hlow.le]
  case isFalse hlow =>
    split
    case isTrue hhigh => rw [min_eq_right hhigh.le, max_eq_right h]
    case isFalse hhigh => rw [min_eq_left (not_lt.mp hhigh), max_eq_right (not_lt.mp hlow)]

theorem saturate_eq_satTo (w : Nat) (i : Int) : saturate w i = satTo w i := by
  have hpos : (0 : Int) < (2 ^ (w - 1) : Nat) := by exact_mod_cast Nat.two_pow_pos (w - 1)
  rw [saturate, clipInt_eq (by omega), ofSigned_eq, satTo]
  push_cast
  rfl

/-- A difference of two signed elements fits an element as an unsigned value (R259 ABSD). -/
theorem natAbs_sub_lt {w x y : Nat} (hw : 0 < w) (hx : x < 2 ^ w) (hy : y < 2 ^ w) :
    (sval w x - sval w y).natAbs < 2 ^ w := by
  obtain ⟨hxlo, hxhi⟩ := sval_bounds hw hx
  obtain ⟨hylo, hyhi⟩ := sval_bounds hw hy
  rw [two_pow_pred hw]
  omega

/-! ## VVV and VVS -/

/-- The functions of R259 on the values of `w`-bit elements. -/
def vecValue (f : VecF) (w x y : Nat) : Nat :=
  match f with
  | .add => (x + y) % 2 ^ w
  | .sub => (((x : Int) - y) % 2 ^ w).toNat
  | .mul => x * y % 2 ^ w
  | .mulh => (sval w x * sval w y / 2 ^ w % 2 ^ w).toNat
  | .and => x &&& y
  | .or => x ||| y
  | .xor => x ^^^ y
  | .min => if sval w x ≤ sval w y then x else y
  | .max => if sval w x ≤ sval w y then y else x
  | .minu => min x y
  | .maxu => max x y
  | .sll => x * 2 ^ (y % w) % 2 ^ w
  | .srl => x / 2 ^ (y % w)
  | .sra => (sval w x / 2 ^ (y % w) % 2 ^ w).toNat
  | .sadd => satTo w (sval w x + sval w y)
  | .ssub => satTo w (sval w x - sval w y)
  | .absd => (sval w x - sval w y).natAbs

theorem vecElem_sub {w x y : Nat} (hy : y < 2 ^ w) : vecElem .sub w x y = (((x : Int) - y) % 2 ^ w).toNat := by
  have hcast : ((x + 2 ^ w - y : Nat) : Int) = (x : Int) - y + 2 ^ w := by
    rw [Nat.cast_sub (by omega)]; push_cast; ring
  have hmod : ((x : Int) - y) % 2 ^ w = ((x + 2 ^ w - y) % 2 ^ w : Nat) := by
    rw [Int.natCast_mod, hcast]; push_cast; rw [Int.add_emod_right]
  rw [hmod, Int.toNat_natCast, vecElem, Nat.mod_eq_of_lt hy]

/-- The model's element functions compute R259's. -/
theorem vecElem_eq_vecValue (f : VecF) {w x y : Nat} (hx : x < 2 ^ w) (hy : y < 2 ^ w) :
    vecElem f w x y = vecValue f w x y := by
  have hsx := toSigned_eq_sval hx
  have hsy := toSigned_eq_sval hy
  cases f with
  | sub => exact vecElem_sub hy
  | mulh => rw [vecElem, vecValue, hsx, hsy, ofSigned_eq]; push_cast; rfl
  | min => rw [vecElem, vecValue, hsx, hsy]
  | max => rw [vecElem, vecValue, hsx, hsy]
  | sll => rw [vecElem, vecValue, Nat.shiftLeft_eq]
  | srl => rw [vecElem, vecValue, Nat.shiftRight_eq_div_pow]
  | sra => rw [vecElem, vecValue, hsx, ofSigned_eq]; push_cast; rfl
  | sadd => rw [vecElem, vecValue, hsx, hsy, saturate_eq_satTo]
  | ssub => rw [vecElem, vecValue, hsx, hsy, saturate_eq_satTo]
  | absd => rw [vecElem, vecValue, hsx, hsy]
  | add | mul | and | or | xor | minu | maxu => rfl

/-- Every function of R259 gives a value that an element holds. -/
theorem vecElem_lt (f : VecF) {w x y : Nat} (hw : 0 < w) (hx : x < 2 ^ w) (hy : y < 2 ^ w) :
    vecElem f w x y < 2 ^ w := by
  have hmod (n : Nat) : n % 2 ^ w < 2 ^ w := Nat.mod_lt n (Nat.two_pow_pos w)
  cases f with
  | add | sub | mul | sll => exact hmod _
  | mulh | sra | sadd | ssub => exact ofSigned_lt w _
  | and => exact Nat.and_lt_two_pow x hy
  | or => exact Nat.or_lt_two_pow hx hy
  | xor => exact Nat.xor_lt_two_pow hx hy
  | min => rw [vecElem]; split <;> assumption
  | max => rw [vecElem]; split <;> assumption
  | minu => exact (Nat.min_le_left x y).trans_lt hx
  | maxu => exact Nat.max_lt.mpr ⟨hx, hy⟩
  | srl => exact (Nat.shiftRight_le x _).trans_lt hx
  | absd =>
    rw [vecElem_eq_vecValue _ hx hy]
    exact natAbs_sub_lt hw hx hy

/-! ## Geometry -/

theorem pointOf_eq_point {w x : Nat} (hw : w = w / 2 + w / 2) (h : x < 2 ^ w) : pointOf w x = point w x := by
  have hlow : x % 2 ^ (w / 2) < 2 ^ (w / 2) := Nat.mod_lt x (Nat.two_pow_pos _)
  have hhigh : x / 2 ^ (w / 2) < 2 ^ (w / 2) := Nat.div_lt_of_lt_mul (by rwa [← pow_add, ← hw])
  rw [pointOf, point, Nat.shiftRight_eq_div_pow, toSigned_eq_sval hlow, toSigned_eq_sval hhigh]

theorem ewBits_eq_halves (ew : EW) : ewBits ew = ewBits ew / 2 + ewBits ew / 2 := by
  rw [ewBits]; omega

theorem vpsdElem_eq (w : Nat) (p a b : Int × Int) (m : Nat) :
    vpsdElem w p a b m = min (min (segDist p a b).toNat (2 ^ w - 1)) m := by
  simp only [vpsdElem, segDist, normSq, Bool.or_eq_true, decide_eq_true_eq, ge_iff_le]

theorem vswinElem_eq (w : Nat) (p lo hi : Int × Int) (m : Nat) :
    vswinElem w p lo hi m =
      if lo.1 ≤ p.1 ∧ p.1 ≤ hi.1 ∧ lo.2 ≤ p.2 ∧ p.2 ≤ hi.2 then 2 ^ w - 1 else m := by
  simp only [vswinElem, Bool.and_eq_true, decide_eq_true_eq, and_assoc]

theorem pointOf_elem (t : State) (k : CoreId) (ew : EW) (v : VReg) (j : Nat) :
    pointOf (ewBits ew) (elemOf (t.v k.val v.val) (ewBits ew) j) = point (8 * 2 ^ ew.val) (elem t k ew v j) :=
  pointOf_eq_point (ewBits_eq_halves ew) (elemOf_lt _ _ _)

theorem pointG_busy (t : State) (k : CoreId) (ew : EW) (g : Nat) :
    (busy t k).pointG k.val g (ewBits ew) =
      point (8 * 2 ^ ew.val) ((t.g k.val g).toNat % 2 ^ (8 * 2 ^ ew.val)) := by
  rw [State.pointG, g_busy]
  exact pointOf_eq_point (ewBits_eq_halves ew) (Nat.mod_lt _ (Nat.two_pow_pos _))

theorem geoLegal_pair {ew : EW} {gs : GReg} (hew : 2 ≤ ew.val) (heven : gs.val % 2 = 0) :
    geoLegal ew gs true = true := by simp [geoLegal, hew, heven]

/-! ## Words -/

section words

variable {s t : State} {k : CoreId} {p : Guard} {i : Instr} {vd va vb : VReg} {gs : GReg} {ew : EW}

/-- A VVV or VVS word writes its function of the elements (R259). -/
theorem IssuesV.writesVV {b : VSrc} {f : VecF} (h : IssuesV s t k p)
    (he : exec i s = .next (s.issueVV k p f vd va b ew)) :
    WritesV i s t k ew vd fun j => vecValue f (8 * 2 ^ ew.val) (elem t k ew va j) (operand t k ew b j) := by
  refine h.writes he rfl (by simp only [v_busy, elems_busy, vsrcElem_busy]; rfl) fun j _ => ?_
  have hx : elem t k ew va j < 2 ^ (8 * 2 ^ ew.val) := elemOf_lt _ _ _
  have hy := operand_lt t k ew b j
  rw [← vecElem_eq_vecValue f hx hy]
  exact Nat.mod_eq_of_lt (vecElem_lt f (ewBits_pos ew) hx hy)

theorem IssuesV.vbcast (h : IssuesV s t k p) (gs : GReg) :
    WritesV (.vbcast k p vd gs ew) s t k ew vd fun _ => (t.g k.val gs.val).toNat % 2 ^ (8 * 2 ^ ew.val) :=
  h.writes rfl rfl (by simp only [v_busy, elems_busy, g_busy]) fun _ _ => rfl

theorem IssuesV.vpsd (h : IssuesV s t k p) (hew : 2 ≤ ew.val) (heven : gs.val % 2 = 0) :
    let w := 8 * 2 ^ ew.val
    let pg (g : Nat) := point w ((t.g k.val g).toNat % 2 ^ w)
    WritesV (.vpsd k p vd va vb gs ew) s t k ew vd fun j =>
      min (min (segDist (point w (elem t k ew va j)) (pg gs.val) (pg (gs.val + 1))).toNat (2 ^ w - 1))
        (elem t k ew vb j) := by
  intro w pg
  refine h.writes rfl (geoLegal_pair hew heven)
    (by simp only [v_busy, elems_busy, pointOf_elem, pointG_busy, vpsdElem_eq]; rfl) fun j _ => ?_
  exact Nat.mod_eq_of_lt ((Nat.min_le_right _ _).trans_lt (elemOf_lt _ _ _))

theorem IssuesV.vswin (h : IssuesV s t k p) (hew : 2 ≤ ew.val) (heven : gs.val % 2 = 0) :
    let w := 8 * 2 ^ ew.val
    let pg (g : Nat) := point w ((t.g k.val g).toNat % 2 ^ w)
    WritesV (.vswin k p vd va vb gs ew) s t k ew vd fun j =>
      let q := point w (elem t k ew va j)
      let lo := pg gs.val
      let hi := pg (gs.val + 1)
      if lo.1 ≤ q.1 ∧ q.1 ≤ hi.1 ∧ lo.2 ≤ q.2 ∧ q.2 ≤ hi.2 then 2 ^ w - 1 else elem t k ew vb j := by
  intro w pg
  refine h.writes rfl (geoLegal_pair hew heven)
    (by simp only [v_busy, elems_busy, pointOf_elem, pointG_busy, vswinElem_eq]; rfl) fun j _ => ?_
  have hm : elem t k ew vb j < 2 ^ w := elemOf_lt _ _ _
  refine Nat.mod_eq_of_lt ?_
  split
  · exact Nat.sub_lt (Nat.two_pow_pos w) Nat.one_pos
  · exact hm

end words

/-- Settles O21: every VVV and VVS word is one element function of the model, and the two words of geometry are others;
each gives what its rule says below n, and the register keeps its other elements. -/
theorem vectorArithmeticIsElementwise : Obligations.VectorArithmeticIsElementwise := by
  unfold Obligations.VectorArithmeticIsElementwise
  intro k p vd va vb b gs ew s t h w x y m pg
  exact ⟨h.writesVV (f := .add) rfl, h.writesVV (f := .sub) rfl, h.writesVV (f := .mul) rfl, h.writesVV (f := .mulh) rfl,
    h.writesVV (f := .and) rfl, h.writesVV (f := .or) rfl, h.writesVV (f := .xor) rfl, h.writesVV (f := .min) rfl,
    h.writesVV (f := .max) rfl, h.writesVV (f := .minu) rfl, h.writesVV (f := .maxu) rfl, h.writesVV (f := .sll) rfl,
    h.writesVV (f := .srl) rfl, h.writesVV (f := .sra) rfl, h.writesVV (f := .sadd) rfl, h.writesVV (f := .ssub) rfl,
    h.writesVV (f := .absd) rfl, h.vbcast gs, fun hew heven => ⟨h.vpsd hew heven, h.vswin hew heven⟩⟩

end Sys2Proof.Claims
end

section
/-! PROOF. SETVL, the vector moves and reductions, the vector loads and stores, VPACC, and the vector unit's states (R221,
R257, R258, R260, R261, R266). -/

namespace Sys2Proof.Machine

/-! ## The square root of R266 -/

/-- Each step halves the interval that holds the root. -/
theorem isqrtFrom_spec {x : Nat} (n : Nat) {r : Nat} (hlo : r * r ≤ x) (hhi : x < (r + 2 ^ n) * (r + 2 ^ n)) :
    isqrtFrom x r n * isqrtFrom x r n ≤ x ∧ x < (isqrtFrom x r n + 1) * (isqrtFrom x r n + 1) := by
  induction n generalizing r with
  | zero => exact ⟨hlo, hhi⟩
  | succ n ih =>
    rw [isqrtFrom]
    split
    case isTrue hstep => exact ih hstep (by rwa [Nat.add_assoc, ← Nat.two_mul, ← pow_succ'])
    case isFalse hstep => exact ih hlo (not_le.mp hstep)

theorem isqrtFrom_zero_spec {x : Nat} (h : x < 2 ^ 80) :
    isqrtFrom x 0 40 * isqrtFrom x 0 40 ≤ x ∧ x < (isqrtFrom x 0 40 + 1) * (isqrtFrom x 0 40 + 1) :=
  isqrtFrom_spec 40 (Nat.zero_le x) (h.trans_eq (by norm_num))

/-! ## Values of a general register's width -/

theorem ofNat_ofSigned (i : Int) : BitVec.ofNat 64 (ofSigned 64 i) = BitVec.ofInt 64 i :=
  BitVec.eq_of_toNat_eq (by
    rw [BitVec.toNat_ofNat, BitVec.toNat_ofInt, ofSigned, Nat.mod_eq_of_lt]
    exact (Int.toNat_lt' (by decide)).mpr (Int.emod_lt_of_pos i (by decide)))

theorem ewBits_div_eight (ew : EW) : ewBits ew / 8 = 2 ^ ew.val := Nat.mul_div_cancel_left _ (by decide)

/-! ## The vector unit -/

/-- A core whose vector unit is Waking is at no interruptible point: no STOP takes effect (R221, R272). -/
theorem tryStop_waking {s : State} {k : Nat} (h : (s.core k).vunit = .waking) : s.tryStop k = s := by
  have hstay : (s.core k).mayLeave = false := by simp [CoreS.mayLeave, CoreS.interruptible, h]
  simp only [State.tryStop, hstay, Bool.and_false, Bool.false_eq_true, if_false]
  split <;> rfl

theorem cr_setCr_same (c : CoreS) {n v : Nat} (h : v < 2 ^ 64) : (c.setCr n v).cr n = v := by
  rw [CoreS.cr, CoreS.setCr, find_set_same]
  exact Nat.mod_eq_of_lt h

/-- A wake counts one in the upper half of VSTAT, up to all ones (R221, R222). -/
theorem cr_wake (c : CoreS) : c.wake.cr 28 / 2 ^ 32 = min (c.cr 28 / 2 ^ 32 + 1) (2 ^ 32 - 1) := by
  have hcr : c.wake.cr 28 = satAdd 32 (c.cr 28 >>> 32) 1 * 2 ^ 32 + c.cr 28 % 2 ^ 32 :=
    cr_setCr_same c (by rw [satAdd]; omega)
  rw [hcr, satAdd, Nat.shiftRight_eq_div_pow]
  omega

theorem vectorBusy_eq_false {c : CoreS} (hvec : Flight.vec ∉ c.flights) (hwoken : c.woken = false) :
    c.vectorBusy = false := by
  rw [CoreS.vectorBusy, hwoken, Bool.false_or, List.any_eq_false]
  intro f hf
  rw [decide_eq_true_iff]
  exact fun heq => hvec (heq ▸ hf)

end Sys2Proof.Machine

namespace Sys2Proof.Claims

open Sys2Proof.Machine

/-! ## Distances of points -/

/-- Coordinates of a point are signed 32-bit values at most (R263). -/
theorem point_bounds (ew : EW) {x : Nat} (h : x < 2 ^ (8 * 2 ^ ew.val)) :
    let q := point (8 * 2 ^ ew.val) x
    (-2 ^ 31 ≤ q.1 ∧ q.1 < 2 ^ 31) ∧ -2 ^ 31 ≤ q.2 ∧ q.2 < 2 ^ 31 := by
  have hhalves := ewBits_eq_halves ew
  have hpos := ewBits_pos ew
  have hle : ewBits ew ≤ 64 :=
    Nat.mul_le_mul_left 8 (Nat.pow_le_pow_right (n := 2) (by decide) (Nat.le_of_lt_succ ew.isLt))
  rw [← ewBits] at h ⊢
  generalize ewBits ew = w at *
  have hhigh : x / 2 ^ (w / 2) < 2 ^ (w / 2) := Nat.div_lt_of_lt_mul (by rwa [← pow_add, ← hhalves])
  have hpow : (2 ^ (w / 2 - 1) : Nat) ≤ 2 ^ 31 := Nat.pow_le_pow_right (by decide) (by omega)
  obtain ⟨hxlo, hxhi⟩ := sval_bounds (by omega) (Nat.mod_lt x (Nat.two_pow_pos (w / 2)))
  obtain ⟨hylo, hyhi⟩ := sval_bounds (by omega) hhigh
  simp only [point]
  omega

theorem sq_sub_le {a b : Int} (ha : -2 ^ 31 ≤ a ∧ a < 2 ^ 31) (hb : -2 ^ 31 ≤ b ∧ b < 2 ^ 31) :
    (a - b) * (a - b) ≤ 2 ^ 64 := by
  have habs : |a - b| ≤ 2 ^ 32 := abs_le.mpr (by omega)
  calc (a - b) * (a - b) = |a - b| * |a - b| := (abs_mul_abs_self _).symm
    _ ≤ 2 ^ 32 * 2 ^ 32 := mul_le_mul habs habs (abs_nonneg _) (by norm_num)
    _ = 2 ^ 64 := by norm_num

theorem normSq_lt (ew : EW) {x y : Nat} (hx : x < 2 ^ (8 * 2 ^ ew.val)) (hy : y < 2 ^ (8 * 2 ^ ew.val)) :
    (normSq (point (8 * 2 ^ ew.val) x) (point (8 * 2 ^ ew.val) y)).toNat < 2 ^ 80 := by
  obtain ⟨hx1, hx2⟩ := point_bounds ew hx
  obtain ⟨hy1, hy2⟩ := point_bounds ew hy
  have h1 := sq_sub_le hx1 hy1
  have h2 := sq_sub_le hx2 hy2
  rw [normSq]
  omega

/-- A step of VPACC adds the floor of the step's length (R266). -/
theorem vpaccElem_spec (ew : EW) {x y : Nat} (hx : x < 2 ^ (8 * 2 ^ ew.val)) (hy : y < 2 ^ (8 * 2 ^ ew.val)) (m : Nat) :
    let w := 8 * 2 ^ ew.val
    let d := (normSq (point w x) (point w y)).toNat
    ∃ r, r * r ≤ d ∧ d < (r + 1) * (r + 1) ∧ vpaccElem w (point w x) (point w y) m = min (m + r) (2 ^ w - 1) := by
  intro w d
  obtain ⟨hlo, hhi⟩ := isqrtFrom_zero_spec (normSq_lt ew hx hy)
  exact ⟨_, hlo, hhi, rfl⟩

/-! ## What the reductions read -/

theorem elemList_busy (t : State) (k : CoreId) (v : VReg) (ew : EW) :
    (busy t k).elemList k.val v.val ew = (List.range (count t k ew)).map (elem t k ew v) := by
  rw [State.elemList, elems_busy, v_busy, numsFrom_zero_eq_range]
  rfl

theorem signedList_busy (t : State) (k : CoreId) (v : VReg) (ew : EW) :
    ((busy t k).elemList k.val v.val ew).map (toSigned (ewBits ew)) =
      (List.range (count t k ew)).map fun j => sval (8 * 2 ^ ew.val) (elem t k ew v j) := by
  rw [elemList_busy, List.map_map]
  exact List.map_congr_left fun j _ => toSigned_eq_sval (elemOf_lt _ _ _)

/-! ## Words -/

/-- vl of the running task's context reads as it was set (R220). -/
theorem vl_set (s : State) (k n : Nat) (h : n < 2 ^ 64) :
    (s.onCore k fun c => { c with vl := c.vl.set c.ctx (BitVec.ofNat 64 n) }).vl k = n := by
  rw [State.vl, core_onCore_same]
  show (((s.core k).vl.set (s.core k).ctx (BitVec.ofNat 64 n)).get 0 (s.core k).ctx).toNat = n
  rw [get_set_same, BitVec.toNat_ofNat, Nat.mod_eq_of_lt h]

section words

variable {s t : State} {k : CoreId} {p : Guard} {i : Instr} {v va vb : VReg} {g gd : GReg} {cs : CReg} {ew : EW}
  {i12 : BitVec 12} {idx : Fin 32}

theorem IssuesV.setvl (h : IssuesV s t k p) :
    let n := min (t.g k.val g.val).toNat (256 / (8 * 2 ^ ew.val))
    ∃ u : State, Does (.setvl k p gd g ew) s (after k (u.setG k.val gd.val (BitVec.ofNat 64 n))) ∧
      u.vl k.val = n + 64 * ew.val ∧ u.mem = t.mem := by
  intro n
  have hread : (t.onCore k.val CoreS.vectorLast).g k.val g.val = t.g k.val g.val := by
    rw [State.g, core_onCore_same, getG_vectorLast, State.g]
  have hsmall : n + 64 * ew.val < 2 ^ 64 := by
    have hn : n ≤ 256 / (8 * 2 ^ ew.val) := Nat.min_le_right _ _
    have hdiv := Nat.div_le_self 256 (8 * 2 ^ ew.val)
    omega
  refine ⟨(t.onCore k.val CoreS.vectorLast).onCore k.val fun c =>
    { c with vl := c.vl.set c.ctx (BitVec.ofNat 64 (n + 64 * ew.val)) }, ?_, vl_set _ _ _ hsmall, rfl⟩
  exact h.unit_completes rfl rfl (by simp only [hread, Nat.mul_comm ew.val 64]; rfl)

/-- A VMOV to a general register sends what its function reads (R260). -/
theorem IssuesV.writesVG {legal : Bool} {f : State → Nat} {x : Word} (h : IssuesV s t k p)
    (he : exec i s = .next (s.issueVG k p g legal f)) (hl : legal = true) (hf : BitVec.ofNat 64 (f (busy t k)) = x) :
    WritesVG i s t k g x := h.completes he hl (by rw [hf])

theorem IssuesV.vexti (h : IssuesV s t k p) (hidx : idx.val < 256 / (8 * 2 ^ ew.val)) :
    WritesVG (.vexti k p v g ew idx) s t k g (BitVec.ofInt 64 (sval (8 * 2 ^ ew.val) (elem t k ew v idx.val))) :=
  h.writesVG rfl (decide_eq_true hidx)
    (by rw [ofNat_ofSigned, v_busy]; exact congrArg (BitVec.ofInt 64) (toSigned_eq_sval (elemOf_lt _ _ _)))

theorem IssuesV.vinsi (h : IssuesV s t k p) (hidx : idx.val < 256 / (8 * 2 ^ ew.val)) :
    ∃ y, Does (.vinsi k p v g ew idx) s (after k ((busy t k).setV k.val v.val y)) ∧
      elemOf y (8 * 2 ^ ew.val) idx.val = (t.g k.val g.val).toNat % 2 ^ (8 * 2 ^ ew.val) ∧
      ∀ j, j ≠ idx.val → j < 256 / (8 * 2 ^ ew.val) → elemOf y (8 * 2 ^ ew.val) j = elem t k ew v j :=
  ⟨_, h.completes rfl (decide_eq_true hidx) (by simp only [v_busy, g_busy]; rfl),
    elemOf_putElem_same _ (elem_fits hidx) _, fun _ hj _ => elemOf_putElem_other _ (elem_fits hidx) hj _⟩

theorem IssuesV.vld (h : IssuesV s t k p) {u r : State} {l : List Passed} {y : List Nat}
    (hpass : (busy t k).passElems k.val cs.val (t.c k.val cs.val) .elemLoad (effOffset (t.c k.val cs.val) i12.toInt)
      (2 ^ ew.val) 0 (count t k ew) = .ok u l)
    (hload : (u.noteElems k.val false l).loadElems k.val cs.val (effOffset (t.c k.val cs.val) i12.toInt) (2 ^ ew.val) l =
      .ok r y) :
    Does (.vld k p v cs ew i12) s (after k (r.setV k.val v.val
      (mapElems (r.v k.val v.val) (8 * 2 ^ ew.val) (count t k ew) fun j => y.getD j 0))) :=
  h.completes rfl rfl (by
    simp only [c_busy, elems_busy, ewBits_div_eight, hpass, Got.bind, hload, act_ok]
    rfl)

theorem IssuesV.vst (h : IssuesV s t k p) {u r : State} {l : List Passed}
    (hpass : (busy t k).passElems k.val cs.val (t.c k.val cs.val) .elemStore (effOffset (t.c k.val cs.val) i12.toInt)
      (2 ^ ew.val) 0 (count t k ew) = .ok u l)
    (hstore : (u.noteElems k.val true l).storeElems k.val cs.val (effOffset (t.c k.val cs.val) i12.toInt) (2 ^ ew.val)
      (elem t k ew v) l = .ok r ()) :
    Does (.vst k p v cs ew i12) s (after k r) :=
  h.completes rfl rfl (by
    have hstore' : (u.noteElems k.val true l).storeElems k.val cs.val (effOffset (t.c k.val cs.val) i12.toInt)
      (2 ^ ew.val) (elemOf (t.v k.val v.val) (ewBits ew)) l = .ok r () := hstore
    simp only [c_busy, v_busy, elems_busy, ewBits_div_eight, hpass, Got.bind, hstore', act_ok])

theorem IssuesV.vpacc (h : IssuesV s t k p) (hew : 2 ≤ ew.val) :
    let w := 8 * 2 ^ ew.val
    let n := count t k ew
    ∃ y, Does (.vpacc k p v va vb g ew) s (after k (if n = 0 then (busy t k).setV k.val v.val y
        else ((busy t k).setV k.val v.val y).setGLong k.val g.val (BitVec.ofNat 64 (elem t k ew va (n - 1))))) ∧
      ∀ j, j < n →
        let q := point w (if j = 0 then (t.g k.val g.val).toNat % 2 ^ w else elem t k ew va (j - 1))
        let d := (normSq (point w (elem t k ew va j)) q).toNat
        ∃ r, r * r ≤ d ∧ d < (r + 1) * (r + 1) ∧ elemOf y w j = min (elem t k ew vb j + r) (2 ^ w - 1) := by
  intro w n
  refine ⟨_, h.completes rfl (by simp [geoLegal, hew])
    (by simp only [v_busy, elems_busy, pointOf_elem, pointG_busy]; rfl), fun j hj => ?_⟩
  intro q d
  have hq : (if j = 0 then (t.g k.val g.val).toNat % 2 ^ w else elem t k ew va (j - 1)) < 2 ^ w := by
    split
    · exact Nat.mod_lt _ (Nat.two_pow_pos w)
    · exact elemOf_lt _ _ _
  obtain ⟨r, hlo, hhi, hr⟩ := vpaccElem_spec ew (elemOf_lt (t.v k.val va.val) w j) hq (elem t k ew vb j)
  have hfits : min (elem t k ew vb j + r) (2 ^ w - 1) < 2 ^ w :=
    (Nat.min_le_right _ _).trans_lt (Nat.sub_lt (Nat.two_pow_pos w) Nat.one_pos)
  refine ⟨r, hlo, hhi, (elemOf_mapElems _ (count_le t k ew) _ j).trans ((if_pos hj).trans ?_)⟩
  rw [← apply_ite (point (8 * 2 ^ ew.val))]
  exact (congrArg (· % 2 ^ w) hr).trans (Nat.mod_eq_of_lt hfits)

/-- A vector word that finds the unit Off only starts its wake (R221). -/
theorem setvl_wakes (h : Issues s t k p true) (hven : bitOf (t.core k.val).status 3 = true)
    (hoff : (t.core k.val).vunit = .off) : Does (.setvl k p gd g ew) s (t.onCore k.val CoreS.wake) := by
  have hwaking : ((t.onCore k.val CoreS.wake).core k.val).vunit = .waking := by rw [core_onCore_same]; rfl
  have hdoes := h.does (i := .setvl k p gd g ew) rfl (by rw [Bool.true_and]; exact hven)
  simp only at hdoes
  rw [if_pos hoff] at hdoes
  exact hdoes.trans (congrArg Host.Outcome.next (tryStop_waking hwaking))

theorem vectorWakeComplete_does (h : (s.core k.val).vunit = .waking) :
    Does (.vectorWakeComplete k) s (s.onCore k.val fun c => { c with vunit := .on, woken := true }) :=
  congrArg Host.Outcome.next (if_pos h)

theorem vectorIdleOff_does (hon : (s.core k.val).vunit = .on) (hbusy : (s.core k.val).vectorBusy = false) :
    Does (.vectorIdleOff k) s (if (s.core k.val).cr 27 % 2 ^ 13 ≠ 0
      then s.onCore k.val fun c => { c with vunit := .off } else s) := by
  show execVectorIdleOff k s = _
  simp [execVectorIdleOff, hon, hbusy]

theorem vpwrOff_does (hon : (s.core k.val).vunit = .on) (hbusy : (s.core k.val).vectorBusy = false)
    (hreq : (s.core k.val).vreqOff = true) :
    Does (.vpwrOff k) s (s.onCore k.val fun c => { c with vunit := .off, vreqOff := false }) := by
  show execVpwrOff k s = _
  simp [execVpwrOff, hon, hbusy, hreq]

end words

/-- Settles O22: the words read the fetched state's registers and write what their rules give; a unit that is Off, Waking
or idle changes as R221 says. -/
theorem vectorMovesAndAccesses : Obligations.VectorMovesAndAccesses := by
  unfold Obligations.VectorMovesAndAccesses
  intro k p v va vb g gd cs ew idx i12 s t
  refine ⟨fun h => ?words, fun h hven hoff => ?wake, vectorWakeComplete_does, fun hon hvec hwoken => ?idle⟩
  case words =>
    intro w x n vals bz c ofs
    refine ⟨h.setvl, fun hidx => ⟨h.vexti hidx, h.vinsi hidx⟩, fun hidx => ?_, ?sum, ?min, ?max, ?minu, ?maxu,
      fun u l r y => h.vld, fun u l r => h.vst, h.vpacc⟩
    · have hillegal : decide (idx.val < ewCount ew) = false := decide_eq_false (Nat.not_lt_of_le hidx)
      exact ⟨h.illegal rfl hillegal, h.illegal rfl hillegal⟩
    case sum =>
      exact h.writesVG rfl rfl (by rw [ofNat_ofSigned, signedList_busy, List.foldl_eq_foldr]; rfl)
    case min => exact h.writesVG rfl rfl (by rw [ofNat_ofSigned, signedList_busy, List.foldl_eq_foldr])
    case max => exact h.writesVG rfl rfl (by rw [ofNat_ofSigned, signedList_busy, List.foldl_eq_foldr])
    case minu => exact h.writesVG rfl rfl (by rw [elemList_busy, List.foldl_eq_foldr])
    case maxu => exact h.writesVG rfl rfl (by rw [elemList_busy, List.foldl_eq_foldr])
  case wake =>
    refine ⟨_, setvl_wakes h hven hoff, ?_, rfl, ?_⟩
    · rw [core_onCore_same]; rfl
    · rw [core_onCore_same]; exact cr_wake _
  case idle =>
    have hbusy := vectorBusy_eq_false hvec hwoken
    have hidle := vectorIdleOff_does hon hbusy
    exact ⟨fun hcc => by rwa [if_pos hcc] at hidle, fun hcc => by rwa [if_neg (not_not_intro hcc)] at hidle,
      vpwrOff_does hon hbusy⟩

end Sys2Proof.Claims
end
